-- ==== Sys2Proof/Word.lean ====
section
/-!
DEFINITION. Word.lean: the plain widths of the block's bus and memories.
-/
namespace Sys2Proof

/-- One byte of a memory or of a frame. -/
abbrev Byte := BitVec 8

/-- One 32-bit bus word (R4). -/
abbrev Word := BitVec 32

/-- One 64-bit time value: LINK_TIME and the times compared with it (R21). -/
abbrev Time := BitVec 64

end Sys2Proof
end

