-- ==== Sys2Proof/Syntax.lean ====
section
/-!
DEFINITION. Syntax.lean: the commands and events of the block, one constructor for each row of the
spec's table of operations and events, and the small types their operands use.
-/
namespace Sys2Proof

/-- The masters of R29 and R42: the application core, the DMA, the debug module, the link cores, the host-port data path, the cipher
engine's channel ports and the reader's sequencer. -/
inductive Master where
  | app | dma | debug | link | host | cipher (q : Fin 5) | nfc
  deriving DecidableEq, Repr

/-- The two radios: the 2.4 GHz path and the sub-GHz path. -/
inductive Radio where
  | cirrus | stratus
  deriving DecidableEq, Repr

/-- The radio's number: 0 Cirrus, 1 Stratus. -/
def Radio.idx : Radio → Nat
  | .cirrus => 0
  | .stratus => 1

/-- The size of a bus access (R4, R512). -/
inductive Size where
  | byte | half | word
  deriving DecidableEq, Repr

/-- How many bytes an access of a size moves. -/
def Size.bytes : Size → Nat
  | .byte => 1
  | .half => 2
  | .word => 4

/-- What a register write addresses: an address of the bus, or a control and status register of the application core by its
number (R32, R35). -/
inductive RegAddr where
  | bus (a : Word)
  | csr (n : BitVec 12)
  deriving DecidableEq, Repr

/-- What reads the flash array: a data access; an instruction fetch of the application core; or one that the core makes after a
fence.i (R33). -/
inductive ReadKind where
  | data | fetch | fenced
  deriving DecidableEq, Repr

/-- Who waits for a key derivation (R226, R231): the frame a radio receives, or the job of a channel. -/
inductive KeyUser where
  | frame (r : Radio)
  | job (q : Fin 5)
  deriving DecidableEq, Repr

/-- The addressing of a received frame (R149): its LE access address, or its IEEE 802.15.4 source and
destination addresses and PAN ID; whether the destination is a group or broadcast address. -/
structure FrameAddr where
  access   : BitVec 32
  srcExt   : Option (BitVec 64)
  srcShort : Option (BitVec 16)
  dstShort : Option (BitVec 16)
  pan      : BitVec 16
  group    : Bool
  ctr      : BitVec 32
  got      : BitVec 11
  deriving DecidableEq, Repr

/-- Who commands a radio (R80): a write of CMD.OP in direct mode, or the frame sequencer with a start time,
an event class of R94 and the MAX_DBM of the frame's duty band. -/
inductive RadioSrc where
  | bus (m : Master)
  | seq (start : Time) (cls : BitVec 3) (maxDbm : BitVec 8)
  deriving DecidableEq, Repr

/-- What a demodulator gives: of Cirrus a signed confidence for each symbol (of coded modes, each code symbol), positive for 1; of
Stratus two samples of the discriminator for each symbol (R121). -/
abbrev Sample := BitVec 16

/-- What the AGC sees at a comparison (R119, R132): whether the ADC clipped, and the level received. -/
structure AdcLevel where
  clip : Bool
  raw  : BitVec 8
  deriving DecidableEq, Repr

/-- A transfer of a bus (R26): its size, and what it writes; none for a read. -/
structure Transfer where
  size : Size
  wr   : Option Word
  deriving DecidableEq, Repr

/-- FROM and TO of a buffer command (R261). -/
structure Owners where
  src : BitVec 4
  tgt : BitVec 4
  deriving DecidableEq, Repr

/-- Whether the two lanes' results differ in a frame's final block, in its acknowledgement's encryption and in the repeat of that
(R219, R220). -/
structure LaneDiffs where
  frame : Bool
  ack   : Bool
  again : Bool
  deriving DecidableEq, Repr

/-- An I-block's data, and whether it is chained: a part of an APDU with more of it to come (R307). -/
structure ApduPart where
  data : List Byte
  more : Bool
  deriving DecidableEq, Repr

/-- What a calibration measured for one coefficient pair (R71): the new pair, and the image rejection in dB
with the present and with the new coefficients. -/
structure IqMeas where
  gain   : BitVec 12
  phase  : BitVec 12
  before : BitVec 8
  after  : BitVec 8
  deriving DecidableEq, Repr

/-- The lead and lag times of R89. -/
inductive PinEdge where
  | rxEn | paEn | txEn | lag
  deriving DecidableEq, Repr

/-- A received frame at its last bit: its open octets, its secured payload and its MIC as received; and what
IEEE 802.15.4-2020 reads in the open octets of its frames: frame type, version, acknowledgement request,
sequence number, security (whether secured, level, key identifier mode, key index, counter), extended source
address, group destination, and the Time Correction IE in µs. -/
structure RxFrame where
  hdr      : List Byte
  body     : List Byte
  mic      : List Byte
  ftype    : BitVec 3
  ver      : BitVec 2
  ar       : Bool
  seq      : BitVec 8
  sec      : Bool
  level    : BitVec 3
  kim      : BitVec 2
  keyIdx   : BitVec 8
  ctr      : BitVec 32
  srcExt   : Option (BitVec 64)
  group    : Bool
  timeCorr : Option (BitVec 16)
  deriving DecidableEq, Repr

/-- One command or event of the block: one constructor for each row of the spec's table of operations and
events. The operands of a bus command name its master and the value written; those of an event name what
the outside world supplies (a received frame, a measured level, an elapsed count). -/
inductive Instr where
  /-- R7: A write to a register field that has no row of its own takes effect according to its access code, its range and its LOCK bit. -/
  | registerWrite (m : Master) (addr : RegAddr) (size : Size) (val : Word)
  /-- R481: VSYS power-on resets every domain, restarts the Cellar and LINK_TIME, and starts a Floor Plan load from flash. -/
  | por (test : Bool)
  /-- R395: VSYS falls through the reset level and the device is held in BOR with every domain except PD_CAL in reset. -/
  | bor
  /-- R395: VSYS rises above 2.66 V, the Cellar restarts and a Floor Plan load begins as after a POR. -/
  | borRelease (test : Bool)
  /-- R481: RESET_N held low for 1 µs or longer holds every domain except PD_CELLAR, PD_CTX and PD_RET in reset. -/
  | pinReset
  /-- R481: RESET_N rises, the reached domains are released and the Floor Plan is read from flash. -/
  | pinResetRelease (test : Bool)
  /-- R399: A write of 0xA5C3 to SYSCTL.SYS_RST causes a SYS reset. -/
  | sysRstKey (m : Master) (key : BitVec 16)
  /-- R481: An ndmreset from the debug module resets PD_APP and PD_RET and restores class F fields from the Cellar. -/
  | dbgReset
  /-- R56: The load ends with FLOOR.STATUS.DONE set, clocks and domains start and the cores leave reset. -/
  | floorLoadDone (errs : List (Nat × Nat))
  /-- R62: A write of FLOOR.CMD.RELOAD starts a run-time reload or is refused with a reason. -/
  | reload (m : Master)
  /-- R63: The reload applies all new non-deferred values in one CELLAR cycle and RELOAD_BUSY clears. -/
  | reloadDone (errs : List (Nat × Nat))
  /-- R17: The clock monitor detects HFXO loss, sets HFXO_LOST, raises EV_CLK_FAIL and stops the PLL-fed islands. -/
  | hfxoLoss
  /-- R17: The PLL relocks on the HFRC and APP, LINK, CIPHER, FLASH and PERIPH restart with PLL_SRC reading 1. -/
  | pllRelockHfrc
  /-- R477: The PLL loses lock outside a commanded switch; PLL_UNLOCK is set and the PLL-fed islands stop until relock. -/
  | pllUnlock
  /-- R19: After 64 µs of in-tolerance measurement, HALL.CLK_STAT.HFXO_OK reads 1. -/
  | hfxoQualified
  /-- R19: When HFXO_OK is still 0 1 ms into a wake, the wake completes on the HFRC and HFXO_LOST is set. -/
  | wakeHfxoTimeout
  /-- R19: A write of CLK_CMD.RETURN_HFXO starts the return to the HFXO when HFXO_OK and PLL_SRC are 1. -/
  | returnHfxo (m : Master)
  /-- R19: The return completes, LINK_TIME is realigned and CLK_EVT.RETURNED is set. -/
  | returnHfxoDone (cycles : Nat)
  /-- R20: The LFXO stops for more than 4 ms and CELLAR switches to the LFRC. -/
  | lfxoLost
  /-- R22: At the first CELLAR edge after HFXO_OK, LINK_TIME resumes counting from the carried value. -/
  | linkTimeResume (cycles : Nat)
  /-- R25: A write of HALL.LT_CMD.SNAP copies LINK_TIME, fleet time and ASN into the snapshot registers. -/
  | ltSnap (m : Master)
  /-- R31: A transfer is not acknowledged within 64 destination cycles; the master gets an error and the stall is logged. -/
  | stallDetectorFire (m : Master) (addr : Word) (x : Transfer)
  /-- R31: The destination completes a stalled write late; the write takes effect and LATE_DONE is set. -/
  | lateWriteDone (addr : Word)
  /-- R44: A write of 1 to HALL.STALL_LOG.VALID clears the log and STALL_CNT. -/
  | stallLogClear (m : Master)
  /-- R46: A write of CH_CFG_n with EN = 1 starts a channel or ends with ERR for a bad count. -/
  | dmaChannelStart (m : Master) (ch : Fin 16) (cfg : Word)
  /-- R46: A write of CH_CFG_n with EN = 0 stops the channel at the next element boundary. -/
  | dmaChannelStop (m : Master) (ch : Fin 16) (cfg : Word)
  /-- R46: A request on the channel's line moves one element, chosen among ready channels by priority. -/
  | dmaRequest (lines : BitVec 64)
  /-- R80: CMD.OP NOP takes no action. -/
  | radioNop (src : RadioSrc) (r : Radio)
  /-- R80: A command to IDLE starts the transition of R74. -/
  | radioIdle (src : RadioSrc) (r : Radio)
  /-- R80: An RX command starts settling for a reception window at its start time. -/
  | radioRx (src : RadioSrc) (r : Radio)
  /-- R80: A TX command starts settling for a transmission at its start time. -/
  | radioTx (src : RadioSrc) (r : Radio)
  /-- R71: A CAL command starts a calibration in IDLE or is refused with REFUSED_STATE. -/
  | radioCal (src : RadioSrc) (r : Radio)
  /-- R78: ABORT discards any pending command and takes the radio to IDLE at once, truncating a transmission. -/
  | radioAbort (src : RadioSrc) (r : Radio)
  /-- R78: OFF discards any pending command and takes the radio to OFF at once. -/
  | radioOff (src : RadioSrc) (r : Radio)
  /-- R74: A radio transition ends in its target state and any pending command is then accepted. -/
  | radioTransitionDone (r : Radio)
  /-- R71: The calibration ends, the better coefficient pair is kept and EV_RFCAL_DONE is raised. -/
  | calDone (r : Radio) (lock : Bool) (a b : IqMeas)
  /-- R76: At the start time the reception window opens, or opens late with LATE when the radio is not ready. -/
  | rxStartTime (r : Radio)
  /-- R77: At the start time the first preamble bit leaves, or the transmission is dropped with LATE_DROP or POWER_RANGE. -/
  | txStartTime (r : Radio)
  /-- R75: The last bit of a transmission ends and the PA ramp-down starts. -/
  | txLastBit (r : Radio)
  /-- R79: The PA ramp-down ends and the radio goes to the state named by AUTO.TX_END. -/
  | rampDownEnd (r : Radio) (cutUs : Nat)
  /-- R79: No TX command arrives within 1000 µs under RX_END = TX and the radio returns to IDLE. -/
  | txSettleTimeout (r : Radio)
  /-- R80: A write of CTRL.DIRECT enters direct mode only when no event is armed for the radio. -/
  | directWrite (m : Master) (r : Radio) (val : Word)
  /-- R81: The synthesiser loses lock during RX or TX; the window closes or the PA ramps down with SYNTH_UNLOCK. -/
  | synthUnlock (r : Radio)
  /-- R89: A lead or lag time relative to the start time or ramp-down elapses and a front-end module pin changes level. -/
  | femPinLead (r : Radio) (edge : PinEdge) (short : Bool)
  /-- R93: At start time minus REQ_LEAD, or at the announcement if later, COEX_REQ is asserted for the radio. -/
  | coexReqAssert (r : Radio)
  /-- R93: HOLD µs after the window closes, the ramp-down ends or a grant is denied, the radio's request is released. -/
  | coexReqRelease (r : Radio)
  /-- R95: The radio samples COEX_GNT at start time minus SAMPLE. -/
  | coexGntSample (r : Radio) (level : Bool)
  /-- R97: The grant is withdrawn during a transmission; the PA ramps down when ABORT_ON_LOSS is 1 and GNT_LOST is counted. -/
  | coexGntLost (r : Radio)
  /-- R114: The correlator metric reaches PD.THRESH; the AGC freezes, the carrier offset is fixed and IN_FRAME is set. -/
  | preambleDetect (r : Radio) (metric : BitVec 8) (raw : BitVec 8)
  /-- R115: The synchronisation field is matched and the sync instant is timestamped. Its samples come as what is left of the
preamble and the synchronisation field. -/
  | syncMatch (r : Radio) (pre sync : List Sample) (ts : Time) (raw : BitVec 8) (lqi : BitVec 8) (cfo : BitVec 16)
  /-- R115: No sync match arrives within WAIT × 8 symbols; the AGC unfreezes and the detector re-arms. -/
  | syncTimeout (r : Radio)
  /-- R113: The PHY header or length is decoded and the frame is refused when its length is invalid or above RXLEN.MAX. Its samples come as the
header's parts follow on air: CI and TERM1 of a coded LE frame, the header, the tail and the pad of a coded SUN one; their order alone counts. -/
  | phrReceived (r : Radio) (ci term hdr tail pad : List Sample)
  /-- R135: The last bit is decided and the modem posts its receive report with result, timestamp and quality. Its
samples come as the frame's parts follow on air: the octets, the check field, TERM2 of a coded LE frame, the tail and the pad of a coded SUN one;
their order alone counts. -/
  | rxReport (r : Radio) (body check term tail pad : List Sample)
  /-- R119: Every 0.5 µs the AGC compares the ADC peak with its targets and changes the gain index. -/
  | agcUpdate (r : Radio) (up down : BitVec 3) (lvl : AdcLevel) (smp : List Sample)
  /-- R123: Training ends at the first symbol that departs from the preamble and the equaliser turns decision-directed. The two
samples of each symbol trained come as two lists. -/
  | eqTrainEnd (r : Radio) (fst snd : List Sample)
  /-- R134: The clear-channel measurement over CCA.LEN µs ends and its result goes to the medium access engine. -/
  | ccaDone (r : Radio) (raw : BitVec 8)
  /-- R136: A read of LAST_STAT releases the previous latch, applies any held report and latches the LAST registers. -/
  | lastStatRead (m : Master) (r : Radio)
  /-- R137: A write of TXFIFO adds four octets to transmit, or is ignored when full. -/
  | txfifoWrite (m : Master) (r : Radio) (val : Word)
  /-- R138: The modem needs an octet while TXFIFO is empty and the transmission ends as ABORTED. -/
  | txUnderrun (r : Radio)
  /-- R139: A read of RXFIFO returns and removes four received octets. -/
  | rxfifoRead (m : Master) (r : Radio)
  /-- R139: A write of 1 to FIFO_CFG.FLUSH empties TXFIFO and RXFIFO. -/
  | fifoFlush (m : Master) (r : Radio)
  /-- R144: The checker finds diverging outputs, discards them, records the event and resets the link core pair. -/
  | lockstepMismatch (pc : Word)
  /-- R144: The link core pair runs again from the entry point and an LS_RESTART event is posted. -/
  | lsRestart
  /-- R146: A write of LINK.CMD.LS_RELEASE restarts held cores and clears RECENT. -/
  | lsRelease (m : Master)
  /-- R149: The address index matches the frame to a context and the frame key is requested from the key store. -/
  | frameIdentify (r : Radio) (a : FrameAddr)
  /-- R152: Before its start time a secured frame is encrypted in the verdict lane with the next TX_CTR value. -/
  | txEncrypt (h : BitVec 4) (hdrLen ctrOff : Nat) (d1 d2 : Bool)
  /-- R158: A write of CTX.ALLOC_CMD allocates the lowest FREE context of the type's partition or reports why not. -/
  | ctxAlloc (m : Master) (typ : BitVec 3)
  /-- R159: A write of CTX.FREE_CMD with GO removes the context from matching, cancels its events and starts the free. -/
  | ctxFree (m : Master) (k : BitVec 8)
  /-- R159: After any awaited verdict the context is zeroed, its FAULTED bit cleared and BUSY clears. -/
  | ctxFreeDone
  /-- R160: A link-core store to the context window writes a field subject to STATE and ownership rules. -/
  | ctxWindowStore (m : Master) (addr : Word) (size : Size) (val : Word)
  /-- R161: A write of CTX.SNAP_CMD copies a whole context into SNAP_0 to SNAP_31 and sets DONE. -/
  | ctxSnap (m : Master) (k : BitVec 8) (errs : List (Nat × Bool))
  /-- R162: Every SCRUB_INT ms the scrubber reads and corrects the next context. -/
  | ctxScrub (errs : List (Nat × Bool))
  /-- R165: The final MAC block, tag and lane compares, replay check and context commit yield one verdict posted within 200 ns. -/
  | verdict (r : Radio) (f : RxFrame) (differs : LaneDiffs) (lat : BitVec 8) (errs : List (Nat × Bool))
  /-- R171: A write of LINK.EVQ_CMD.POP removes the head entry of the event queue. -/
  | evqPop (m : Master)
  /-- R177: A write of LINK.MC_CMD.SWAP starts the check of the target microcode bank. -/
  | mcSwap (m : Master)
  /-- R178: The bank check ends; the swap is refused, starts the pair, or sets YIELD_REQ. -/
  | mcCheckDone
  /-- R177: A link-core write of MC_YIELD during a swap exchanges the banks and restarts the pair. -/
  | mcYield (m : Master)
  /-- R178: No MC_YIELD within 1 ms of YIELD_REQ refuses the swap with NO_YIELD. -/
  | mcYieldTimeout
  /-- R180: A write of APPCMD_GO hands APPCMD_0 to APPCMD_3 to link microcode and sets BUSY. -/
  | appcmdGo (m : Master)
  /-- R180: A link-core write of APPCMD_DONE sets RESULT and clears BUSY. -/
  | appcmdDone (m : Master) (result : BitVec 8)
  /-- R180: A link-core write of MC_POST_GO posts an MCODE event when its type lies in 0x80 to 0xFF. -/
  | mcPostGo (m : Master)
  /-- R179: A write of 1 to VLAT.CLEAR clears the largest verdict latency. -/
  | vlatClear (m : Master)
  /-- R185: A link-core write of MAC.ARM_GO arms the descriptor as a radio event or returns a refusal result. -/
  | armGo (m : Master)
  /-- R186: A write of MAC.CANCEL with GO cancels the named event. -/
  | cancel (m : Master) (h : BitVec 4)
  /-- R204: At its front-end start time an RX_WINDOW opens a guarded receive window around START. -/
  | rxWindow (h : BitVec 4)
  /-- R184: At its start time a TX event transmits its frame without expecting an acknowledgement. -/
  | macTx (h : BitVec 4)
  /-- R184: At its start time a TX_ACK event transmits and then waits for an acknowledgement. -/
  | macTxAck (h : BitVec 4)
  /-- R184: A CCA_TX_ACK event runs a clear-channel check ending 20 µs before START and then a TX_ACK. -/
  | ccaTxAck (h : BitVec 4)
  /-- R212: An LE connection event runs in the context's role with responses at T_IFS. -/
  | leConnEvent (h : BitVec 4)
  /-- R211: An LE advertising event runs on the channels in CHMAP and answers scan requests. -/
  | leAdvEvent (h : BitVec 4)
  /-- R204: An LE_SCAN opens at START on CHAN for MAXDUR_US. -/
  | leScan (h : BitVec 4)
  /-- R200: A BEACON_TX event sends a Norast beacon with ASN and FT_TX filled at encryption. -/
  | beaconTx (h : BitVec 4)
  /-- R201: A BEACON_RX event opens a guarded window whose accepted beacon carries fleet time. -/
  | beaconRx (h : BitVec 4)
  /-- R193: No preamble is detected by the close of the acknowledgement wait and the result is NO_ACK. -/
  | ackWaitTimeout (r : Radio)
  /-- R204: No preamble by START + G + T_PD closes the window and MISSED increments. -/
  | rxWindowClose (r : Radio)
  /-- R203: A link-core write of FT_OFS_HI commits both halves of FT_OFS in one LINK cycle. -/
  | ftOfsHiWrite (m : Master) (v : Word)
  /-- R208: Every WINDOW_S / 64 a band's oldest bucket leaves the window. -/
  | dutyBucketRoll (n : Fin 8)
  /-- R209: One full window after a restart, EARNED becomes BUDGET_US and WINDOW.FULL reads 1. -/
  | dutyWindowFull (n : Fin 8)
  /-- R221: The key store has reloaded after a LANE reset and CIPHER.STAT.READY is set. -/
  | laneResetDone (bad : BitVec 16)
  /-- R225: The key store finishes loading the 16 root slots and their ECC checks. -/
  | keystoreLoadDone (bad : BitVec 16)
  /-- R231: A link or job key derivation completes in CIPHER, or is refused under R226. -/
  | keyDerived (who : KeyUser) (differs : Bool)
  /-- R245: A write to KEYS.KEYSEQ advances the unlock sequence for provisioning or revocation. -/
  | keyseqWrite (m : Master) (v : BitVec 16)
  /-- R227: A write of PROG_CFG with GO starts programming a root slot or reports why it cannot. -/
  | keyProvision (m : Master) (slot : Fin 16) (k256 : Bool) (policy : BitVec 5)
  /-- R227: OTP programming and read-back end; the slot reads VALID or BAD and PROG_DATA is zeroed. -/
  | keyProgDone (same : Bool)
  /-- R228: A write of KEYS.REVOKE with GO commits a revocation and ends every use of keys from the slot. -/
  | keyRevoke (m : Master) (slot : Fin 16)
  /-- R228: The four OTP revocation bits are programmed and REVOKE_STAT.RESULT reads DONE. -/
  | revokeDone
  /-- R236: A write of Q_CMD_q.GO starts channel q at its first descriptor. -/
  | jobGo (m : Master) (q : Fin 5)
  /-- R236: A job ends, its output, PROGRESS and STATUS are written, and the channel continues or stops. -/
  | jobEnd (q : Fin 5) (done : Nat) (parity : Bool) (busErr : Bool) (unzeroed : Nat)
  /-- R236: A write of Q_CMD_q.ABORT stops the channel at the next block boundary with ABORTED. -/
  | jobAbort (m : Master) (q : Fin 5)
  /-- R237: LOCK_CMD ACQUIRE takes the cipher lock when it is FREE. -/
  | lockAcquire (m : Master) (id : BitVec 3)
  /-- R237: LOCK_CMD RELEASE from the holder frees the lock once its SWKEY jobs have ended. -/
  | lockRelease (m : Master) (id : BitVec 3)
  /-- R237: The holder's SWKEY jobs end, the lock returns to FREE and SWKEY is zeroed. -/
  | lockReleaseDone
  /-- R237: LOCK_CMD FORCE from the application core frees the lock at once. -/
  | lockForce (m : Master) (id : BitVec 3)
  /-- R238: A write of SWKEY or SWKEY_CFG takes effect only from the holder's master while no SWKEY job runs. -/
  | swkeyWrite (m : Master) (k : Fin 9) (v : Word)
  /-- R223: IV_CMD READ copies an IV table entry into IV_LO and IV_HI. -/
  | ivRead (m : Master) (k : BitVec 8)
  /-- R223: IV_CMD WRITE stores IV_LO and IV_HI into an IV table entry. -/
  | ivWrite (m : Master) (k : BitVec 8)
  /-- R248: A draw at LANE or PORT grants a burst to the oldest due requester or by lottery. -/
  | draw (port : Bool) (ready : BitVec 5) (more : BitVec 5)
  /-- R253: A write of ARB.TKT_q changes tickets or burst from the next draw and may end a burst. -/
  | tktWrite (m : Master) (q : Fin 5) (tickets : BitVec 8) (burst : BitVec 7)
  /-- R255: A write of ARB.HINT_CMD with GO posts a hint that breaks a long burst. -/
  | hintCmd (m : Master) (q : BitVec 3) (port : Bool)
  /-- R254: A hint unused after 64 cycles ends, HINT_EXP is set and the requester is barred for 256 cycles. -/
  | hintExpire (q : Fin 5) (port : Bool)
  /-- R254: The 256-cycle bar on hints from a requester ends. -/
  | hintBlockEnd (q : Fin 5) (port : Bool)
  /-- R261: A PBM command ALLOC takes COUNT zeroed FREE buffers to owner TO, or is refused. -/
  | bufAlloc (m : Master) (own : Owners) (count : BitVec 5)
  /-- R262: An allocation that waited for zeroed buffers completes once they are filled. -/
  | bufAllocDone (link : Bool)
  /-- R261: A PBM command XFER starts the check walk of a chain from FROM to TO. -/
  | bufXfer (m : Master) (src : BitVec 4) (dst : BitVec 4) (head : BitVec 11)
  /-- R261: The walks end; owners and ledger counts are committed or the command ends with its refusal. -/
  | xferDone (link : Bool) (uncorr : Bool)
  /-- R261: A write of A_DESC or L_DESC updates NEXT, LAST and LEN of a permitted buffer or is ignored. -/
  | descWrite (m : Master) (d : Word)
  /-- R262: The zero engine finishes a buffer and its ZEROING bit clears. -/
  | bufferZeroed (b : Fin 2048)
  /-- R265: An audit pass ends, its counts are compared with the ledger and AUDIT_CNT increments. -/
  | auditPassEnd (uncorr : Bool)
  /-- R267: A reclaim moves the reset unit's buffers to FREE and records it in RECLAIM_LOG. -/
  | reclaimDone
  /-- R273: A write of CFG_n.USE changes width and final XOR at once, keeping RUN_n and COUNT_n. -/
  | chkUseWrite (m : Master) (n : Fin 4) (v : Word)
  /-- R274: CMD_n.START loads the initial value, clears COUNT_n and folds FOLD_n when enabled. -/
  | chkStart (m : Master) (n : Fin 4)
  /-- R275: A write of DIN_W_n processes four bytes and adds 4 to COUNT_n. -/
  | dinW (m : Master) (n : Fin 4) (v : Word)
  /-- R275: A write of DIN_H_n processes two bytes and adds 2 to COUNT_n. -/
  | dinH (m : Master) (n : Fin 4) (v : Word)
  /-- R275: A write of DIN_B_n processes one byte and adds 1 to COUNT_n. -/
  | dinB (m : Master) (n : Fin 4) (v : Word)
  /-- R278: A write of RUN_n sets the running register directly. -/
  | chkRunWrite (m : Master) (n : Fin 4) (v : Word)
  /-- R278: A write of COUNT_n sets the byte count directly. -/
  | chkCountWrite (m : Master) (n : Fin 4) (v : Word)
  /-- R293: NFCR command FIELD_ON starts the field-on sequence. -/
  | fieldOn (m : Master)
  /-- R295: NFCR command FIELD_OFF switches the field off, aborting a frame in progress. -/
  | fieldOff (m : Master)
  /-- R299: NFCR command INVENTORY runs the Type A and Type B inventory. -/
  | inventory (m : Master)
  /-- R296: NFCR command TRANSCEIVE sends the command chain and receives one response. -/
  | transceive (m : Master)
  /-- R295: NFCR command ABORT ends the command at once with ABORTED. -/
  | nfcAbort (m : Master)
  /-- R293: The NFC synthesiser locks and the reader starts RF collision avoidance. -/
  | nfcSynLocked
  /-- R294: The sensing interval ends without an external field and the unmodulated field switches on. -/
  | caIntervalEnd
  /-- R294: An external field above CA.THRESH during sensing ends the command with EXT_FIELD. -/
  | extField (present : Bool)
  /-- R293: The guard time ends and the first frame may start. -/
  | guardEnd
  /-- R297: The reader's frame ends and its response window starts. -/
  | nfcFrameSent
  /-- R297: A PICC response is received to its end, checked and passed to APP. -/
  | piccResponse (octets : List Byte) (lastBits : BitVec 3) (crcErr parErr : Bool) (coll : Option (BitVec 8))
  /-- R297: No response starts within TMO.CYC and the command ends with TIMEOUT. -/
  | responseTimeout
  /-- R292: The driver current reaches ILIM_MA and the amplitude is lowered step by step. -/
  | ilim (steps : BitVec 5)
  /-- R498: VNFC below 2.8 V holds the driver off and a field command ends with FIELD_DROPPED. -/
  | vnfcLow
  /-- R305: A field arrives at the Porch coil, VPORCH charges and FIELD_DET goes active. -/
  | porchFieldArrival
  /-- R320: The field is lost, any session ends and FIELD_DET goes inactive. -/
  | porchFieldLoss
  /-- R317: At Porch power-up the shadow is read and an interrupted page write is redone or discarded. -/
  | porchPowerUp (fwOk : Bool)
  /-- R307: The Porch answers REQA with its ATQA. -/
  | reqa
  /-- R307: The Porch answers WUPA, also from the HALT state. -/
  | wupa
  /-- R308: The Porch answers an anticollision frame with its UID bits. -/
  | anticollision (lvl2 : Bool) (n : BitVec 6) (known : BitVec 40)
  /-- R307: The Porch answers a cascade-level SELECT with its SAK. -/
  | select (lvl2 : Bool) (id : BitVec 40)
  /-- R307: HLTA puts the Porch into the HALT state. -/
  | hlta
  /-- R320: The Porch sends the ATS and the session takes the ownership token. -/
  | rats
  /-- R311: SELECT with P1 0x04 selects the Type 4 Tag application. -/
  | selectApplication (aid : ApduPart)
  /-- R311: SELECT with P1 0x00 selects a file by FID; none: a chained I-block with more to come (R307). -/
  | selectFile (fid : Option (BitVec 16))
  /-- R311: READ BINARY returns data of the selected file subject to rights; no Le: a chained I-block with more to come (R307). -/
  | readBinary (off : BitVec 15) (le : Option Byte)
  /-- R309: UPDATE BINARY writes the selected file through anti-tearing page writes subject to rights. -/
  | updateBinary (off : BitVec 15) (data : ApduPart)
  /-- R314: GET CHALLENGE returns a fresh RndP. -/
  | getChallenge
  /-- R314: EXTERNAL AUTHENTICATE checks AES-128(K_k, RndP) and grants slot k's rights on a match. -/
  | externalAuthenticate (k : Byte) (data : ApduPart)
  /-- R311: An I-block with another instruction is answered 6D00. -/
  | instructionNotSupported
  /-- R320: S(DESELECT) ends the session and returns the token to NONE. -/
  | sDeselect
  /-- R308: The Porch answers an R-block. -/
  | rBlock (nak : Bool) (num : BitVec 1)
  /-- R308: The PCD's S(WTX) response restarts the waiting-time extension interval. -/
  | wtxResponse
  /-- R308: An I-block not ready by WTX.AFTER or FWT − 2048 is answered with S(WTX). -/
  | sWtxSend
  /-- R315: A step of the five-step anti-tearing page write completes and the next one starts. -/
  | pageWriteStepDone (fail : Bool)
  /-- R316: The write gate opens and a pending step 3 may start. -/
  | writeGateOpen (reserve : Bool)
  /-- R316: The gate stays closed 20 ms with step 3 pending and the write is abandoned. -/
  | writeAbandoned
  /-- R323: Host command READ reads Porch pages into HBUF. -/
  | hcmdRead (m : Master) (page : BitVec 8) (npages : BitVec 5)
  /-- R323: Host command WRITE writes Porch pages from HBUF, queued against a field session. -/
  | hcmdWrite (m : Master) (page : BitVec 8) (npages : BitVec 5)
  /-- R323: KEY_CMD writes a Porch key slot and its rights as a host write. -/
  | keyCmd (m : Master) (slot : BitVec 2) (rights : BitVec 4)
  /-- R335: A write of FLASHC.KEY advances the unlock sequence or discards it. -/
  | flashKey (m : Master) (v : BitVec 16)
  /-- R337: A checked PROGRAM starts programming the word at ADDR on the DATA_3 write. -/
  | program (m : Master) (addr d0 d1 d2 d3 : Word) (raw : Bool)
  /-- R337: A checked ERASE_PAGE starts erasing the page holding ADDR. -/
  | erasePage (m : Master) (addr : Word)
  /-- R337: A checked ERASE_BLOCK starts erasing the block holding ADDR. -/
  | eraseBlock (m : Master) (addr : Word)
  /-- R339: A checked ERASE_BANK starts erasing the bank holding ADDR in four groups. -/
  | eraseBank (m : Master) (addr : Word)
  /-- R340: SUSPEND cuts the erase pulse in progress, or ends with NOTHING. -/
  | suspend (m : Master)
  /-- R340: The erase pulse is cut, SUSPENDED reads 1 and the bank's BUSY clears. -/
  | eraseSuspended
  /-- R340: RESUME restarts a suspended erase with the cut pulse repeated in full. -/
  | resume (m : Master)
  /-- R347: SET_RDP changes the read-out protection level or is refused. -/
  | setRdp (m : Master) (addr : Word)
  /-- R348: A step of the lowering sequence completes; the last writes level 0 and causes a SYS reset. -/
  | rdpLoweringStepDone
  /-- R339: A program or erase pulse ends with its verify; the operation ends OK, fails, or pulses again. -/
  | flashPulseDone (ok : Bool)
  /-- R332: A flash read returns corrected data or a status word and updates RDSTAT and the ECC counts. -/
  | flashRead (m : Master) (kind : ReadKind) (addr : Word) (size : Size) (wrong : BitVec 2)
  /-- R349: A write of 1 to PGM_PULSES.CLEAR clears MAX. -/
  | pgmPulsesClear (m : Master)
  /-- R349: A write of 1 to ERS_PULSES.CLEAR clears MAX. -/
  | ersPulsesClear (m : Master)
  /-- R359: attic_begin authenticates a package header, computes the install order and records the package. -/
  | atticBegin (hdr : Word) (ok : Bool)
  /-- R359: attic_stage decrypts chunk p and programs and verifies its STAGING page. -/
  | atticStage (p : BitVec 9) (src : Word) (len : BitVec 13) (ok : Bool)
  /-- R365: attic_install runs the journaled install of the package's components. -/
  | atticInstall (handoff : Word)
  /-- R359: attic_status reports phase, next missing chunk, order and refusal reasons. -/
  | atticStatus (info : Word)
  /-- R362: attic_owner_lock verifies an owner-lock command and applies it. -/
  | atticOwnerLock (cmd : Word) (ok : Bool)
  /-- R370: attic_link_load copies LINK_MCODE into link memory and swaps. -/
  | atticLinkLoad
  /-- R359: attic_abandon erases the STAGE LOG of a package not yet installing. -/
  | atticAbandon (ok : Bool)
  /-- R364: ATTIC command APPEND_J appends a record to the journal. -/
  | appendJ (m : Master) (ok : Bool)
  /-- R364: ATTIC command APPEND_S appends a record to the STAGE LOG. -/
  | appendS (m : Master) (ok : Bool)
  /-- R367: ATTIC command COPY starts copying staged pages into APP IMAGE. -/
  | copy (m : Master)
  /-- R367: A COPY page is compared, written and verified, or fails twice with FLASH_FAIL. -/
  | copyPageDone (fail : Bool)
  /-- R353: ATTIC command PFW_WRITE programs the inactive Porch program slot. -/
  | pfwWrite (m : Master)
  /-- R353: A 64-octet page of the Porch program store is programmed. -/
  | pfwPageDone (ok : Bool)
  /-- R353: ATTIC command PFW_SELECT flips the Porch program selector. -/
  | pfwSelect (m : Master)
  /-- R362: ATTIC command SET_LOCK sets STAT.OWNER_LOCK. -/
  | setLock (m : Master)
  /-- R362: ATTIC command CLEAR_LOCK clears STAT.OWNER_LOCK. -/
  | clearLock (m : Master)
  /-- R391: An edge on MOTION fires the MOTION wake source and sets the MOVING refusal. -/
  | motionEdge (rising : Bool)
  /-- R360: 60 s after the last speed above threshold, or 30 s after the last MOTION edge, MOVING clears. -/
  | movingExpire (speed : Bool)
  /-- R360: Every 100 ms the Attic samples its battery source and updates LOW_BATTERY. -/
  | lowbatSample (v : BitVec 16)
  /-- R361: Within 100 ms after every refusal reason clears, a paused install resumes. -/
  | installResume
  /-- R368: Every 1 s, up to 8 times, the loader repeats a held page. -/
  | flashHoldRetry
  /-- R380: A command for RUN takes effect within 4 APP cycles. -/
  | pwrCmdRun (m : Master)
  /-- R380: A command for IDLE stops the core clock once no transfer is outstanding. -/
  | pwrCmdIdle (m : Master)
  /-- R386: A checked command for SLEEP starts the entry sequence. -/
  | pwrCmdSleep (m : Master)
  /-- R386: A checked command for DEEP starts the entry sequence. -/
  | pwrCmdDeep (m : Master)
  /-- R386: A checked command for OFF starts the entry sequence. -/
  | pwrCmdOff (m : Master)
  /-- R386: An entry step completes at its abort point, and after the commit entry is complete. -/
  | entryStepDone (wfi : Bool)
  /-- R387: A write of SYSCTL.PWR_ACK acknowledges a pending entry. -/
  | pwrAck (m : Master) (v : Bool)
  /-- R387: No acknowledgement or WFI within ACK_TMO refuses the entry with NO_ACK. -/
  | ackTimeout
  /-- R391: The filtered WAKE input fires the WAKE wake source. -/
  | wakePinEvent (level : Bool)
  /-- R391: A falling edge of HP_CS_N or HP_URX fires the HOSTP wake source. -/
  | hostpWakeEdge
  /-- R458: A dominant pulse or wake pattern on CANn_RX fires the CAN wake source. -/
  | canWake (n : Fin 2) (pattern : Bool)
  /-- R391: A dominant pulse of 150 µs on LIN_RX fires the LIN wake source. -/
  | linWakeDetect
  /-- R393: The wake completes with PWR_STAT.STATE reading the wake target. -/
  | wakeDone
  /-- R393: After a wake from OFF the regulators start, PD_CELLAR is released and the OFFWAKE reset takes effect. -/
  | offWakeCellarRestart (test : Bool)
  /-- R385: In SLEEP, at an armed event's wake instant, the Cellar powers the domains for a listen window. -/
  | listenWake (r : Radio)
  /-- R385: With no event due soon, the listen window's domains return to their SLEEP state. -/
  | listenEnd
  /-- R396: VSYS falls through the warning level and a dip starts. -/
  | supplyWarn
  /-- R396: VSYS stays above warning + 60 mV for 50 µs; the dip ends and each unit resumes. -/
  | supplyRecovery (us : Nat)
  /-- R397: Every 10 µs during a dip the ADC samples VSYS for DIP_LOG. -/
  | dipSample (mv : BitVec 13)
  /-- R401: A write of DOM_RST with GO starts a DOMAIN reset of the named domain. -/
  | domRst (m : Master) (d : BitVec 4)
  /-- R401: After 8 island cycles the domain is released and its buffers are reclaimed. -/
  | domainResetRelease (d : Fin 13)
  /-- R400: A write of SYSCTL.MODE changes the operating mode; NORMAL clears the timer test bits. -/
  | modeWrite (m : Master) (v : BitVec 2) (rom : Bool)
  /-- R409: A write of CAL.CAPTURE.GO requests a capture of the calendar time. -/
  | calCapture (m : Master)
  /-- R409: At the end of the next CAL cycle the time is copied and CAP_STAT.DONE is set. -/
  | captureDone
  /-- R410: A write of CAL.COMMIT.GO checks the shadows and ends with INVALID or waits for the next CAL edge. -/
  | calCommit (m : Master)
  /-- R411: At the first CAL edge the calendar takes the shadow time and COMMIT_DONE is set. -/
  | commitDone
  /-- R412: A write of ALARM_CMD.ARM arms an alarm or refuses an invalid instant. -/
  | alarmArm (m : Master) (mask : BitVec 2)
  /-- R412: A write of ALARM_CMD.DISARM disarms an alarm without firing it. -/
  | alarmDisarm (m : Master) (mask : BitVec 2)
  /-- R413: An armed alarm whose instant is reached fires, raises EV_CAL and pulses the CAL_ALARM wake source. -/
  | alarmFire
  /-- R404: The second after 2199-12-31 23:59:59 wraps to 2000-01-01 and EPOCH_WRAP is set. -/
  | epochWrap
  /-- R406: No LFXO edge for 4 ms sets OSF and OSC_STOP and the calendar holds. -/
  | oscStop
  /-- R406: The LFXO restarts and the calendar resumes counting from the held value. -/
  | oscResume
  /-- R407: A write of 1 to STAT.OSF clears it only after a commit since OSF was set. -/
  | osfClear (m : Master)
  /-- R408: VSYS crosses a switch threshold and PD_CAL changes supply between VSYS and VBACKUP. -/
  | backupSwitch (onBackup : Bool)
  /-- R405: PD_CAL powers up after both supplies were absent; the calendar restarts in 2000 with OSF set. -/
  | calPowerUp
  /-- R415: A write of TRIM.VALUE changes the rate correction from the next CAL cycle. -/
  | trimWrite (m : Master) (v : BitVec 13)
  /-- R417: A PPS_IN edge is accepted or rejected and ends a measuring interval when INTERVAL seconds are counted. -/
  | ppsEdge (rising : Bool) (cycles : Nat)
  /-- R417: No PPS edge is accepted for 2 s and STAT.PPS_LOST reads 1. -/
  | ppsLost
  /-- R422: CNT steps into CMP0 or CMP1 and the compare's STAT bit is set. -/
  | timCompareMatch (t : Fin 8) (second : Bool)
  /-- R421: CNT steps from 0xFFFF_FFFF, or from TOP in test modes, to 0 and WRAP is set. -/
  | timWrap (t : Fin 8)
  /-- R424: A qualifying edge on the capture input copies CNT into CAP. -/
  | timCapture (t : Fin 8) (rising : Bool)
  /-- R428: In a test mode with START_EN, the selected event pulse sets CTRL.EN. -/
  | timEventStart (t : Fin 8)
  /-- R429: A write of TOP below CNT sets TOP_MISSED and applies after the next wrap. -/
  | topWrite (m : Master) (t : Fin 8) (v : Word)
  /-- R427: A write of SNAP_CMD.GO copies a linked pair's 64-bit count into SNAP_LO and SNAP_HI. -/
  | timSnap (m : Master) (k : Fin 4)
  /-- R431: An LPTIM count reaches MATCH, sets STAT.MATCH and drives its wake source. -/
  | lptimMatch (n : Fin 2)
  /-- R440: An LPTIM count steps to 0 and STAT.WRAP is set. -/
  | lptimWrap (n : Fin 2)
  /-- R432: The WDA count reaches TMO_T − WARN_T and EV_WDT_APP_WARN is raised. -/
  | wdaWarn
  /-- R432: The WDA count reaches TMO_T and causes a WDT_APP reset. -/
  | wdaTimeout
  /-- R433: A write of 0x6D2B to WDA_KICK restarts the count, or resets as an early kick. -/
  | wdaKick (m : Master) (v : BitVec 16)
  /-- R432: The WDL count reaches TMO_T − WARN_T and EV_WDT_LINK_WARN is raised. -/
  | wdlWarn
  /-- R432: The WDL count reaches TMO_T and causes a WDT_LINK reset. -/
  | wdlTimeout
  /-- R433: A link-core write of 0x6D2B to CSR 0x7C0 restarts the WDL count, or resets as an early kick. -/
  | wdlKick (v : Word)
  /-- R439: A write of TIM_0.EVM_SW sets the levels of EV_SW_0 to EV_SW_3. -/
  | evmSwWrite (m : Master) (v : BitVec 4)
  /-- R445: A command header is accepted, taking a credit, or discarded on a bad CRC, TYPE or LEN. -/
  | hostCmdHeader (typ seq op : BitVec 8) (len hcrc : BitVec 16) (payload : List (BitVec 8)) (pcrc : Word)
  /-- R445: A partial frame followed by more than 1 ms of silence is discarded. -/
  | hostFrameTimeout
  /-- R447: A command not ended 500 µs after its last octet gets a non-final ST_OK status. -/
  | hostInterimStatus
  /-- R448: Host opcode STATUS returns the power, wake, reset, Floor Plan and Attic status words. -/
  | status
  /-- R448: Host opcode SET_POWER commands a power state under R379 and R380. -/
  | setPower
  /-- R448: Host opcode GET_WAKE returns the wake cause and releases HP_IRQ_N. -/
  | getWake
  /-- R448: Host opcode FLOOR_RELOAD requests a Floor Plan reload. -/
  | floorReload
  /-- R449: Host opcode APP_MSG passes its payload chain to firmware. -/
  | appMsg
  /-- R449: A write of HOSTP.RSP_GO answers the oldest open APP_MSG with a final frame. -/
  | rspGo (m : Master)
  /-- R449: No RSP_GO within APP_TMO ms and the data path sends ST_FAULT. -/
  | appTmoExpire
  /-- R449: A write of HOSTP.POST_GO queues a firmware event to the host. -/
  | postGo (m : Master)
  /-- R450: Host opcode CIPHER_JOB runs one job on cipher channel 1. -/
  | cipherJob
  /-- R448: Host opcode SET_BAUD changes the UART bit time after its final frame. -/
  | setBaud
  /-- R448: Host opcode SYS_RESET with 0xA5C3 answers ST_OK and causes a SYS reset. -/
  | sysReset
  /-- R455: A write of 1 to a TX_REQ bit makes a CAN transmit buffer pending. -/
  | txReqWrite (m : Master) (n : Fin 2) (v : BitVec 16) (idle : Bool)
  /-- R455: A write of TX_CANCEL clears a pending request unless the frame is on the bus. -/
  | txCancel (m : Master) (n : Fin 2) (v : BitVec 16)
  /-- R455: A CAN frame is sent successfully and its TX_DONE bit is set. -/
  | canTxDone (n : Fin 2)
  /-- R456: A received CAN frame enters the RX FIFO when a filter matches, or is dropped when it is full. -/
  | canFrameRx (n : Fin 2) (w0 w1 : Word) (data : List Byte)
  /-- R457: A protocol error or lost arbitration changes the error counts and state, and the frame is retried. -/
  | canBusError (n : Fin 2) (kind : BitVec 2)
  /-- R457: A write of CTRL.INIT enters INIT or starts integration, and is ignored on the HFRC. -/
  | canInitWrite (m : Master) (n : Fin 2) (v : Word)
  /-- R457: After 11 recessive bits the controller joins the bus. -/
  | canIntegrationDone (n : Fin 2)
  /-- R457: After 128 occurrences of 11 recessive bits the controller rejoins from BUS_OFF. -/
  | busOffRecovery (n : Fin 2)
  /-- R456: A write of RX_POP releases the oldest RX FIFO entry. -/
  | rxPop (m : Master) (n : Fin 2)
  /-- R462: LIN command HEADER_PUB sends a commander header and its own response. -/
  | headerPub (m : Master)
  /-- R462: LIN command HEADER_SUB sends a commander header and receives the response. -/
  | headerSub (m : Master)
  /-- R462: LIN command PUBLISH sends DATA as the responder. -/
  | publish (m : Master) (late : Bool)
  /-- R462: LIN command SUBSCRIBE receives the response as the responder. -/
  | subscribe (m : Master)
  /-- R462: LIN command WAKE drives a dominant level for WAKE.US. -/
  | linWake (m : Master)
  /-- R462: LIN command ABORT ends the frame with ABORTED. -/
  | linAbort (m : Master)
  /-- R462: A responder receives a header, raises EVT.HEADER and records RX_ID. -/
  | linHeaderRx (id : BitVec 6) (parityOk syncOk : Bool)
  /-- R462: A LIN response completes and the frame ends with its result. -/
  | linResponseEnd (readBack : Bool) (data : List Byte) (sum : Byte)
  /-- R462: The response window passes without a complete response and the frame ends with NO_RESPONSE. -/
  | linResponseTimeout
  /-- R465: A write of GPIO.OUT_SET sets the output bits written as 1. -/
  | outSet (m : Master) (v : Word)
  /-- R465: A write of GPIO.OUT_CLR clears the output bits written as 1. -/
  | outClr (m : Master) (v : Word)
  /-- R465: A pin edge selected by IRQ_MODE sets its IRQ_STAT bit. -/
  | gpioEdge (pin : Fin 32) (high : Bool)
  /-- R467: ADC CMD.START starts a conversion sequence. -/
  | adcStart (m : Master)
  /-- R467: ADC CMD.STOP stops the sequence after the present step. -/
  | adcStop (m : Master)
  /-- R467: A conversion completes and its result enters the FIFO or is dropped. -/
  | adcConversionDone (code : BitVec 12)
  /-- R469: A read of ADC.FIFO returns and pops the oldest result. -/
  | adcFifoRead (m : Master)
  /-- R470: A write of I2C_0.CMD with GO starts a transfer. -/
  | i2cGo (m : Master) (addr : BitVec 7) (read : Bool) (len : Byte) (stop : Bool)
  /-- R470: A write of I2C_0.DATA fills the TX FIFO. -/
  | i2cDataWrite (m : Master) (v : Byte)
  /-- R470: A read of I2C_0.DATA empties one octet of the RX FIFO. -/
  | i2cDataRead (m : Master)
  /-- R470: An I2C transfer ends, with DONE or after a NACK. -/
  | i2cDone (nack last : Bool) (data : List Byte) (n : Byte)
  /-- R470: Lost arbitration ends the transfer at once. -/
  | i2cArbLost
  /-- R470: A target stretches SCL for more than 25 ms and the transfer ends with TIMEOUT. -/
  | i2cStretchTimeout
  /-- R471: A write of SPIM_0.CMD with GO starts an exchange of LEN octets. -/
  | spimGo (m : Master) (len : BitVec 16)
  /-- R471: A write of SPIM_0.DATA fills the TX FIFO. -/
  | spimDataWrite (m : Master) (v : Byte)
  /-- R471: A read of SPIM_0.DATA empties one octet of the RX FIFO. -/
  | spimDataRead (m : Master)
  /-- R471: The SPI transfer ends and EVT.DONE is set. -/
  | spimDone (data : List Byte) (last : Bool)
  /-- R479: A write of FAULT.INJ_KEY advances the injection key sequence. -/
  | injKey (m : Master) (v : BitVec 12)
  /-- R479: A write of FAULT.INJ_MODE arms, denies or cancels a fault injection. -/
  | injMode (m : Master) (v : BitVec 2)
  /-- R485: A write of 1 to INFLIGHT_n.FROZEN returns the record to NONE. -/
  | inflightClear (m : Master) (n : Fin 16)
  /-- R494: A write of 1 to FAULT.LOG.VALID clears LOG and LOG_DETAIL. -/
  | faultLogClear (m : Master)
  /-- R46: A channel with SW = 1 moves its next element back to back without a request, finishing with DONE after its count. -/
  | dmaSwElement (ch : Fin 16)
  /-- R146: A lockstep mismatch leaves the sliding 1 s window and LINK.LS_CNT.RECENT decreases. -/
  | lsCntRecentAge
  /-- R477: After a PLL_UNLOCK on the HFXO the PLL locks again within 25 µs and the PLL-fed islands restart. -/
  | pllRelock
  /-- R347: The option row (and OTP bits for level 2) is written and the new protection level applies, with a DBG reset for level 2. -/
  | setRdpDone
  /-- R408: The backup-switched source in use falls below 1.6 V and PD_CAL is lost. -/
  | pdCalLost
  /-- R498: VNFC rises to 2.8 V or above and the reader's driver is no longer held off. -/
  | vnfcRestored
  /-- R497: VIO_A or VIO_B crosses 1.6 V, so the pads of that rail turn high-impedance with inputs read as 0, or resume. -/
  | vioRailChange (rail : Fin 2) (low : Bool)
  /-- R430: The debug module halts the application core, and timers with DBG_FREEZE and the application watchdog hold their counts. -/
  | debugHalt
  /-- R430: The application core leaves debug halt, and frozen timers and the application watchdog resume counting. -/
  | debugResume
  /-- R211: MAXDUR_US after its start, an LE_SCAN window or an LE connection or advertising event is closed. -/
  | maxdurUsExpire (r : Radio)
  deriving DecidableEq, Repr

end Sys2Proof
end

