-- ==== Sys2Proof/Config.lean ====
section
/-!
DEFINITION. Config.lean: the values the spec leaves open. Each is opaque, so no proof can use a
value of it; State.free is the counter that gives each use its own argument.
-/
namespace Sys2Proof.Config

/-- A value the spec leaves open, one for each use; the caller cuts it to the width it needs. -/
opaque freeValue : Nat → Nat

/-- What a byte of a memory whose contents the spec calls undefined reads as: the use and the address. -/
opaque freeByte : Nat → Nat → BitVec 8

/-- A byte of the boot ROM, which the spec does not specify (R510), by address. -/
opaque romByte : Nat → BitVec 8

/-- An octet of the Porch's UID in OTP (R307), of its signature page (R313), and of the pages of its memory whose
contents at manufacture the spec does not give, by octet of the Porch memory (R309). -/
opaque porchByte : Nat → BitVec 8

/-- R122: the discriminator output that a Stratus mode's deviation gives, in the unit of its samples, by mode and modulation index. -/
opaque deviation : Nat → Nat → Int

end Sys2Proof.Config
end

