-- ==== Sys2Proof/Machine/Cells.lean ====
section
/-!
DEFINITION. Machine/Cells.lean: a table from numbers to values as a list of pairs whose keys rise
strictly and which lists no value equal to what an unlisted key reads as.
-/
namespace Sys2Proof.Machine.Cells

variable {α : Type}

/-- The listed value of a key. -/
def get (k : Nat) : List (Nat × α) → Option α
  | [] => none
  | (k', v) :: t => if k = k' then some v else get k t

/-- The table without a key. -/
def erase (k : Nat) : List (Nat × α) → List (Nat × α)
  | [] => []
  | (k', v) :: t => if k = k' then erase k t else (k', v) :: erase k t

/-- The table with a pair put before the first greater key. -/
def ins (k : Nat) (v : α) : List (Nat × α) → List (Nat × α)
  | [] => [(k, v)]
  | (k', v') :: t => if k < k' then (k, v) :: (k', v') :: t else (k', v') :: ins k v t

/-- The table with key `k` at value `v`, where an unlisted `k` reads as `d` (none: no fixed value). -/
def put [DecidableEq α] (k : Nat) (v : α) (d : Option α) (l : List (Nat × α)) : List (Nat × α) :=
  if d = some v then erase k l else ins k v (erase k l)

/-- The pairs whose key satisfies a test. -/
def keep (p : Nat → Bool) : List (Nat × α) → List (Nat × α)
  | [] => []
  | (k, v) :: t => if p k then (k, v) :: keep p t else keep p t

/-- The pairs of consecutive keys from `k` on with the values of a list, less those that equal what `d` gives an
unlisted key. -/
def run [DecidableEq α] (d : Nat → Option α) (k : Nat) : List α → List (Nat × α)
  | [] => []
  | v :: t => if d k = some v then run d (k + 1) t else (k, v) :: run d (k + 1) t

/-- The table with consecutive keys from `k` on at the values of a list. -/
def putRun [DecidableEq α] (d : Nat → Option α) (k : Nat) (vs : List α) (l : List (Nat × α)) : List (Nat × α) :=
  keep (fun i => decide (i < k)) l ++ run d k vs ++ keep (fun i => decide (k + vs.length ≤ i)) l

/-- Whether the keys rise strictly, the first above `lo`. -/
def rising : Option Nat → List (Nat × α) → Bool
  | _, [] => true
  | none, (k, _) :: t => rising (some k) t
  | some lo, (k, _) :: t => decide (lo < k) && rising (some k) t

end Sys2Proof.Machine.Cells
end

