-- ==== Sys2Proof/Machine/Fields.lean ====
section
/-!
DEFINITION. Machine/Fields.lean: what a register field is: its place, width, access code (R7), Keep
class (R11), Reset value (R12), stated range (R13, R180, R402) and who may write it.
-/
namespace Sys2Proof.Machine

/-- The access codes of R7. -/
inductive Acc where
  | rw | ro | wo | w1c | w1s | rwl | rwf
  deriving DecidableEq, Repr

/-- The Keep classes of R11, and two of the model's own: `live` for a field that shows present hardware
state (each event that changes that state writes it), `nv` for a value held in non-volatile memory. -/
inductive Keep where
  | b | c | t | w | f | live | nv
  deriving DecidableEq, Repr

/-- The values a write may store; a write of any other value is ignored. -/
inductive Range where
  | any
  | between (lo hi : Nat)
  | signed (lo hi : Int)
  | oneOf (l : List Nat)
  deriving DecidableEq, Repr

/-- Which master may write a field. -/
inductive Writer where
  | any | link | app
  deriving DecidableEq, Repr

/-- One register field, or one latch the spec's rules name without a register. -/
structure Fld where
  blk  : Nat
  off  : Nat
  lsb  : Nat
  wid  : Nat
  acc  : Acc
  keep : Keep
  rst  : Nat
  rng  : Range
  by_  : Writer
  deriving DecidableEq, Repr

/-- A row of a block's table: `count` fields, the first at `off`, `stride` bytes apart. -/
structure Row where
  off    : Nat
  stride : Nat
  count  : Nat
  fld    : Nat → Fld

def Keep.code : Keep → Nat
  | .b => 0 | .c => 1 | .t => 2 | .w => 3 | .f => 4 | .live => 5 | .nv => 6

/-- The key a field's value is stored under: one for each (Keep class, block, offset, lowest bit). -/
def Fld.key (f : Fld) : Nat := ((f.keep.code * 64 + f.blk) * 8192 + f.off) * 32 + f.lsb

/-- The Keep class code and the block number a key names. -/
def keyKeep (k : Nat) : Nat := k / (32 * 8192 * 64)
def keyBlk (k : Nat) : Nat := k / (32 * 8192) % 64

/-- A latch that a rule names but no register shows: block, number, width, Keep class, Reset value.
Its offset lies above the 4 KB window, so no bus access reaches it. -/
def latch (blk n wid : Nat) (keep : Keep) (rst : Nat) : Fld :=
  ⟨blk, 4096 + n, 0, wid, .ro, keep, rst, .any, .any⟩

/-- Whether a field's stated range holds a value. -/
def Range.ok (r : Range) (wid v : Nat) : Bool :=
  match r with
  | .any => true
  | .between lo hi => decide (lo ≤ v) && decide (v ≤ hi)
  | .signed lo hi =>
      let i : Int := if v < 2 ^ (wid - 1) then v else (v : Int) - 2 ^ wid
      decide (lo ≤ i) && decide (i ≤ hi)
  | .oneOf l => l.contains v

/-- R61: the safe plan's buffer shares, by ledger owner code (R257). -/
def safeShare (o : Nat) : Nat := [0, 384, 256, 256, 192, 640, 192, 64, 64].getD o 0

/-- R477: the Default column, the reaction of detector `i` at reset (R476 values). -/
def reactDefault (i : Nat) : Nat :=
  if [0x00, 0x01, 0x02, 0x08, 0x10, 0x11, 0x12, 0x13, 0x14, 0x15, 0x18, 0x19, 0x20, 0x22, 0x24, 0x25,
      0x28, 0x30, 0x38].contains i then 1 else 0

/-- R493: the Reset value of REACT_k, four bits for each of detectors 8k to 8k + 7. -/
def reactReset (k : Nat) : Nat :=
  (List.range 8).foldl (fun a j => a + reactDefault (8 * k + j) * 16 ^ j) 0

end Sys2Proof.Machine
end

