-- ==== Sys2Proof/Machine/RegsPower.lean ====
section
/-!
DEFINITION. Machine/RegsPower.lean: the SYSCTL and FAULT registers (R399, R493), one field a definition, written from the
spec's register tables: place, width, access code, Keep class, Reset value, stated range, writer.
-/
namespace Sys2Proof.Machine.R

open Sys2Proof

/-- R399 SYSCTL.CTRL.IRQ_EN: 1 routes EV_PWR to the event matrix. EV_PWR is the OR of PWR_STAT.PENDING and EVT bits [3:0]; … -/
def SYSCTL_CTRL_IRQ_EN : Fld :=
  ⟨0, 0x0, 0, 1, .rwl, .w, 0, .any, .any⟩

/-- R399 SYSCTL.CTRL.LOCK: LOCK bit of SYSCTL, per R8. -/
def SYSCTL_CTRL_LOCK : Fld :=
  ⟨0, 0x0, 31, 1, .w1s, .w, 0, .any, .any⟩

/-- R399 SYSCTL.DEVID.PKG: 0: 196-ball VFBGA. -/
def SYSCTL_DEVID_PKG : Fld :=
  ⟨0, 0x4, 0, 4, .ro, .w, 0, .any, .any⟩

/-- R399 SYSCTL.DEVID.REV_MIN: Revision digit. -/
def SYSCTL_DEVID_REV_MIN : Fld :=
  ⟨0, 0x4, 4, 4, .ro, .w, 0, .any, .any⟩

/-- R399 SYSCTL.DEVID.REV_MAJ: Revision letter, 0x0B for B. -/
def SYSCTL_DEVID_REV_MAJ : Fld :=
  ⟨0, 0x4, 8, 8, .ro, .w, 11, .any, .any⟩

/-- R399 SYSCTL.DEVID.PART: Part number. -/
def SYSCTL_DEVID_PART : Fld :=
  ⟨0, 0x4, 16, 16, .ro, .w, 2148, .any, .any⟩

/-- R399 SYSCTL.MODE.MODE: Per R400. -/
def SYSCTL_MODE_MODE : Fld :=
  ⟨0, 0x8, 0, 2, .rw, .w, 1, .any, .any⟩

/-- R399 SYSCTL.PWR_CMD.STATE: Target state, per R378. -/
def SYSCTL_PWR_CMD_STATE : Fld :=
  ⟨0, 0x10, 0, 3, .wo, .w, 0, .any, .any⟩

/-- R399 SYSCTL.PWR_CMD.GO: 1 commands the state; application core, under R379. -/
def SYSCTL_PWR_CMD_GO : Fld :=
  ⟨0, 0x10, 31, 1, .wo, .w, 0, .any, .app⟩

/-- R399 SYSCTL.PWR_STAT.STATE: Present state. -/
def SYSCTL_PWR_STAT_STATE : Fld :=
  ⟨0, 0x14, 0, 3, .ro, .live, 0, .any, .any⟩

/-- R399 SYSCTL.PWR_STAT.PENDING: Acknowledgement awaited, per R387. -/
def SYSCTL_PWR_STAT_PENDING : Fld :=
  ⟨0, 0x14, 3, 1, .ro, .live, 0, .any, .any⟩

/-- R399 SYSCTL.PWR_STAT.ENTERING: Entry in progress. -/
def SYSCTL_PWR_STAT_ENTERING : Fld :=
  ⟨0, 0x14, 4, 1, .ro, .live, 0, .any, .any⟩

/-- R399 SYSCTL.PWR_STAT.LISTEN: Listen window running, per R385. -/
def SYSCTL_PWR_STAT_LISTEN : Fld :=
  ⟨0, 0x14, 5, 1, .ro, .live, 0, .any, .any⟩

/-- R399 SYSCTL.PWR_STAT.ABORTED_AT: 0 none, 1 + k for Ak, at the last abort. -/
def SYSCTL_PWR_STAT_ABORTED_AT : Fld :=
  ⟨0, 0x14, 8, 3, .ro, .c, 0, .any, .any⟩

/-- R399 SYSCTL.PWR_STAT.ABORT_PRIV: Last abort was by WAKE or the alarm, per R389. -/
def SYSCTL_PWR_STAT_ABORT_PRIV : Fld :=
  ⟨0, 0x14, 11, 1, .ro, .c, 0, .any, .any⟩

/-- R399 SYSCTL.PWR_STAT.LAST_STATE: State left at the last wake. -/
def SYSCTL_PWR_STAT_LAST_STATE : Fld :=
  ⟨0, 0x14, 12, 3, .ro, .c, 0, .any, .any⟩

/-- R399 SYSCTL.PWR_STAT.REFUSE: Per R380. -/
def SYSCTL_PWR_STAT_REFUSE : Fld :=
  ⟨0, 0x14, 16, 4, .ro, .c, 0, .any, .any⟩

/-- R399 SYSCTL.PWR_ACK.ACK: Acknowledges entry, per R387. -/
def SYSCTL_PWR_ACK_ACK : Fld :=
  ⟨0, 0x18, 0, 1, .wo, .w, 0, .any, .any⟩

/-- R399 SYSCTL.PWR_CFG.ACK_TMO: ms, 1 to 255; bounds step 2 of R386 under both authorities, per R387. -/
def SYSCTL_PWR_CFG_ACK_TMO : Fld :=
  ⟨0, 0x1c, 0, 8, .rw, .c, 10, .between 1 255, .any⟩

/-- R399 SYSCTL.PWR_CFG.PORCH_SLEEP: Per R381. -/
def SYSCTL_PWR_CFG_PORCH_SLEEP : Fld :=
  ⟨0, 0x1c, 8, 1, .rw, .c, 0, .any, .any⟩

/-- R399 SYSCTL.PWR_CFG.AUTHORITY: FP.POWER_AUTHORITY.AUTHORITY. -/
def SYSCTL_PWR_CFG_AUTHORITY : Fld :=
  ⟨0, 0x1c, 16, 1, .rwf, .f, 0, .any, .any⟩

/-- R399 SYSCTL.RET_CFG.SRAM: Per R384. -/
def SYSCTL_RET_CFG_SRAM : Fld :=
  ⟨0, 0x20, 0, 16, .rw, .c, 65535, .any, .any⟩

/-- R399 SYSCTL.RET_CFG.CTX: Per R384. -/
def SYSCTL_RET_CFG_CTX : Fld :=
  ⟨0, 0x20, 16, 1, .rw, .c, 1, .any, .any⟩

/-- R399 SYSCTL.WAKE_EN.WAKE: Per R391; forced 1 for OFF. -/
def SYSCTL_WAKE_EN_WAKE : Fld :=
  ⟨0, 0x24, 0, 1, .rw, .b, 1, .any, .any⟩

/-- R399 SYSCTL.WAKE_EN.SRC: Bits 1 to 9 of R391. -/
def SYSCTL_WAKE_EN_SRC : Fld :=
  ⟨0, 0x24, 1, 9, .rw, .c, 0, .any, .any⟩

/-- R399 SYSCTL.WAKE_CFG.WAKE_MODE: 0 rising, 1 falling, 2 LEVEL_HIGH, 3 LEVEL_LOW. -/
def SYSCTL_WAKE_CFG_WAKE_MODE : Fld :=
  ⟨0, 0x28, 0, 2, .rw, .b, 0, .any, .any⟩

/-- R399 SYSCTL.WAKE_CFG.MOTION_EDGE: 1 rising, 2 falling, 3 both. -/
def SYSCTL_WAKE_CFG_MOTION_EDGE : Fld :=
  ⟨0, 0x28, 4, 2, .rw, .c, 3, .oneOf [1, 2, 3], .any⟩

/-- R399 SYSCTL.WAKE_CFG.MOTION_FILT: Filter in 10 µs units, 1 to 255. -/
def SYSCTL_WAKE_CFG_MOTION_FILT : Fld :=
  ⟨0, 0x28, 8, 8, .rw, .c, 10, .between 1 255, .any⟩

/-- R399 SYSCTL.WAKE_EVQ: Bit t wakes on event type t, t = 1 to 9; bit 15 on any MCODE type. -/
def SYSCTL_WAKE_EVQ : Fld :=
  ⟨0, 0x2c, 0, 16, .rw, .c, 32770, .any, .any⟩

/-- R399 SYSCTL.WAKE_STAT.SRC: Sources that fired, per R392. -/
def SYSCTL_WAKE_STAT_SRC : Fld :=
  ⟨0, 0x30, 0, 10, .w1c, .c, 0, .any, .any⟩

/-- R399 SYSCTL.WAKE_STAT.FIRST: Bit number of the first source; 15 when the wake was a PLIC interrupt. -/
def SYSCTL_WAKE_STAT_FIRST : Fld :=
  ⟨0, 0x30, 16, 4, .ro, .c, 0, .any, .any⟩

/-- R399 SYSCTL.RESUME_ADDR: Per R392. -/
def SYSCTL_RESUME_ADDR : Fld :=
  ⟨0, 0x34, 0, 32, .rw, .c, 0, .any, .any⟩

/-- R399 SYSCTL.RST_CAUSE.KIND: Bit n set by reset kind n: 0 POR, 1 BOR, 2 PIN, 3 WDT_APP, 4 WDT_LINK, 5 LOCKSTEP, 6 LANE, 7 … -/
def SYSCTL_RST_CAUSE_KIND : Fld :=
  ⟨0, 0x38, 0, 11, .w1c, .c, 0, .any, .any⟩

/-- R399 SYSCTL.SYS_RST.KEY: 0xA5C3 causes a SYS reset. -/
def SYSCTL_SYS_RST_KEY : Fld :=
  ⟨0, 0x3c, 0, 16, .wo, .w, 0, .any, .any⟩

/-- R399 SYSCTL.SUPPLY.WARN_MV: 2800 to 3400, per R395. -/
def SYSCTL_SUPPLY_WARN_MV : Fld :=
  ⟨0, 0x40, 0, 12, .rw, .c, 2900, .oneOf [2800, 2820, 2840, 2860, 2880, 2900, 2920, 2940, 2960, 2980, 3000, 3020, 3040, 3060, 3080, 3100, 3120, 3140, 3160, 3180, 3200, 3220, 3240, 3260, 3280, 3300, 3320, 3340, 3360, 3380, 3400], .any⟩

/-- R399 SYSCTL.SUPPLY_STAT.WARN: Dip in progress. -/
def SYSCTL_SUPPLY_STAT_WARN : Fld :=
  ⟨0, 0x44, 0, 1, .ro, .live, 0, .any, .any⟩

/-- R399 SYSCTL.SUPPLY_STAT.ON_BACKUP: Backup switch on VBACKUP. -/
def SYSCTL_SUPPLY_STAT_ON_BACKUP : Fld :=
  ⟨0, 0x44, 1, 1, .ro, .live, 0, .any, .any⟩

/-- R399 SYSCTL.DIP_LOG.MIN_MV: Per R397. -/
def SYSCTL_DIP_LOG_MIN_MV : Fld :=
  ⟨0, 0x48, 0, 13, .ro, .c, 0, .any, .any⟩

/-- R399 SYSCTL.DIP_LOG.UNSAMPLED: Per R397. -/
def SYSCTL_DIP_LOG_UNSAMPLED : Fld :=
  ⟨0, 0x48, 13, 1, .ro, .c, 0, .any, .any⟩

/-- R399 SYSCTL.DIP_LOG.VALID: Record present; 1 clears DIP_LOG and DIP_DUR. -/
def SYSCTL_DIP_LOG_VALID : Fld :=
  ⟨0, 0x48, 31, 1, .w1c, .c, 0, .any, .any⟩

/-- R399 SYSCTL.DIP_DUR: µs; saturates. -/
def SYSCTL_DIP_DUR : Fld :=
  ⟨0, 0x4c, 0, 32, .ro, .c, 0, .any, .any⟩

/-- R399 SYSCTL.DIP_CNT: Dips recovered; saturates at 0xFFFF. -/
def SYSCTL_DIP_CNT : Fld :=
  ⟨0, 0x50, 0, 16, .ro, .c, 0, .any, .any⟩

/-- R399 SYSCTL.EVT.ENTERED: Entry completed. -/
def SYSCTL_EVT_ENTERED : Fld :=
  ⟨0, 0x54, 0, 1, .w1c, .c, 0, .any, .any⟩

/-- R399 SYSCTL.EVT.ABORTED: Set under R388 and R389. -/
def SYSCTL_EVT_ABORTED : Fld :=
  ⟨0, 0x54, 1, 1, .w1c, .c, 0, .any, .any⟩

/-- R399 SYSCTL.EVT.REFUSED: Set under R380. -/
def SYSCTL_EVT_REFUSED : Fld :=
  ⟨0, 0x54, 2, 1, .w1c, .c, 0, .any, .any⟩

/-- R399 SYSCTL.EVT.WOKEN: A wake completed. -/
def SYSCTL_EVT_WOKEN : Fld :=
  ⟨0, 0x54, 3, 1, .w1c, .c, 0, .any, .any⟩

/-- R399 SYSCTL.EVT.RECOVERED: Set under R396. -/
def SYSCTL_EVT_RECOVERED : Fld :=
  ⟨0, 0x54, 4, 1, .w1c, .c, 0, .any, .any⟩

/-- R399 SYSCTL.DOM_STAT: Bit d: domain d powered and released, codes of R381. -/
def SYSCTL_DOM_STAT : Fld :=
  ⟨0, 0x58, 0, 13, .ro, .live, 3, .any, .any⟩

/-- R399 SYSCTL.DOM_RST.DOMAIN: 6, 7, 8, 9 or 10; other codes ignored. -/
def SYSCTL_DOM_RST_DOMAIN : Fld :=
  ⟨0, 0x5c, 0, 4, .wo, .w, 0, .any, .any⟩

/-- R399 SYSCTL.DOM_RST.GO: 1 causes a DOMAIN reset of that domain, per R401. -/
def SYSCTL_DOM_RST_GO : Fld :=
  ⟨0, 0x5c, 31, 1, .wo, .w, 0, .any, .any⟩

/-- R493 FAULT.CTRL.IRQ_EN: 1 routes EV_FAULT to the event matrix, per R476. -/
def FAULT_CTRL_IRQ_EN : Fld :=
  ⟨2, 0x0, 0, 1, .rwl, .w, 0, .any, .any⟩

/-- R493 FAULT.CTRL.LOCK: LOCK bit of FAULT, per R8. -/
def FAULT_CTRL_LOCK : Fld :=
  ⟨2, 0x0, 31, 1, .w1s, .w, 0, .any, .any⟩

/-- R493 FAULT.CFG.INJ_L1: FP.FAULTS.INJ_L1. -/
def FAULT_CFG_INJ_L1 : Fld :=
  ⟨2, 0x4, 0, 1, .rwf, .f, 0, .any, .any⟩

/-- R493 FAULT.INJ_KEY: Key values, per R479. -/
def FAULT_INJ_KEY : Fld :=
  ⟨2, 0x8, 0, 12, .wo, .w, 0, .any, .any⟩

/-- R493 FAULT.INJ_SEL.INDEX: Detector to inject. -/
def FAULT_INJ_SEL_INDEX : Fld :=
  ⟨2, 0xc, 0, 6, .rw, .w, 0, .any, .any⟩

/-- R493 FAULT.INJ_MODE.MODE: Per R479. -/
def FAULT_INJ_MODE_MODE : Fld :=
  ⟨2, 0x10, 0, 2, .rw, .w, 0, .any, .any⟩

/-- R493 FAULT.INJ_ARG: Argument of the injection point, per R477. -/
def FAULT_INJ_ARG : Fld :=
  ⟨2, 0x14, 0, 32, .rw, .w, 0, .any, .any⟩

/-- R493 FAULT.INJ_STAT.ARMED: An injection is pending or sticky. -/
def FAULT_INJ_STAT_ARMED : Fld :=
  ⟨2, 0x18, 0, 1, .ro, .live, 0, .any, .any⟩

/-- R493 FAULT.INJ_STAT.FIRED: Set under R480. -/
def FAULT_INJ_STAT_FIRED : Fld :=
  ⟨2, 0x18, 1, 1, .w1c, .w, 0, .any, .any⟩

/-- R493 FAULT.INJ_STAT.DENIED: Set under R479. -/
def FAULT_INJ_STAT_DENIED : Fld :=
  ⟨2, 0x18, 2, 1, .w1c, .w, 0, .any, .any⟩

/-- R493 FAULT.HIT_0: Bit i: detector i fired. -/
def FAULT_HIT_0 : Fld :=
  ⟨2, 0x20, 0, 32, .w1c, .c, 0, .any, .any⟩

/-- R493 FAULT.HIT_1: Bit i: detector 32 + i fired. -/
def FAULT_HIT_1 : Fld :=
  ⟨2, 0x24, 0, 32, .w1c, .c, 0, .any, .any⟩

/-- R493 FAULT.LOG.INDEX: First detector since the last clear. -/
def FAULT_LOG_INDEX : Fld :=
  ⟨2, 0x28, 0, 6, .ro, .c, 0, .any, .any⟩

/-- R493 FAULT.LOG.REACTION: Reaction taken, 0 to 7, per R476. -/
def FAULT_LOG_REACTION : Fld :=
  ⟨2, 0x28, 8, 3, .ro, .c, 0, .any, .any⟩

/-- R493 FAULT.LOG.INJECTED: Per R480. -/
def FAULT_LOG_INJECTED : Fld :=
  ⟨2, 0x28, 12, 1, .ro, .c, 0, .any, .any⟩

/-- R493 FAULT.LOG.VALID: Log holds a record; 1 clears LOG and LOG_DETAIL. -/
def FAULT_LOG_VALID : Fld :=
  ⟨2, 0x28, 31, 1, .w1c, .c, 0, .any, .any⟩

/-- R493 FAULT.LOG_DETAIL: Per the Detail column of R477. -/
def FAULT_LOG_DETAIL : Fld :=
  ⟨2, 0x2c, 0, 32, .ro, .c, 0, .any, .any⟩

/-- R493 FAULT.LAST.INDEX: Latest detector to fire. -/
def FAULT_LAST_INDEX : Fld :=
  ⟨2, 0x30, 0, 6, .ro, .c, 0, .any, .any⟩

/-- R493 FAULT.IF_OVERRUN: Per R485. -/
def FAULT_IF_OVERRUN : Fld :=
  ⟨2, 0x34, 0, 16, .w1c, .c, 0, .any, .any⟩

/-- R493 FAULT.REACT_k: Reactions, per R476. -/
def FAULT_REACT (n : Nat) : Fld :=
  ⟨2, (0x40 + n * 0x4), 0, 32, .rwl, .c, (reactReset n), .any, .any⟩

/-- R493 FAULT.CNT_k: Firing counts. -/
def FAULT_CNT (n : Nat) : Fld :=
  ⟨2, (0x80 + n * 0x4), 0, 32, .ro, .c, 0, .any, .any⟩

/-- R493 FAULT.INFLIGHT_n.OP: Per R486; 0 NONE. -/
def FAULT_INFLIGHT_OP (n : Nat) : Fld :=
  ⟨2, (0x100 + n * 0x10), 0, 8, .ro, .c, 0, .any, .any⟩

/-- R493 FAULT.INFLIGHT_n.STEP: Per R486. -/
def FAULT_INFLIGHT_STEP (n : Nat) : Fld :=
  ⟨2, (0x100 + n * 0x10), 8, 8, .ro, .c, 0, .any, .any⟩

/-- R493 FAULT.INFLIGHT_n.CAUSE: Per R485. -/
def FAULT_INFLIGHT_CAUSE (n : Nat) : Fld :=
  ⟨2, (0x100 + n * 0x10), 16, 4, .ro, .c, 0, .any, .any⟩

/-- R493 FAULT.INFLIGHT_n.FROZEN: Record frozen; 1 clears the record. -/
def FAULT_INFLIGHT_FROZEN (n : Nat) : Fld :=
  ⟨2, (0x100 + n * 0x10), 31, 1, .w1c, .c, 0, .any, .any⟩

/-- R493 FAULT.INFLIGHT_n_PROG: PROGRESS. -/
def FAULT_INFLIGHT_PROG (n : Nat) : Fld :=
  ⟨2, (0x104 + n * 0x10), 0, 32, .ro, .c, 0, .any, .any⟩

/-- R493 FAULT.INFLIGHT_n_DETAIL: DETAIL. -/
def FAULT_INFLIGHT_DETAIL (n : Nat) : Fld :=
  ⟨2, (0x108 + n * 0x10), 0, 32, .ro, .c, 0, .any, .any⟩

/-- R493 FAULT.INFLIGHT_n_DETAIL2: DETAIL2. -/
def FAULT_INFLIGHT_DETAIL2 (n : Nat) : Fld :=
  ⟨2, (0x10c + n * 0x10), 0, 32, .ro, .c, 0, .any, .any⟩

/-- The fields of SYSCTL, by offset. -/
def rowsSYSCTL : List Row :=
  [
  ⟨0x0, 4, 1, fun _ => SYSCTL_CTRL_IRQ_EN⟩,
  ⟨0x0, 4, 1, fun _ => SYSCTL_CTRL_LOCK⟩,
  ⟨0x4, 4, 1, fun _ => SYSCTL_DEVID_PKG⟩,
  ⟨0x4, 4, 1, fun _ => SYSCTL_DEVID_REV_MIN⟩,
  ⟨0x4, 4, 1, fun _ => SYSCTL_DEVID_REV_MAJ⟩,
  ⟨0x4, 4, 1, fun _ => SYSCTL_DEVID_PART⟩,
  ⟨0x8, 4, 1, fun _ => SYSCTL_MODE_MODE⟩,
  ⟨0x10, 4, 1, fun _ => SYSCTL_PWR_CMD_STATE⟩,
  ⟨0x10, 4, 1, fun _ => SYSCTL_PWR_CMD_GO⟩,
  ⟨0x14, 4, 1, fun _ => SYSCTL_PWR_STAT_STATE⟩,
  ⟨0x14, 4, 1, fun _ => SYSCTL_PWR_STAT_PENDING⟩,
  ⟨0x14, 4, 1, fun _ => SYSCTL_PWR_STAT_ENTERING⟩,
  ⟨0x14, 4, 1, fun _ => SYSCTL_PWR_STAT_LISTEN⟩,
  ⟨0x14, 4, 1, fun _ => SYSCTL_PWR_STAT_ABORTED_AT⟩,
  ⟨0x14, 4, 1, fun _ => SYSCTL_PWR_STAT_ABORT_PRIV⟩,
  ⟨0x14, 4, 1, fun _ => SYSCTL_PWR_STAT_LAST_STATE⟩,
  ⟨0x14, 4, 1, fun _ => SYSCTL_PWR_STAT_REFUSE⟩,
  ⟨0x18, 4, 1, fun _ => SYSCTL_PWR_ACK_ACK⟩,
  ⟨0x1c, 4, 1, fun _ => SYSCTL_PWR_CFG_ACK_TMO⟩,
  ⟨0x1c, 4, 1, fun _ => SYSCTL_PWR_CFG_PORCH_SLEEP⟩,
  ⟨0x1c, 4, 1, fun _ => SYSCTL_PWR_CFG_AUTHORITY⟩,
  ⟨0x20, 4, 1, fun _ => SYSCTL_RET_CFG_SRAM⟩,
  ⟨0x20, 4, 1, fun _ => SYSCTL_RET_CFG_CTX⟩,
  ⟨0x24, 4, 1, fun _ => SYSCTL_WAKE_EN_WAKE⟩] ++ [
  ⟨0x24, 4, 1, fun _ => SYSCTL_WAKE_EN_SRC⟩,
  ⟨0x28, 4, 1, fun _ => SYSCTL_WAKE_CFG_WAKE_MODE⟩,
  ⟨0x28, 4, 1, fun _ => SYSCTL_WAKE_CFG_MOTION_EDGE⟩,
  ⟨0x28, 4, 1, fun _ => SYSCTL_WAKE_CFG_MOTION_FILT⟩,
  ⟨0x2c, 4, 1, fun _ => SYSCTL_WAKE_EVQ⟩,
  ⟨0x30, 4, 1, fun _ => SYSCTL_WAKE_STAT_SRC⟩,
  ⟨0x30, 4, 1, fun _ => SYSCTL_WAKE_STAT_FIRST⟩,
  ⟨0x34, 4, 1, fun _ => SYSCTL_RESUME_ADDR⟩,
  ⟨0x38, 4, 1, fun _ => SYSCTL_RST_CAUSE_KIND⟩,
  ⟨0x3c, 4, 1, fun _ => SYSCTL_SYS_RST_KEY⟩,
  ⟨0x40, 4, 1, fun _ => SYSCTL_SUPPLY_WARN_MV⟩,
  ⟨0x44, 4, 1, fun _ => SYSCTL_SUPPLY_STAT_WARN⟩,
  ⟨0x44, 4, 1, fun _ => SYSCTL_SUPPLY_STAT_ON_BACKUP⟩,
  ⟨0x48, 4, 1, fun _ => SYSCTL_DIP_LOG_MIN_MV⟩,
  ⟨0x48, 4, 1, fun _ => SYSCTL_DIP_LOG_UNSAMPLED⟩,
  ⟨0x48, 4, 1, fun _ => SYSCTL_DIP_LOG_VALID⟩,
  ⟨0x4c, 4, 1, fun _ => SYSCTL_DIP_DUR⟩,
  ⟨0x50, 4, 1, fun _ => SYSCTL_DIP_CNT⟩,
  ⟨0x54, 4, 1, fun _ => SYSCTL_EVT_ENTERED⟩,
  ⟨0x54, 4, 1, fun _ => SYSCTL_EVT_ABORTED⟩,
  ⟨0x54, 4, 1, fun _ => SYSCTL_EVT_REFUSED⟩,
  ⟨0x54, 4, 1, fun _ => SYSCTL_EVT_WOKEN⟩,
  ⟨0x54, 4, 1, fun _ => SYSCTL_EVT_RECOVERED⟩,
  ⟨0x58, 4, 1, fun _ => SYSCTL_DOM_STAT⟩] ++ [
  ⟨0x5c, 4, 1, fun _ => SYSCTL_DOM_RST_DOMAIN⟩,
  ⟨0x5c, 4, 1, fun _ => SYSCTL_DOM_RST_GO⟩]

/-- The fields of FAULT, by offset. -/
def rowsFAULT : List Row :=
  [
  ⟨0x0, 4, 1, fun _ => FAULT_CTRL_IRQ_EN⟩,
  ⟨0x0, 4, 1, fun _ => FAULT_CTRL_LOCK⟩,
  ⟨0x4, 4, 1, fun _ => FAULT_CFG_INJ_L1⟩,
  ⟨0x8, 4, 1, fun _ => FAULT_INJ_KEY⟩,
  ⟨0xc, 4, 1, fun _ => FAULT_INJ_SEL_INDEX⟩,
  ⟨0x10, 4, 1, fun _ => FAULT_INJ_MODE_MODE⟩,
  ⟨0x14, 4, 1, fun _ => FAULT_INJ_ARG⟩,
  ⟨0x18, 4, 1, fun _ => FAULT_INJ_STAT_ARMED⟩,
  ⟨0x18, 4, 1, fun _ => FAULT_INJ_STAT_FIRED⟩,
  ⟨0x18, 4, 1, fun _ => FAULT_INJ_STAT_DENIED⟩,
  ⟨0x20, 4, 1, fun _ => FAULT_HIT_0⟩,
  ⟨0x24, 4, 1, fun _ => FAULT_HIT_1⟩,
  ⟨0x28, 4, 1, fun _ => FAULT_LOG_INDEX⟩,
  ⟨0x28, 4, 1, fun _ => FAULT_LOG_REACTION⟩,
  ⟨0x28, 4, 1, fun _ => FAULT_LOG_INJECTED⟩,
  ⟨0x28, 4, 1, fun _ => FAULT_LOG_VALID⟩,
  ⟨0x2c, 4, 1, fun _ => FAULT_LOG_DETAIL⟩,
  ⟨0x30, 4, 1, fun _ => FAULT_LAST_INDEX⟩,
  ⟨0x34, 4, 1, fun _ => FAULT_IF_OVERRUN⟩,
  ⟨0x40, 4, 8, fun n => FAULT_REACT n⟩,
  ⟨0x80, 4, 16, fun n => FAULT_CNT n⟩,
  ⟨0x100, 16, 16, fun n => FAULT_INFLIGHT_OP n⟩,
  ⟨0x100, 16, 16, fun n => FAULT_INFLIGHT_STEP n⟩,
  ⟨0x100, 16, 16, fun n => FAULT_INFLIGHT_CAUSE n⟩] ++ [
  ⟨0x100, 16, 16, fun n => FAULT_INFLIGHT_FROZEN n⟩,
  ⟨0x104, 16, 16, fun n => FAULT_INFLIGHT_PROG n⟩,
  ⟨0x108, 16, 16, fun n => FAULT_INFLIGHT_DETAIL n⟩,
  ⟨0x10c, 16, 16, fun n => FAULT_INFLIGHT_DETAIL2 n⟩]

end Sys2Proof.Machine.R
end

