-- ==== Sys2Proof/Machine/State.lean ====
section
/-!
DEFINITION. Machine/State.lean: the block's state as plain data, its fault and refusal reasons, and the
state right after power-on reset.
-/
namespace Sys2Proof.Machine

/-- Why a step stops. Nothing of this model stops with a fault: every command of the table has an effect,
and an access the spec refuses ends in an error response (`Resp.error`), which is a next state.
Safe: it is raised by no meaning. -/
inductive Fault where
  /-- Raised by no meaning; kept because the interface asks for a reason type. Safe. -/
  | outsideModel
  deriving DecidableEq, Repr

/-- Why a command has no meaning here. -/
inductive Refusal where
  /-- Raised only by an arm of the dispatch that has no meaning yet. Safe: no effect is claimed. -/
  | notModelled (mnemonic : String)
  deriving DecidableEq, Repr

/-- What the last command's bus master or requester got back: nothing asked, an acknowledge, data, the error response of R4, R30,
R31, R38, R42 (an access-fault exception of a core, R32), the address-misaligned exception of a core's load or store and the
alignment error of the debug module (R511), or no answer yet: the transfer waits for its island's clock or its crossing (R28, R31)
and its master presents it again. -/
inductive Resp where
  | none
  | ok
  | data (v : Nat)
  | error
  | misaligned (store : Bool)
  | sbAlign
  | waiting
  deriving DecidableEq, Repr

/-- One 16-byte entry of the event queue (R171). -/
structure EvqEntry where
  w0 : Nat
  w1 : Nat
  w2 : Nat
  w3 : Nat
  deriving DecidableEq, Repr

/-- A write that a stall detector gave up on and that the destination may still complete (R31):
its master, its address, its size in bytes, its value, and whether HALL.STALL_LOG logged it. -/
structure LateWrite where
  m      : Master
  addr   : Nat
  size   : Nat
  val    : Nat
  logged : Bool
  deriving DecidableEq, Repr

/-- One radio event (R183): its handle, the descriptor's fields, the converted frequency of R187, the guard
and front-end start time fixed at arming (R186, R204), the gap, the acknowledgement tolerance and the expected
acknowledgement in force then (R214; for an LE event 1 once no frame is to follow, R211), and so the slot's length and the sender's
preamble (R199, R201); and while it runs its phase (0 armed, 1 transmitting, 2 awaiting the
peer, 3 window open, 4 clear-channel check), its duty band plus one, its reservation and its frame's own
airtime in µs (R207, R208), the consecutive CRC failures of R211, whether its anchor has been taken (R212), and whether its frame is a response at T_IFS (R191). -/
structure Armed where
  handle  : Nat
  ctx     : Nat
  kind    : Nat
  sleepOk : Bool
  cls     : Nat
  chan    : Nat
  freqKhz : Nat
  start   : Nat
  guard   : Nat
  txLen   : Nat
  buf     : Nat
  maxDur  : Nat
  fest    : Nat
  gap     : Nat := 0
  tol     : Nat := 0
  exp     : Nat := 0
  phase   : Nat := 0
  band    : Nat := 0
  rsv     : Nat := 0
  air     : Nat := 0
  fails   : Nat := 0
  anch    : Bool := false
  slot    : Nat := 0
  pre     : Nat := 0
  resp    : Bool := false
  deriving DecidableEq, Repr

/-- A frame queued for the host (R444, R447): TYPE 2 STATUS or 3 EVENT, SEQ, OP, and of its payload STATUS,
FINAL, CR_RET, DETAIL and the octets that follow them. -/
structure HostFrame where
  typ    : Nat
  seq    : Nat
  op     : Nat
  status : Nat
  fin    : Bool
  crRet  : Nat
  detail : Nat
  data   : List (BitVec 8)
  deriving DecidableEq, Repr

/-- A host command accepted and not yet ended (R446): its SEQ, OP, whether it took a credit, the head of its
payload chain plus one (0 none), its payload length, and whether a non-final frame was sent. -/
structure HostCmd where
  seq     : Nat
  op      : Nat
  credit  : Bool
  head    : Nat
  len     : Nat
  interim : Bool
  deriving DecidableEq, Repr

/-- The state of the block. `regs` holds every register field and every latch the rules name, by the key
of Machine/Fields.lean, less those that read their default; `plan` holds the values the Floor Plan loader
applied (R12), by the same keys; `fifos` the FIFOs and queues of numbers, oldest entry first, by the same
keys; `zq` holds the buffers the zero engine fills first, each plus 2048 times its class (R262, R263);
`armed` and `running` the radio events that wait and those that occupy a radio (R186); `htx` the frames queued for the host and
`hcmd` its open commands (R446, R447). -/
structure State where
  regs    : List (Nat × Nat)
  plan    : List (Nat × Nat)
  fifos   : List (Nat × List Nat)
  mem     : List Host.Cell
  porch   : List Host.Cell
  porchFw : List Host.Cell
  evq     : List EvqEntry
  late    : List LateWrite
  zq      : List Nat
  armed   : List Armed
  running : List Armed
  htx     : List HostFrame
  hcmd    : List HostCmd
  resp    : Resp
  free    : Nat
  pending : List Instr
  deriving DecidableEq, Repr

/-- The state at power-on reset, before the Floor Plan load has run: every field and latch at its Reset
value (what the store does not list reads so), RST_CAUSE naming POR (R402), memories with nothing listed, no command
waiting. -/
def State.reset : State where
  regs := [(R.SYSCTL_RST_CAUSE_KIND.key, 1)]
  plan := []
  fifos := []
  mem := []
  porch := []
  porchFw := []
  evq := []
  late := []
  zq := []
  armed := []
  running := []
  htx := []
  hcmd := []
  resp := .none
  free := 0
  pending := []

end Sys2Proof.Machine
end

