-- ==== Sys2Proof/Machine/Ops.lean ====
section
/-!
DEFINITION. Machine/Ops.lean: the named operations over the register store and the memories.
-/
namespace Sys2Proof.Machine

open Sys2Proof

/-- What a step answers. -/
abbrev Out := Host.Outcome State Fault Refusal

/-- What a field reads when the store lists no value for it: its Reset value (R12); for a class F field
the value the Floor Plan loader applied. -/
def State.dflt (s : State) (f : Fld) : Nat :=
  if f.keep = .f then (Cells.get f.key s.plan).getD f.rst else f.rst

/-- The value of a field. -/
def State.rd (s : State) (f : Fld) : Nat := (Cells.get f.key s.regs).getD (s.dflt f)

/-- The state with a field at a value, cut to the field's width. -/
def State.wr (s : State) (f : Fld) (v : Nat) : State :=
  { s with regs := Cells.put f.key (v % 2 ^ f.wid) (some (s.dflt f)) s.regs }

/-- Several fields written in order. -/
def State.wrs (s : State) : List (Fld × Nat) → State
  | [] => s
  | (f, v) :: t => (s.wr f v).wrs t

/-- Whether a field is nonzero. -/
def State.on (s : State) (f : Fld) : Bool := s.rd f != 0

/-- A field read as two's complement. -/
def State.rdS (s : State) (f : Fld) : Int := sx f.wid (s.rd f)

/-- A field written from an integer, two's complement. -/
def State.wrS (s : State) (f : Fld) (i : Int) : State := s.wr f (ux f.wid i)

/-- A count raised by n, saturating at the field's largest value. -/
def State.sat (s : State) (f : Fld) (n : Nat) : State := s.wr f (min (s.rd f + n) (2 ^ f.wid - 1))

/-- A count raised by n, wrapping. -/
def State.inc (s : State) (f : Fld) (n : Nat) : State := s.wr f (s.rd f + n)

/-- Bit i of a field set, and cleared. -/
def State.setBitF (s : State) (f : Fld) (i : Nat) : State := s.wr f (setBit (s.rd f) i)
def State.clrBitF (s : State) (f : Fld) (i : Nat) : State := s.wr f (clrBit (s.rd f) i)

/-- A choice between an effect and nothing. -/
def State.when (s : State) (c : Bool) (g : State → State) : State := if c then g s else s

/-- An effect repeated over a list. -/
def State.each {α : Type} (s : State) (l : List α) (g : α → State → State) : State :=
  l.foldl (fun s a => g a s) s

/-- A value the spec leaves open, cut to w bits, and the state whose next such value is another one. -/
def State.freeVal (s : State) (w : Nat) : Nat := Config.freeValue s.free % 2 ^ w
def State.freeStep (s : State) : State := { s with free := s.free + 1 }

/-- The entries of a FIFO, oldest first; the state with other entries; an entry put at the end; the oldest
taken away. -/
def State.ff (s : State) (f : Fld) : List Nat := (Cells.get f.key s.fifos).getD []
def State.setFf (s : State) (f : Fld) (l : List Nat) : State :=
  { s with fifos := Cells.put f.key l (some []) s.fifos }
def State.pushFf (s : State) (f : Fld) (v : Nat) : State := s.setFf f (s.ff f ++ [v])
def State.popFf (s : State) (f : Fld) : State := s.setFf f (s.ff f).tail

/-! ### Memory (R37, R510, R512) -/

/-- The regions of the address map (R37); `block` names a peripheral block and an offset in its window. -/
inductive Region where
  | rom | flash | sram | pbm | linkMem | ctxWin | plic
  | block (b off : Nat)
  | unmapped
  deriving DecidableEq, Repr

/-- R40: the pages of the peripheral region, in block order. -/
def blockPages : List Nat :=
  [0x00, 0x01, 0x02, 0x03, 0x04, 0x10, 0x11, 0x12, 0x13, 0x14, 0x20, 0x21, 0x22, 0x30, 0x31, 0x32, 0x33,
   0x34, 0x40, 0x41, 0x50, 0x51, 0x60, 0x62, 0x63, 0x70, 0x71, 0x72, 0x73, 0x74, 0x75, 0x76, 0x77, 0x80,
   0x81, 0x82, 0x83, 0x84, 0x85, 0x86, 0x87]

/-- R40: the address of a block's register. -/
def blockAddr (b off : Nat) : Nat := 0x40000000 + blockPages.getD b 0 * 0x1000 + off

/-- R37, R40: the region that holds an address. -/
def regionOf (a : Nat) : Region :=
  if a < 0x10000 then .rom
  else if 0x08000000 ≤ a ∧ a < 0x08400000 then .flash
  else if 0x0C000000 ≤ a ∧ a < 0x0C400000 then .plic
  else if 0x20000000 ≤ a ∧ a < 0x20100000 then .sram
  else if 0x20100000 ≤ a ∧ a < 0x20140000 then .pbm
  else if 0x20140000 ≤ a ∧ a < 0x20160000 then .linkMem
  else if 0x20160000 ≤ a ∧ a < 0x20168000 then .ctxWin
  else if 0x40000000 ≤ a ∧ a < 0x40088000 then
    let p := (a - 0x40000000) / 0x1000
    match firstBelow (fun i => blockPages.getD i 0 == p) 41 with
    | some b => .block b ((a - 0x40000000) % 0x1000)
    | none => .unmapped
  else .unmapped

/-- What an address reads as when the memory list does not list it: erased flash reads ones (R54), the
packet buffers and the context store read zero (R153, R262, R268); nothing fixed for the boot ROM, the
application SRAM and the link memory, whose contents the spec leaves undefined. -/
def memDflt (a : Nat) : Option Byte :=
  match regionOf a with
  | .flash => some 0xFF#8
  | .pbm | .ctxWin => some 0#8
  | _ => none

/-- R142: the link pair's 8 KB of private data RAM, above every address that a bus master can name. -/
def linkRam : Nat := 2 ^ 32

/-- The undefined memories that lose their contents apart: the 16 blocks of application SRAM (R37, R384),
the link memory and the link pair's data RAM; and the number of the last loss of each, a free-value index. -/
def lossOf (a : Nat) : Nat :=
  if linkRam ≤ a then 17 else if 0x20000000 ≤ a ∧ a < 0x20100000 then (a - 0x20000000) / 0x10000 else 16
def lossLatch (k : Nat) : Fld := latch 41 (200 + k) 64 .nv k

/-- One byte of memory. An unlisted byte of undefined contents is a free value, renewed at every loss; one of a data RAM that was
cleared (loss number 0) is 0. -/
def State.rdB (s : State) (a : Nat) : Byte :=
  match Cells.get a s.mem with
  | some b => b
  | none =>
    match memDflt a with
    | some b => b
    | none =>
      if a < 0x10000 then Config.romByte a
      else if linkRam ≤ a ∧ s.rd (lossLatch 17) = 0 then 0#8
      else Config.freeByte (s.rd (lossLatch (lossOf a))) a

/-- The state with one byte of memory written. -/
def State.wrB (s : State) (a : Nat) (b : Byte) : State :=
  { s with mem := Cells.put a b (memDflt a) s.mem }

/-- n bytes from an address on, lowest first, and a list of bytes written from an address on. -/
def State.rdBs (s : State) (a : Nat) : Nat → List Byte
  | 0 => []
  | n + 1 => s.rdB a :: s.rdBs (a + 1) n

def State.wrBs (s : State) (a : Nat) : List Byte → State
  | [] => s
  | b :: t => (s.wrB a b).wrBs (a + 1) t

/-- An n-byte little-endian value at an address (R37). -/
def State.rdLe (s : State) (a n : Nat) : Nat := ofLe (s.rdBs a n)
def State.wrLe (s : State) (a n v : Nat) : State := s.wrBs a (leBytes n v)

/-- The bytes of a range of addresses dropped from the list, so that they read as unlisted. -/
def State.dropMem (s : State) (lo hi : Nat) : State :=
  { s with mem := Cells.keep (fun a => !(decide (lo ≤ a) && decide (a < hi))) s.mem }

/-- A long run of bytes written from an address on, at once. -/
def State.wrRun (s : State) (a : Nat) (l : List Byte) : State := { s with mem := Cells.putRun memDflt a l s.mem }

/-- A memory that loses its contents: application SRAM block k, the link memory for k = 16, the link pair's data RAM for k = 17. -/
def State.loseMem (s : State) (k : Nat) : State :=
  let lo := if k < 16 then 0x20000000 + k * 0x10000 else if k = 16 then 0x20140000 else linkRam
  let hi := if k < 16 then lo + 0x10000 else if k = 16 then 0x20160000 else linkRam + 0x2000
  ((s.dropMem lo hi).wr (lossLatch k) (s.free + 18)).freeStep

/-- R177: the link pair's data RAM cleared. -/
def State.clearLinkRam (s : State) : State := (s.dropMem linkRam (linkRam + 0x2000)).wr (lossLatch 17) 0

/-- Memory.wf: addresses rise strictly and no entry equals what its address reads as unlisted. -/
def Memory.wf (m : List Host.Cell) : Bool :=
  Cells.rising none m && m.all (fun p => decide (memDflt p.1 ≠ some p.2))

end Sys2Proof.Machine
end

