-- ==== Sys2Proof/Machine/Fault.lean ====
section
/-!
DEFINITION. Machine/Fault.lean: the fault monitor of R475 to R478, what an armed injection does to a
detector (R479, R480), and the in-flight records of R485.
-/
namespace Sys2Proof.Machine

open Sys2Proof

namespace L

/-- R479: the mode of an armed injection (0 none, 1 ONESHOT, 2 NEXT_EVENT, 3 STICKY). -/
def INJ_ON : Fld := latch 2 0 2 .c 0
/-- R479: the detector an armed injection acts on, as INJ_SEL held it at the arming. -/
def INJ_I : Fld := latch 2 1 6 .c 0
/-- R479: the argument of an armed injection, as INJ_ARG held it at the arming. -/
def INJ_A : Fld := latch 2 2 32 .c 0
/-- R479: 1 while a NEXT_EVENT injection waits for the operation already under way to end. -/
def INJ_SKIP : Fld := latch 2 3 1 .c 0
/-- R479: how much of the key sequence has been written: 0, 1 after 0x1D3, 2 after 0x2E4. -/
def INJ_KEYS : Fld := latch 2 4 2 .w 0
/-- R476: a SYS reset that a reaction has called for and the step ends with. -/
def DUE_SYS : Fld := latch 2 5 1 .c 0
/-- R476: the domains whose DOMAIN reset a reaction has called for. -/
def DUE_DOM : Fld := latch 2 6 13 .c 0

end L

/-- R479: whether an armed injection acts on detector `i` at this occasion. -/
def State.injHits (s : State) (i : Nat) : Bool :=
  s.on L.INJ_ON && s.rd L.INJ_I == i && !s.on L.INJ_SKIP

/-- R479, R480: the injection has acted: FIRED is set, and a ONESHOT or NEXT_EVENT injection is over. -/
def State.injActed (s : State) : State :=
  let s1 := s.wr R.FAULT_INJ_STAT_FIRED 1
  if s.rd L.INJ_ON = 3 then s1
  else s1.wrs [(L.INJ_ON, 0), (R.FAULT_INJ_MODE_MODE, 0), (R.FAULT_INJ_STAT_ARMED, 0)]

/-- R479: an occasion of detector `i`: whether an injection acts on it, and the state after. A NEXT_EVENT
injection armed while the operation was already under way lets this one pass. -/
def State.occasion (s : State) (i : Nat) : Bool × State :=
  if s.injHits i then (true, s.injActed)
  else if s.on L.INJ_ON && s.rd L.INJ_I == i then (false, s.wr L.INJ_SKIP 0)
  else (false, s)

/-- R477: the detectors that exist. -/
def detectors : List Nat :=
  [0x00, 0x01, 0x02, 0x08, 0x10, 0x11, 0x12, 0x13, 0x14, 0x15, 0x18, 0x19, 0x20, 0x21, 0x22, 0x23, 0x24,
   0x25, 0x28, 0x30, 0x38]

/-- R477: the REACT values a detector allows; none for the four whose fixed action is a reset. -/
def reactAllowed (i : Nat) : List Nat :=
  if [0x10, 0x13, 0x18, 0x19].contains i then []
  else if i = 0x08 then [0, 1, 2, 3]
  else if i = 0x15 then [0, 1, 2]
  else if [0x01, 0x11, 0x22, 0x30].contains i then [0, 1, 3]
  else if detectors.contains i then [0, 1]
  else []

/-- R476, R493: the REACT value in force for detector `i`. -/
def State.react (s : State) (i : Nat) : Nat := bits (s.rd (R.FAULT_REACT (i / 8))) (4 * (i % 8) + 1) (4 * (i % 8))

/-- R476: what LOG.REACTION records: the fixed reset of a detector that has one, else its REACT value. -/
def State.reaction (s : State) (i : Nat) : Nat :=
  if i = 0x10 then 4 else if i = 0x13 then 5 else if i = 0x18 then 6 else if i = 0x19 then 7 else s.react i

/-- R475, R493: the count byte of detector `i` raised by one, saturating at 255. -/
def State.faultCount (s : State) (i : Nat) : State :=
  let f := R.FAULT_CNT (i / 4)
  let v := s.rd f
  if bits v (8 * (i % 4) + 7) (8 * (i % 4)) = 255 then s else s.wr f (v + 256 ^ (i % 4))

/-- R475, R476, R478: detector `i` fires with a detail word: HIT, CNT, LAST, LOG, and the reset its
reaction calls for, of domain `dom` for DOMAIN (only the domains coded 5 to 12). -/
def State.fire (s : State) (i detail : Nat) (inj : Bool := false) (dom : Option Nat := none) : State :=
  let r := s.reaction i
  let s1 := (s.setBitF (if i < 32 then R.FAULT_HIT_0 else R.FAULT_HIT_1) (i % 32)).faultCount i
  let s2 := s1.wr R.FAULT_LAST_INDEX i
  let s3 :=
    if s2.on R.FAULT_LOG_VALID then s2
    else s2.wrs [(R.FAULT_LOG_INDEX, i), (R.FAULT_LOG_REACTION, r), (R.FAULT_LOG_INJECTED, b2n inj),
      (R.FAULT_LOG_VALID, 1), (R.FAULT_LOG_DETAIL, detail)]
  if r = 3 then s3.wr L.DUE_SYS 1
  else if r = 2 then
    match dom with
    | some d => if 5 ≤ d ∧ d ≤ 12 then s3.setBitF L.DUE_DOM d else s3
    | none => s3
  else s3

/-! ### In-flight records -/

/-- R485: record n of a unit that starts an operation; a frozen record is left and noted in IF_OVERRUN. -/
def State.ifStart (s : State) (n op step prog d1 d2 : Nat) : State :=
  if s.on (R.FAULT_INFLIGHT_FROZEN n) then s.setBitF R.FAULT_IF_OVERRUN n
  else s.wrs [(R.FAULT_INFLIGHT_OP n, op), (R.FAULT_INFLIGHT_STEP n, step), (R.FAULT_INFLIGHT_PROG n, prog),
    (R.FAULT_INFLIGHT_DETAIL n, d1), (R.FAULT_INFLIGHT_DETAIL2 n, d2)]

/-- R485: the step, progress and details of an operation under way brought up to date. -/
def State.ifStep (s : State) (n step prog d1 d2 : Nat) : State :=
  if s.on (R.FAULT_INFLIGHT_FROZEN n) || !s.on (R.FAULT_INFLIGHT_OP n) then s
  else s.wrs [(R.FAULT_INFLIGHT_STEP n, step), (R.FAULT_INFLIGHT_PROG n, prog),
    (R.FAULT_INFLIGHT_DETAIL n, d1), (R.FAULT_INFLIGHT_DETAIL2 n, d2)]

/-- R485: OP returns to NONE when the operation ends by its own rule. -/
def State.ifEnd (s : State) (n : Nat) : State :=
  if s.on (R.FAULT_INFLIGHT_FROZEN n) then s else s.wr (R.FAULT_INFLIGHT_OP n) 0

/-- R485: an interrupted operation's record is frozen with its cause. -/
def State.freeze (s : State) (cause n : Nat) : State :=
  if s.on (R.FAULT_INFLIGHT_FROZEN n) || !s.on (R.FAULT_INFLIGHT_OP n) then s
  else s.wrs [(R.FAULT_INFLIGHT_FROZEN n, 1), (R.FAULT_INFLIGHT_CAUSE n, cause)]

end Sys2Proof.Machine
end

