-- ==== Sys2Proof/Machine/Pmp.lean ====
section
/-!
DEFINITION. Machine/Pmp.lean: the application core's privilege mode and its 16 physical memory protection regions
(R32, per the RISC-V privileged specification).
-/
namespace Sys2Proof.Machine

open Sys2Proof

namespace L

/-- R32: the privilege mode of the application core: 3 machine, 0 user. -/
def CPU_PRIV : Fld := latch 44 60 2 .w 3
/-- R32: the privilege mode before the last trap (mstatus.MPP). -/
def CPU_MPP : Fld := latch 44 61 2 .w 0
/-- R35: mcounteren. -/
def MCOUNTEREN : Fld := latch 44 62 32 .w 0
/-- R32: the 16 configuration bytes of the PMP, region i in bits 8i + 7 to 8i; the 16 address registers. -/
def PMP_CFG : Fld := latch 44 63 128 .w 0
def PMP_ADDR (i : Nat) : Fld := latch 44 (64 + i) 32 .w 0

end L

/-- What an access of the core does: load, store, fetch; its bit in a PMP configuration byte. -/
inductive Use where
  | load | store | fetch
  deriving DecidableEq, Repr

def Use.bit : Use → Nat
  | .load => 0
  | .store => 1
  | .fetch => 2

/-- The configuration byte of region i. -/
def State.pmpCfg (s : State) (i : Nat) : Nat := bits (s.rd L.PMP_CFG) (8 * i + 7) (8 * i)

/-- The first byte and the end of region i: OFF has none, TOR runs from the region before, NA4 is a word, NAPOT a naturally
aligned power of two. -/
def State.pmpRange (s : State) (i : Nat) : Option (Nat × Nat) :=
  let a := s.rd (L.PMP_ADDR i)
  match bits (s.pmpCfg i) 4 3 with
  | 0 => none
  | 1 => some (if i = 0 then 0 else 4 * s.rd (L.PMP_ADDR (i - 1)), 4 * a)
  | 2 => some (4 * a, 4 * a + 4)
  | _ =>
    let t := (firstBelow (fun k => !Machine.bit a k) 32).getD 32
    let lo := a / 2 ^ (t + 1) * 2 ^ (t + 3)
    some (lo, lo + 2 ^ (t + 3))

/-- The region that decides on the word an address lies in: the lowest-numbered that holds it. -/
def State.pmpHit (s : State) (a : Nat) : Option Nat :=
  firstBelow (fun i => match s.pmpRange i with | some (lo, hi) => decide (lo ≤ a) && decide (a < hi) | none => false) 16

/-- R32: whether the core may make an access. In machine mode an unlocked region binds nothing and what no region holds is
open; in user mode what no region holds is closed. An access that fails its alignment (R511) or spans no word boundary lies in
one region, since no region is smaller than a word. -/
def State.pmpOk (s : State) (a : Nat) (u : Use) : Bool :=
  match s.pmpHit a with
  | none => s.rd L.CPU_PRIV == 3
  | some i => (s.rd L.CPU_PRIV == 3 && !Machine.bit (s.pmpCfg i) 7) || Machine.bit (s.pmpCfg i) u.bit

end Sys2Proof.Machine
end

