-- ==== Sys2Proof/Machine/RegsHall.lean ====
section
/-!
DEFINITION. Machine/RegsHall.lean: the HALL, DMA and FLOOR registers (R43, R45, R64), one field a definition, written from the
spec's register tables: place, width, access code, Keep class, Reset value, stated range, writer.
-/
namespace Sys2Proof.Machine.R

open Sys2Proof

/-- R43 HALL.CTRL.STALL_IRQ_EN: 1 routes EV_HALL_STALL to the event matrix. -/
def HALL_CTRL_STALL_IRQ_EN : Fld :=
  ⟨3, 0x0, 0, 1, .rwl, .w, 0, .any, .any⟩

/-- R43 HALL.CTRL.CLK_IRQ_EN: 1 routes EV_CLK_FAIL to the event matrix. -/
def HALL_CTRL_CLK_IRQ_EN : Fld :=
  ⟨3, 0x0, 1, 1, .rwl, .w, 0, .any, .any⟩

/-- R43 HALL.CTRL.LOCK: LOCK bit of HALL, per R8. -/
def HALL_CTRL_LOCK : Fld :=
  ⟨3, 0x0, 31, 1, .w1s, .w, 0, .any, .any⟩

/-- R43 HALL.CLK_STAT.HFXO_OK: HFXO running within tolerance and qualified, per R19. -/
def HALL_CLK_STAT_HFXO_OK : Fld :=
  ⟨3, 0x4, 0, 1, .ro, .live, 0, .any, .any⟩

/-- R43 HALL.CLK_STAT.PLL_LOCK: PLL locked. -/
def HALL_CLK_STAT_PLL_LOCK : Fld :=
  ⟨3, 0x4, 1, 1, .ro, .live, 0, .any, .any⟩

/-- R43 HALL.CLK_STAT.PLL_SRC: PLL reference: 0 HFXO, 1 HFRC. -/
def HALL_CLK_STAT_PLL_SRC : Fld :=
  ⟨3, 0x4, 2, 1, .ro, .live, 0, .any, .any⟩

/-- R43 HALL.CLK_STAT.LFXO_OK: LFXO running. -/
def HALL_CLK_STAT_LFXO_OK : Fld :=
  ⟨3, 0x4, 3, 1, .ro, .live, 1, .any, .any⟩

/-- R43 HALL.CLK_STAT.LF_SRC: CELLAR source: 0 LFXO, 1 LFRC. -/
def HALL_CLK_STAT_LF_SRC : Fld :=
  ⟨3, 0x4, 4, 1, .ro, .live, 0, .any, .any⟩

/-- R43 HALL.CLK_STAT.LT_SRC: LINK_TIME: 0 counted from HFXO, 1 carried by the Cellar. -/
def HALL_CLK_STAT_LT_SRC : Fld :=
  ⟨3, 0x4, 5, 1, .ro, .live, 1, .any, .any⟩

/-- R43 HALL.CLK_STAT.NFC_SYN_LOCK: NFC synthesiser locked. -/
def HALL_CLK_STAT_NFC_SYN_LOCK : Fld :=
  ⟨3, 0x4, 6, 1, .ro, .live, 0, .any, .any⟩

/-- R43 HALL.CLK_STAT.RUN: Bit 8 + k is 1 while the island with code k has a running clock. -/
def HALL_CLK_STAT_RUN : Fld :=
  ⟨3, 0x4, 8, 11, .ro, .live, 3, .any, .any⟩

/-- R43 HALL.CLK_EVT.HFXO_LOST: Set under R17 and on a wake completed on the HFRC. -/
def HALL_CLK_EVT_HFXO_LOST : Fld :=
  ⟨3, 0x8, 0, 1, .w1c, .c, 0, .any, .any⟩

/-- R43 HALL.CLK_EVT.PLL_UNLOCK: PLL lost lock outside a commanded switch. -/
def HALL_CLK_EVT_PLL_UNLOCK : Fld :=
  ⟨3, 0x8, 1, 1, .w1c, .c, 0, .any, .any⟩

/-- R43 HALL.CLK_EVT.LFXO_LOST: Set under R20. -/
def HALL_CLK_EVT_LFXO_LOST : Fld :=
  ⟨3, 0x8, 2, 1, .w1c, .c, 0, .any, .any⟩

/-- R43 HALL.CLK_EVT.RETURNED: Return to HFXO completed under R19. -/
def HALL_CLK_EVT_RETURNED : Fld :=
  ⟨3, 0x8, 3, 1, .w1c, .c, 0, .any, .any⟩

/-- R43 HALL.CLK_CMD.RETURN_HFXO: Requests the return of R19. -/
def HALL_CLK_CMD_RETURN_HFXO : Fld :=
  ⟨3, 0xc, 0, 1, .wo, .w, 0, .any, .any⟩

/-- R43 HALL.APP_CLK.DIV: Applied APP divider, per R15. -/
def HALL_APP_CLK_DIV : Fld :=
  ⟨3, 0x10, 0, 5, .rwf, .f, 8, .any, .any⟩

/-- R43 HALL.LT_CMD.SNAP: Takes a snapshot, per R25. -/
def HALL_LT_CMD_SNAP : Fld :=
  ⟨3, 0x20, 0, 1, .wo, .w, 0, .any, .any⟩

/-- R43 HALL.LT_SNAP_LO: LINK_TIME[31:0] at the snapshot. -/
def HALL_LT_SNAP_LO : Fld :=
  ⟨3, 0x24, 0, 32, .ro, .w, 0, .any, .any⟩

/-- R43 HALL.LT_SNAP_HI: LINK_TIME[63:32] at the snapshot. -/
def HALL_LT_SNAP_HI : Fld :=
  ⟨3, 0x28, 0, 32, .ro, .w, 0, .any, .any⟩

/-- R43 HALL.LT_STAT.SNAP_DONE: Set when a snapshot is copied; cleared by the next SNAP write. -/
def HALL_LT_STAT_SNAP_DONE : Fld :=
  ⟨3, 0x2c, 0, 1, .ro, .w, 0, .any, .any⟩

/-- R43 HALL.STALL_LOG.SRC: Island code of the initiating master. -/
def HALL_STALL_LOG_SRC : Fld :=
  ⟨3, 0x30, 0, 4, .ro, .c, 0, .any, .any⟩

/-- R43 HALL.STALL_LOG.DST: Island code of the destination. -/
def HALL_STALL_LOG_DST : Fld :=
  ⟨3, 0x30, 4, 4, .ro, .c, 0, .any, .any⟩

/-- R43 HALL.STALL_LOG.REASON: Per the table under R31. -/
def HALL_STALL_LOG_REASON : Fld :=
  ⟨3, 0x30, 8, 2, .ro, .c, 0, .any, .any⟩

/-- R43 HALL.STALL_LOG.WRITE: 1 when the logged transfer was a write. -/
def HALL_STALL_LOG_WRITE : Fld :=
  ⟨3, 0x30, 10, 1, .ro, .c, 0, .any, .any⟩

/-- R43 HALL.STALL_LOG.LATE_DONE: Set under R31. -/
def HALL_STALL_LOG_LATE_DONE : Fld :=
  ⟨3, 0x30, 11, 1, .ro, .c, 0, .any, .any⟩

/-- R43 HALL.STALL_LOG.VALID: Log holds a record. Writing 1 clears the whole log and STALL_CNT. -/
def HALL_STALL_LOG_VALID : Fld :=
  ⟨3, 0x30, 31, 1, .w1c, .c, 0, .any, .any⟩

/-- R43 HALL.STALL_ADDR: Address of the logged transfer. -/
def HALL_STALL_ADDR : Fld :=
  ⟨3, 0x34, 0, 32, .ro, .c, 0, .any, .any⟩

/-- R43 HALL.STALL_CNT: Stalls and refusals since the last clear; saturates at 0xFFFF. -/
def HALL_STALL_CNT : Fld :=
  ⟨3, 0x38, 0, 16, .ro, .c, 0, .any, .any⟩

/-- R45 DMA.CTRL.EN: 1 enables the DMA. While 0, no channel starts. -/
def DMA_CTRL_EN : Fld :=
  ⟨4, 0x0, 0, 1, .rwl, .w, 0, .any, .any⟩

/-- R45 DMA.CTRL.LOCK: LOCK bit of DMA, per R8. -/
def DMA_CTRL_LOCK : Fld :=
  ⟨4, 0x0, 31, 1, .w1s, .w, 0, .any, .any⟩

/-- R45 DMA.DONE: Bit n set when channel n finishes its count. -/
def DMA_DONE : Fld :=
  ⟨4, 0x4, 0, 16, .w1c, .w, 0, .any, .any⟩

/-- R45 DMA.ERR: Bit n set when channel n stops on an error. -/
def DMA_ERR : Fld :=
  ⟨4, 0x8, 0, 16, .w1c, .w, 0, .any, .any⟩

/-- R45 DMA.CH_SRC_n: Source address. -/
def DMA_CH_SRC (n : Nat) : Fld :=
  ⟨4, (0x100 + n * 0x20), 0, 32, .rw, .w, 0, .any, .any⟩

/-- R45 DMA.CH_DST_n: Destination address. -/
def DMA_CH_DST (n : Nat) : Fld :=
  ⟨4, (0x104 + n * 0x20), 0, 32, .rw, .w, 0, .any, .any⟩

/-- R45 DMA.CH_CNT_n: Byte count, 1 to 1 048 575. -/
def DMA_CH_CNT (n : Nat) : Fld :=
  ⟨4, (0x108 + n * 0x20), 0, 20, .rw, .w, 0, .any, .any⟩

/-- R45 DMA.CH_CFG_n.EN: 1 starts the channel; 0 stops it at the next element boundary. -/
def DMA_CH_CFG_EN (n : Nat) : Fld :=
  ⟨4, (0x10c + n * 0x20), 0, 1, .rw, .w, 0, .any, .any⟩

/-- R45 DMA.CH_CFG_n.SRC_INC: 1 increments the source by the element width. -/
def DMA_CH_CFG_SRC_INC (n : Nat) : Fld :=
  ⟨4, (0x10c + n * 0x20), 1, 1, .rw, .w, 0, .any, .any⟩

/-- R45 DMA.CH_CFG_n.DST_INC: 1 increments the destination by the element width. -/
def DMA_CH_CFG_DST_INC (n : Nat) : Fld :=
  ⟨4, (0x10c + n * 0x20), 2, 1, .rw, .w, 0, .any, .any⟩

/-- R45 DMA.CH_CFG_n.WIDTH: Element width, per the table below. -/
def DMA_CH_CFG_WIDTH (n : Nat) : Fld :=
  ⟨4, (0x10c + n * 0x20), 3, 2, .rw, .w, 0, .any, .any⟩

/-- R45 DMA.CH_CFG_n.REQ: DMA request line of the event matrix, 0 to 63. -/
def DMA_CH_CFG_REQ (n : Nat) : Fld :=
  ⟨4, (0x10c + n * 0x20), 5, 6, .rw, .w, 0, .any, .any⟩

/-- R45 DMA.CH_CFG_n.SW: 1 runs the channel without requests, back to back. -/
def DMA_CH_CFG_SW (n : Nat) : Fld :=
  ⟨4, (0x10c + n * 0x20), 11, 1, .rw, .w, 0, .any, .any⟩

/-- R45 DMA.CH_CFG_n.PRIO: Priority 0 to 3; 3 is highest. -/
def DMA_CH_CFG_PRIO (n : Nat) : Fld :=
  ⟨4, (0x10c + n * 0x20), 12, 2, .rw, .w, 0, .any, .any⟩

/-- R45 DMA.CH_STAT_n.REMAIN: Bytes not yet moved. -/
def DMA_CH_STAT_REMAIN (n : Nat) : Fld :=
  ⟨4, (0x110 + n * 0x20), 0, 20, .ro, .w, 0, .any, .any⟩

/-- R45 DMA.CH_STAT_n.BUSY: Channel running. -/
def DMA_CH_STAT_BUSY (n : Nat) : Fld :=
  ⟨4, (0x110 + n * 0x20), 31, 1, .ro, .w, 0, .any, .any⟩

/-- R64 FLOOR.CTRL.LOCK: LOCK bit of FLOOR, per R8. -/
def FLOOR_CTRL_LOCK : Fld :=
  ⟨1, 0x0, 31, 1, .w1s, .w, 0, .any, .any⟩

/-- R64 FLOOR.CMD.RELOAD: Requests a reload under R62. -/
def FLOOR_CMD_RELOAD : Fld :=
  ⟨1, 0x4, 0, 1, .wo, .w, 0, .any, .any⟩

/-- R64 FLOOR.STATUS.DONE: The last load completed. -/
def FLOOR_STATUS_DONE : Fld :=
  ⟨1, 0x8, 0, 1, .ro, .c, 0, .any, .any⟩

/-- R64 FLOOR.STATUS.USED: Applied plan: 0 safe plan, 1 copy A, 2 copy B. -/
def FLOOR_STATUS_USED : Fld :=
  ⟨1, 0x8, 1, 2, .ro, .c, 0, .any, .any⟩

/-- R64 FLOOR.STATUS.FALLBACK: The safe plan was applied at the last reset load. -/
def FLOOR_STATUS_FALLBACK : Fld :=
  ⟨1, 0x8, 3, 1, .ro, .c, 0, .any, .any⟩

/-- R64 FLOOR.STATUS.REPORT_OVF: More than 64 report entries. -/
def FLOOR_STATUS_REPORT_OVF : Fld :=
  ⟨1, 0x8, 4, 1, .ro, .c, 0, .any, .any⟩

/-- R64 FLOOR.STATUS.RELOAD_BUSY: A reload is in progress. -/
def FLOOR_STATUS_RELOAD_BUSY : Fld :=
  ⟨1, 0x8, 5, 1, .ro, .c, 0, .any, .any⟩

/-- R64 FLOOR.STATUS.A_ERR: Error code of copy A, per R53. -/
def FLOOR_STATUS_A_ERR : Fld :=
  ⟨1, 0x8, 8, 4, .ro, .c, 0, .any, .any⟩

/-- R64 FLOOR.STATUS.B_ERR: Error code of copy B, per R53. -/
def FLOOR_STATUS_B_ERR : Fld :=
  ⟨1, 0x8, 12, 4, .ro, .c, 0, .any, .any⟩

/-- R64 FLOOR.SEQ: SEQ of the applied copy; 0 under the safe plan. -/
def FLOOR_SEQ : Fld :=
  ⟨1, 0xc, 0, 32, .ro, .c, 0, .any, .any⟩

/-- R64 FLOOR.APPLIED_CRC: CRC field of the applied copy; 0 under the safe plan. -/
def FLOOR_APPLIED_CRC : Fld :=
  ⟨1, 0x10, 0, 32, .ro, .c, 0, .any, .any⟩

/-- R64 FLOOR.CLAMP_CNT: Report entries at the last load, per R58. -/
def FLOOR_CLAMP_CNT : Fld :=
  ⟨1, 0x14, 0, 16, .ro, .c, 0, .any, .any⟩

/-- R64 FLOOR.DEFAULT_CNT: Fields given their safe value for lack of a record. -/
def FLOOR_DEFAULT_CNT : Fld :=
  ⟨1, 0x14, 16, 16, .ro, .c, 0, .any, .any⟩

/-- R64 FLOOR.RELOAD_STAT.REASON: Per the table under R63. -/
def FLOOR_RELOAD_STAT_REASON : Fld :=
  ⟨1, 0x18, 0, 3, .ro, .c, 0, .any, .any⟩

/-- R64 FLOOR.REPORT_n.FIELD_ID: FIELD_ID of the entry. -/
def FLOOR_REPORT_FIELD_ID (n : Nat) : Fld :=
  ⟨1, (0x100 + n * 0x10), 0, 16, .ro, .c, 0, .any, .any⟩

/-- R64 FLOOR.REPORT_n.INDEX: INDEX of the entry. -/
def FLOOR_REPORT_INDEX (n : Nat) : Fld :=
  ⟨1, (0x100 + n * 0x10), 16, 8, .ro, .c, 0, .any, .any⟩

/-- R64 FLOOR.REPORT_n.REASON: Per the table under R57. -/
def FLOOR_REPORT_REASON (n : Nat) : Fld :=
  ⟨1, (0x100 + n * 0x10), 24, 4, .ro, .c, 0, .any, .any⟩

/-- R64 FLOOR.REPORT_n.VALID: Entry holds a record. -/
def FLOOR_REPORT_VALID (n : Nat) : Fld :=
  ⟨1, (0x100 + n * 0x10), 31, 1, .ro, .c, 0, .any, .any⟩

/-- R64 FLOOR.REPORT_n.REQ: Requested value. -/
def FLOOR_REPORT_REQ (n : Nat) : Fld :=
  ⟨1, (0x104 + n * 0x10), 0, 32, .ro, .c, 0, .any, .any⟩

/-- R64 FLOOR.REPORT_n.APPLIED: Applied value. -/
def FLOOR_REPORT_APPLIED (n : Nat) : Fld :=
  ⟨1, (0x108 + n * 0x10), 0, 32, .ro, .c, 0, .any, .any⟩

/-- The fields of HALL, by offset. -/
def rowsHALL : List Row :=
  [
  ⟨0x0, 4, 1, fun _ => HALL_CTRL_STALL_IRQ_EN⟩,
  ⟨0x0, 4, 1, fun _ => HALL_CTRL_CLK_IRQ_EN⟩,
  ⟨0x0, 4, 1, fun _ => HALL_CTRL_LOCK⟩,
  ⟨0x4, 4, 1, fun _ => HALL_CLK_STAT_HFXO_OK⟩,
  ⟨0x4, 4, 1, fun _ => HALL_CLK_STAT_PLL_LOCK⟩,
  ⟨0x4, 4, 1, fun _ => HALL_CLK_STAT_PLL_SRC⟩,
  ⟨0x4, 4, 1, fun _ => HALL_CLK_STAT_LFXO_OK⟩,
  ⟨0x4, 4, 1, fun _ => HALL_CLK_STAT_LF_SRC⟩,
  ⟨0x4, 4, 1, fun _ => HALL_CLK_STAT_LT_SRC⟩,
  ⟨0x4, 4, 1, fun _ => HALL_CLK_STAT_NFC_SYN_LOCK⟩,
  ⟨0x4, 4, 1, fun _ => HALL_CLK_STAT_RUN⟩,
  ⟨0x8, 4, 1, fun _ => HALL_CLK_EVT_HFXO_LOST⟩,
  ⟨0x8, 4, 1, fun _ => HALL_CLK_EVT_PLL_UNLOCK⟩,
  ⟨0x8, 4, 1, fun _ => HALL_CLK_EVT_LFXO_LOST⟩,
  ⟨0x8, 4, 1, fun _ => HALL_CLK_EVT_RETURNED⟩,
  ⟨0xc, 4, 1, fun _ => HALL_CLK_CMD_RETURN_HFXO⟩,
  ⟨0x10, 4, 1, fun _ => HALL_APP_CLK_DIV⟩,
  ⟨0x20, 4, 1, fun _ => HALL_LT_CMD_SNAP⟩,
  ⟨0x24, 4, 1, fun _ => HALL_LT_SNAP_LO⟩,
  ⟨0x28, 4, 1, fun _ => HALL_LT_SNAP_HI⟩,
  ⟨0x2c, 4, 1, fun _ => HALL_LT_STAT_SNAP_DONE⟩,
  ⟨0x30, 4, 1, fun _ => HALL_STALL_LOG_SRC⟩,
  ⟨0x30, 4, 1, fun _ => HALL_STALL_LOG_DST⟩,
  ⟨0x30, 4, 1, fun _ => HALL_STALL_LOG_REASON⟩] ++ [
  ⟨0x30, 4, 1, fun _ => HALL_STALL_LOG_WRITE⟩,
  ⟨0x30, 4, 1, fun _ => HALL_STALL_LOG_LATE_DONE⟩,
  ⟨0x30, 4, 1, fun _ => HALL_STALL_LOG_VALID⟩,
  ⟨0x34, 4, 1, fun _ => HALL_STALL_ADDR⟩,
  ⟨0x38, 4, 1, fun _ => HALL_STALL_CNT⟩]

/-- The fields of DMA, by offset. -/
def rowsDMA : List Row :=
  [
  ⟨0x0, 4, 1, fun _ => DMA_CTRL_EN⟩,
  ⟨0x0, 4, 1, fun _ => DMA_CTRL_LOCK⟩,
  ⟨0x4, 4, 1, fun _ => DMA_DONE⟩,
  ⟨0x8, 4, 1, fun _ => DMA_ERR⟩,
  ⟨0x100, 32, 16, fun n => DMA_CH_SRC n⟩,
  ⟨0x104, 32, 16, fun n => DMA_CH_DST n⟩,
  ⟨0x108, 32, 16, fun n => DMA_CH_CNT n⟩,
  ⟨0x10c, 32, 16, fun n => DMA_CH_CFG_EN n⟩,
  ⟨0x10c, 32, 16, fun n => DMA_CH_CFG_SRC_INC n⟩,
  ⟨0x10c, 32, 16, fun n => DMA_CH_CFG_DST_INC n⟩,
  ⟨0x10c, 32, 16, fun n => DMA_CH_CFG_WIDTH n⟩,
  ⟨0x10c, 32, 16, fun n => DMA_CH_CFG_REQ n⟩,
  ⟨0x10c, 32, 16, fun n => DMA_CH_CFG_SW n⟩,
  ⟨0x10c, 32, 16, fun n => DMA_CH_CFG_PRIO n⟩,
  ⟨0x110, 32, 16, fun n => DMA_CH_STAT_REMAIN n⟩,
  ⟨0x110, 32, 16, fun n => DMA_CH_STAT_BUSY n⟩]

/-- The fields of FLOOR, by offset. -/
def rowsFLOOR : List Row :=
  [
  ⟨0x0, 4, 1, fun _ => FLOOR_CTRL_LOCK⟩,
  ⟨0x4, 4, 1, fun _ => FLOOR_CMD_RELOAD⟩,
  ⟨0x8, 4, 1, fun _ => FLOOR_STATUS_DONE⟩,
  ⟨0x8, 4, 1, fun _ => FLOOR_STATUS_USED⟩,
  ⟨0x8, 4, 1, fun _ => FLOOR_STATUS_FALLBACK⟩,
  ⟨0x8, 4, 1, fun _ => FLOOR_STATUS_REPORT_OVF⟩,
  ⟨0x8, 4, 1, fun _ => FLOOR_STATUS_RELOAD_BUSY⟩,
  ⟨0x8, 4, 1, fun _ => FLOOR_STATUS_A_ERR⟩,
  ⟨0x8, 4, 1, fun _ => FLOOR_STATUS_B_ERR⟩,
  ⟨0xc, 4, 1, fun _ => FLOOR_SEQ⟩,
  ⟨0x10, 4, 1, fun _ => FLOOR_APPLIED_CRC⟩,
  ⟨0x14, 4, 1, fun _ => FLOOR_CLAMP_CNT⟩,
  ⟨0x14, 4, 1, fun _ => FLOOR_DEFAULT_CNT⟩,
  ⟨0x18, 4, 1, fun _ => FLOOR_RELOAD_STAT_REASON⟩,
  ⟨0x100, 16, 64, fun n => FLOOR_REPORT_FIELD_ID n⟩,
  ⟨0x100, 16, 64, fun n => FLOOR_REPORT_INDEX n⟩,
  ⟨0x100, 16, 64, fun n => FLOOR_REPORT_REASON n⟩,
  ⟨0x100, 16, 64, fun n => FLOOR_REPORT_VALID n⟩,
  ⟨0x104, 16, 64, fun n => FLOOR_REPORT_REQ n⟩,
  ⟨0x108, 16, 64, fun n => FLOOR_REPORT_APPLIED n⟩]

end Sys2Proof.Machine.R
end

