-- ==== Sys2Proof/Machine/RegsStore.lean ====
section
/-!
DEFINITION. Machine/RegsStore.lean: the FLASHC and ATTIC registers (R349, R375), one field a definition, written from the
spec's register tables: place, width, access code, Keep class, Reset value, stated range, writer.
-/
namespace Sys2Proof.Machine.R

open Sys2Proof

/-- R349 FLASHC.CTRL.IRQ_EN: 1 routes EV_FLASH, raised by EVT bits [1:0] and [5:4], to the event matrix. -/
def FLASHC_CTRL_IRQ_EN : Fld :=
  ⟨20, 0x0, 0, 1, .rwl, .w, 0, .any, .any⟩

/-- R349 FLASHC.CTRL.WEAR_EN: 1 routes EV_FLASH_WEAR to the event matrix. -/
def FLASHC_CTRL_WEAR_EN : Fld :=
  ⟨20, 0x0, 1, 1, .rwl, .w, 0, .any, .any⟩

/-- R349 FLASHC.CTRL.ECC_EN: 1 routes EV_FLASH_ECC to the event matrix. -/
def FLASHC_CTRL_ECC_EN : Fld :=
  ⟨20, 0x0, 2, 1, .rwl, .w, 1, .any, .any⟩

/-- R349 FLASHC.CTRL.LOCK: LOCK bit of FLASHC, per R8. -/
def FLASHC_CTRL_LOCK : Fld :=
  ⟨20, 0x0, 31, 1, .w1s, .w, 0, .any, .any⟩

/-- R349 FLASHC.KEY: Unlock values, per R335. -/
def FLASHC_KEY : Fld :=
  ⟨20, 0x4, 0, 16, .wo, .w, 0, .any, .any⟩

/-- R349 FLASHC.CMD.OP: Command, per R335. -/
def FLASHC_CMD_OP : Fld :=
  ⟨20, 0x8, 0, 3, .wo, .w, 0, .any, .any⟩

/-- R349 FLASHC.ADDR: Target address, or the SET_RDP value of R347. -/
def FLASHC_ADDR : Fld :=
  ⟨20, 0xc, 0, 32, .rw, .w, 0, .any, .any⟩

/-- R349 FLASHC.DATA_0: Word octets 0 to 3. -/
def FLASHC_DATA_0 : Fld :=
  ⟨20, 0x10, 0, 32, .wo, .w, 0, .any, .any⟩

/-- R349 FLASHC.DATA_1: Word octets 4 to 7. -/
def FLASHC_DATA_1 : Fld :=
  ⟨20, 0x14, 0, 32, .wo, .w, 0, .any, .any⟩

/-- R349 FLASHC.DATA_2: Word octets 8 to 11. -/
def FLASHC_DATA_2 : Fld :=
  ⟨20, 0x18, 0, 32, .wo, .w, 0, .any, .any⟩

/-- R349 FLASHC.DATA_3: Word octets 12 to 15; the write starts PROGRAM. -/
def FLASHC_DATA_3 : Fld :=
  ⟨20, 0x1c, 0, 32, .wo, .w, 0, .any, .any⟩

/-- R349 FLASHC.STAT.BUSY0: Bank 0 programming or erasing. -/
def FLASHC_STAT_BUSY0 : Fld :=
  ⟨20, 0x20, 0, 1, .ro, .live, 0, .any, .any⟩

/-- R349 FLASHC.STAT.BUSY1: Bank 1 programming or erasing. -/
def FLASHC_STAT_BUSY1 : Fld :=
  ⟨20, 0x20, 1, 1, .ro, .live, 0, .any, .any⟩

/-- R349 FLASHC.STAT.OP: Operation in progress or suspended, as CMD.OP. -/
def FLASHC_STAT_OP : Fld :=
  ⟨20, 0x20, 4, 3, .ro, .live, 0, .any, .any⟩

/-- R349 FLASHC.STAT.SUSPENDED: An erase is suspended, per R340. -/
def FLASHC_STAT_SUSPENDED : Fld :=
  ⟨20, 0x20, 8, 1, .ro, .live, 0, .any, .any⟩

/-- R349 FLASHC.STAT.SUSP_BY: 1 command, 2 dip, 3 both, per R341. -/
def FLASHC_STAT_SUSP_BY : Fld :=
  ⟨20, 0x20, 9, 2, .ro, .live, 0, .any, .any⟩

/-- R349 FLASHC.STAT.RESULT: Per the table under R337. -/
def FLASHC_STAT_RESULT : Fld :=
  ⟨20, 0x20, 12, 4, .ro, .w, 0, .any, .any⟩

/-- R349 FLASHC.STAT.KEY_OK: Sequence unlocked, per R335. -/
def FLASHC_STAT_KEY_OK : Fld :=
  ⟨20, 0x20, 16, 1, .ro, .live, 0, .any, .any⟩

/-- R349 FLASHC.EVT.DONE: A command ended OK. -/
def FLASHC_EVT_DONE : Fld :=
  ⟨20, 0x24, 0, 1, .w1c, .w, 0, .any, .any⟩

/-- R349 FLASHC.EVT.ERR: A command ended with another result. -/
def FLASHC_EVT_ERR : Fld :=
  ⟨20, 0x24, 1, 1, .w1c, .w, 0, .any, .any⟩

/-- R349 FLASHC.EVT.WEAR: Set under R333. -/
def FLASHC_EVT_WEAR : Fld :=
  ⟨20, 0x24, 2, 1, .w1c, .w, 0, .any, .any⟩

/-- R349 FLASHC.EVT.UNCORR: Set under R334. -/
def FLASHC_EVT_UNCORR : Fld :=
  ⟨20, 0x24, 3, 1, .w1c, .w, 0, .any, .any⟩

/-- R349 FLASHC.EVT.FETCH_BUSY: Set under R338. -/
def FLASHC_EVT_FETCH_BUSY : Fld :=
  ⟨20, 0x24, 4, 1, .w1c, .w, 0, .any, .any⟩

/-- R349 FLASHC.EVT.SEQ_ERR: Set under R335. -/
def FLASHC_EVT_SEQ_ERR : Fld :=
  ⟨20, 0x24, 5, 1, .w1c, .w, 0, .any, .any⟩

/-- R349 FLASHC.RDSTAT.ERRCNT: Bits corrected in the last application-core data read. -/
def FLASHC_RDSTAT_ERRCNT : Fld :=
  ⟨20, 0x28, 0, 2, .ro, .w, 0, .any, .any⟩

/-- R349 FLASHC.RDSTAT.STATUS_READ: That read returned a status word. -/
def FLASHC_RDSTAT_STATUS_READ : Fld :=
  ⟨20, 0x28, 2, 1, .ro, .w, 0, .any, .any⟩

/-- R349 FLASHC.RDSTAT.SUSP_HIT: That read fell in a suspended region. -/
def FLASHC_RDSTAT_SUSP_HIT : Fld :=
  ⟨20, 0x28, 3, 1, .ro, .w, 0, .any, .any⟩

/-- R349 FLASHC.RDSTAT.UNCORR: That read met an uncorrectable word. -/
def FLASHC_RDSTAT_UNCORR : Fld :=
  ⟨20, 0x28, 4, 1, .ro, .w, 0, .any, .any⟩

/-- R349 FLASHC.ERR_THRESH: Wear threshold, 1 to 3; 3 disables, per R333. -/
def FLASHC_ERR_THRESH : Fld :=
  ⟨20, 0x2c, 0, 2, .rw, .w, 2, .between 1 3, .any⟩

/-- R349 FLASHC.CORR_CNT.ONE: Reads with one correction; saturates at 0xFFFF. -/
def FLASHC_CORR_CNT_ONE : Fld :=
  ⟨20, 0x30, 0, 16, .ro, .c, 0, .any, .any⟩

/-- R349 FLASHC.CORR_CNT.TWO: Reads with two corrections; saturates at 0xFFFF. -/
def FLASHC_CORR_CNT_TWO : Fld :=
  ⟨20, 0x30, 16, 16, .ro, .c, 0, .any, .any⟩

/-- R349 FLASHC.ECC_LOG_ADDR: Address of the logged word. -/
def FLASHC_ECC_LOG_ADDR : Fld :=
  ⟨20, 0x34, 0, 32, .ro, .c, 0, .any, .any⟩

/-- R349 FLASHC.ECC_LOG.ERRCNT: Corrections in the logged read. -/
def FLASHC_ECC_LOG_ERRCNT : Fld :=
  ⟨20, 0x38, 0, 2, .ro, .c, 0, .any, .any⟩

/-- R349 FLASHC.ECC_LOG.UNCORR: Logged word uncorrectable. -/
def FLASHC_ECC_LOG_UNCORR : Fld :=
  ⟨20, 0x38, 2, 1, .ro, .c, 0, .any, .any⟩

/-- R349 FLASHC.ECC_LOG.MASTER: 0 application core, 1 DMA, 2 debug, 3 instruction fetch, 4 Floor Plan loader. -/
def FLASHC_ECC_LOG_MASTER : Fld :=
  ⟨20, 0x38, 4, 3, .ro, .c, 0, .any, .app⟩

/-- R349 FLASHC.ECC_LOG.VALID: Log holds a record; 1 clears it. -/
def FLASHC_ECC_LOG_VALID : Fld :=
  ⟨20, 0x38, 31, 1, .w1c, .c, 0, .any, .any⟩

/-- R349 FLASHC.PGM_PULSES.LAST: Pulses of the last program, per R339. -/
def FLASHC_PGM_PULSES_LAST : Fld :=
  ⟨20, 0x3c, 0, 4, .ro, .w, 0, .any, .any⟩

/-- R349 FLASHC.PGM_PULSES.MAX: Largest LAST since clear. -/
def FLASHC_PGM_PULSES_MAX : Fld :=
  ⟨20, 0x3c, 8, 4, .ro, .c, 0, .any, .any⟩

/-- R349 FLASHC.PGM_PULSES.CLEAR: 1 clears MAX. -/
def FLASHC_PGM_PULSES_CLEAR : Fld :=
  ⟨20, 0x3c, 31, 1, .wo, .w, 0, .any, .any⟩

/-- R349 FLASHC.ERS_PULSES.LAST: Pulses of the last erase, per R339. -/
def FLASHC_ERS_PULSES_LAST : Fld :=
  ⟨20, 0x40, 0, 5, .ro, .w, 0, .any, .any⟩

/-- R349 FLASHC.ERS_PULSES.MAX: Largest LAST since clear. -/
def FLASHC_ERS_PULSES_MAX : Fld :=
  ⟨20, 0x40, 8, 5, .ro, .c, 0, .any, .any⟩

/-- R349 FLASHC.ERS_PULSES.CLEAR: 1 clears MAX. -/
def FLASHC_ERS_PULSES_CLEAR : Fld :=
  ⟨20, 0x40, 31, 1, .wo, .w, 0, .any, .any⟩

/-- R349 FLASHC.WRP_0: Block protection for bank 0, per R343. -/
def FLASHC_WRP_0 : Fld :=
  ⟨20, 0x44, 0, 32, .rwl, .w, 0, .any, .any⟩

/-- R349 FLASHC.WRP_1: Block protection for bank 1, per R343. -/
def FLASHC_WRP_1 : Fld :=
  ⟨20, 0x48, 0, 32, .rwl, .w, 0, .any, .any⟩

/-- R349 FLASHC.RDP.LEVEL: Protection level in force, per R346. -/
def FLASHC_RDP_LEVEL : Fld :=
  ⟨20, 0x4c, 0, 2, .ro, .nv, 0, .any, .any⟩

/-- R349 FLASHC.RDP.LOWERING: Lowering sequence in progress, per R348. -/
def FLASHC_RDP_LOWERING : Fld :=
  ⟨20, 0x4c, 2, 1, .ro, .nv, 0, .any, .any⟩

/-- R375 ATTIC.CTRL.IRQ_EN: 1 routes EV_ATTIC, raised by any EVT bit, to the event matrix. -/
def ATTIC_CTRL_IRQ_EN : Fld :=
  ⟨21, 0x0, 0, 1, .rwl, .w, 0, .any, .any⟩

/-- R375 ATTIC.CTRL.LOCK: LOCK bit of ATTIC, per R8. -/
def ATTIC_CTRL_LOCK : Fld :=
  ⟨21, 0x0, 31, 1, .w1s, .w, 0, .any, .any⟩

/-- R375 ATTIC.STAT.PHASE: 0 IDLE, 1 STAGING, 2 INSTALL, 3 PAUSED, 4 HANDOFF. -/
def ATTIC_STAT_PHASE : Fld :=
  ⟨21, 0x4, 0, 3, .ro, .c, 0, .any, .any⟩

/-- R375 ATTIC.STAT.COMP: Component being installed. -/
def ATTIC_STAT_COMP : Fld :=
  ⟨21, 0x4, 4, 3, .ro, .c, 0, .any, .any⟩

/-- R375 ATTIC.STAT.MOVING: MOVING holds. -/
def ATTIC_STAT_MOVING : Fld :=
  ⟨21, 0x4, 8, 1, .ro, .live, 0, .any, .any⟩

/-- R375 ATTIC.STAT.LOWBAT: LOW_BATTERY holds. -/
def ATTIC_STAT_LOWBAT : Fld :=
  ⟨21, 0x4, 9, 1, .ro, .live, 0, .any, .any⟩

/-- R375 ATTIC.STAT.OWNER_LOCK: Set and cleared only by SET_LOCK and CLEAR_LOCK, per R362. -/
def ATTIC_STAT_OWNER_LOCK : Fld :=
  ⟨21, 0x4, 10, 1, .ro, .c, 0, .any, .any⟩

/-- R375 ATTIC.STAT.FLASH_HOLD: Install held on a failed page, per R368. -/
def ATTIC_STAT_FLASH_HOLD : Fld :=
  ⟨21, 0x4, 11, 1, .ro, .c, 0, .any, .any⟩

/-- R375 ATTIC.REFUSE_REASON.REASON: Per R360; 0 NONE. -/
def ATTIC_REFUSE_REASON_REASON : Fld :=
  ⟨21, 0x8, 0, 3, .ro, .c, 0, .any, .any⟩

/-- R375 ATTIC.REFUSE_REASON.ALL: Bit v − 1 set while reason v holds. -/
def ATTIC_REFUSE_REASON_ALL : Fld :=
  ⟨21, 0x8, 8, 4, .ro, .live, 0, .any, .any⟩

/-- R375 ATTIC.EVT.REFUSED: A write step was refused. -/
def ATTIC_EVT_REFUSED : Fld :=
  ⟨21, 0xc, 0, 1, .w1c, .w, 0, .any, .any⟩

/-- R375 ATTIC.EVT.PAUSED: Set under R361. -/
def ATTIC_EVT_PAUSED : Fld :=
  ⟨21, 0xc, 1, 1, .w1c, .w, 0, .any, .any⟩

/-- R375 ATTIC.EVT.RESUMED: Set under R361. -/
def ATTIC_EVT_RESUMED : Fld :=
  ⟨21, 0xc, 2, 1, .w1c, .w, 0, .any, .any⟩

/-- R375 ATTIC.EVT.PAGE: A COPY page ended. -/
def ATTIC_EVT_PAGE : Fld :=
  ⟨21, 0xc, 3, 1, .w1c, .w, 0, .any, .any⟩

/-- R375 ATTIC.EVT.DONE: A command ended OK. -/
def ATTIC_EVT_DONE : Fld :=
  ⟨21, 0xc, 4, 1, .w1c, .w, 0, .any, .any⟩

/-- R375 ATTIC.EVT.ERR: A command ended otherwise. -/
def ATTIC_EVT_ERR : Fld :=
  ⟨21, 0xc, 5, 1, .w1c, .w, 0, .any, .any⟩

/-- R375 ATTIC.CMD.OP: 1 APPEND_J, 2 APPEND_S, 3 COPY, 4 PFW_WRITE, 5 PFW_SELECT, 6 SET_LOCK, 7 CLEAR_LOCK; application … -/
def ATTIC_CMD_OP : Fld :=
  ⟨21, 0x10, 0, 4, .wo, .w, 0, .any, .app⟩

/-- R375 ATTIC.CMD_STAT.BUSY: Command running or paused. -/
def ATTIC_CMD_STAT_BUSY : Fld :=
  ⟨21, 0x14, 0, 1, .ro, .live, 0, .any, .any⟩

/-- R375 ATTIC.CMD_STAT.RESULT: 0 NONE, 1 OK, 2 REFUSED, 3 BUSY, 4 FLASH_FAIL, 5 LOG_FULL, 6 BAD_ARG. -/
def ATTIC_CMD_STAT_RESULT : Fld :=
  ⟨21, 0x14, 4, 3, .ro, .w, 0, .any, .any⟩

/-- R375 ATTIC.REC_0: Record octets 0 to 3, per R364. -/
def ATTIC_REC_0 : Fld :=
  ⟨21, 0x20, 0, 32, .rw, .w, 0, .any, .any⟩

/-- R375 ATTIC.REC_1: Octets 4 to 7. -/
def ATTIC_REC_1 : Fld :=
  ⟨21, 0x24, 0, 32, .rw, .w, 0, .any, .any⟩

/-- R375 ATTIC.REC_2: Octets 8 to 11; the engine fills octets 12 to 15. -/
def ATTIC_REC_2 : Fld :=
  ⟨21, 0x28, 0, 32, .rw, .w, 0, .any, .any⟩

/-- R375 ATTIC.COPY_SRC: Source page address in bank 1. -/
def ATTIC_COPY_SRC : Fld :=
  ⟨21, 0x30, 0, 32, .rw, .w, 0, .any, .any⟩

/-- R375 ATTIC.COPY_DST: Destination page address in APP IMAGE. -/
def ATTIC_COPY_DST : Fld :=
  ⟨21, 0x34, 0, 32, .rw, .w, 0, .any, .any⟩

/-- R375 ATTIC.COPY_N: Pages, 1 to 479. -/
def ATTIC_COPY_N : Fld :=
  ⟨21, 0x38, 0, 9, .rw, .w, 0, .between 1 479, .any⟩

/-- R375 ATTIC.COPY_PROG.DONE: Pages ended. -/
def ATTIC_COPY_PROG_DONE : Fld :=
  ⟨21, 0x3c, 0, 9, .ro, .c, 0, .any, .any⟩

/-- R375 ATTIC.COPY_PROG.SKIPPED: Pages found equal. -/
def ATTIC_COPY_PROG_SKIPPED : Fld :=
  ⟨21, 0x3c, 16, 9, .ro, .c, 0, .any, .any⟩

/-- R375 ATTIC.J_WP.INDEX: Next journal record within its half. -/
def ATTIC_J_WP_INDEX : Fld :=
  ⟨21, 0x40, 0, 10, .ro, .c, 0, .any, .any⟩

/-- R375 ATTIC.J_WP.HALF: Half in use. -/
def ATTIC_J_WP_HALF : Fld :=
  ⟨21, 0x40, 16, 1, .ro, .c, 0, .any, .any⟩

/-- R375 ATTIC.S_WP.INDEX: Next STAGE LOG record. -/
def ATTIC_S_WP_INDEX : Fld :=
  ⟨21, 0x44, 0, 10, .ro, .c, 0, .any, .any⟩

/-- R375 ATTIC.PFW_SRC: Source address of PORCH_FW in bank 1. -/
def ATTIC_PFW_SRC : Fld :=
  ⟨21, 0x48, 0, 32, .rw, .w, 0, .any, .any⟩

/-- R375 ATTIC.PFW_LEN: Octets, 64 to 16 384. -/
def ATTIC_PFW_LEN : Fld :=
  ⟨21, 0x4c, 0, 15, .rw, .w, 0, .between 64 16384, .any⟩

/-- R375 ATTIC.PFW_STAT.ACTIVE: Slot the Porch runs. -/
def ATTIC_PFW_STAT_ACTIVE : Fld :=
  ⟨21, 0x50, 0, 1, .ro, .nv, 0, .any, .any⟩

/-- R375 ATTIC.PFW_STAT.SELECTED: Slot the selector names. -/
def ATTIC_PFW_STAT_SELECTED : Fld :=
  ⟨21, 0x50, 1, 1, .ro, .nv, 0, .any, .any⟩

/-- R375 ATTIC.PFW_STAT.FALLBACK: Set under R353. -/
def ATTIC_PFW_STAT_FALLBACK : Fld :=
  ⟨21, 0x50, 2, 1, .ro, .nv, 0, .any, .any⟩

/-- R375 ATTIC.SPEED.LAST: Last speed value, per R360. -/
def ATTIC_SPEED_LAST : Fld :=
  ⟨21, 0x54, 0, 16, .ro, .live, 0, .any, .any⟩

/-- R375 ATTIC.SPEED.AGE: Seconds since it arrived; saturates. -/
def ATTIC_SPEED_AGE : Fld :=
  ⟨21, 0x54, 16, 16, .ro, .live, 0, .any, .any⟩

/-- R375 ATTIC.LOWBAT_LAST: Last sample, mV or ADC code. -/
def ATTIC_LOWBAT_LAST : Fld :=
  ⟨21, 0x58, 0, 16, .ro, .live, 0, .any, .any⟩

/-- R375 ATTIC.REFUSE_CNT: Refusals; saturates at 0xFFFF. -/
def ATTIC_REFUSE_CNT : Fld :=
  ⟨21, 0x5c, 0, 16, .ro, .c, 0, .any, .any⟩

/-- R375 ATTIC.UPD_CFG.MOVING_SRC: FP.UPDATE.MOVING_SRC. -/
def ATTIC_UPD_CFG_MOVING_SRC : Fld :=
  ⟨21, 0x60, 0, 2, .rwf, .f, 2, .any, .any⟩

/-- R375 ATTIC.UPD_CFG.SPEED_CAN: FP.UPDATE.SPEED_CAN. -/
def ATTIC_UPD_CFG_SPEED_CAN : Fld :=
  ⟨21, 0x60, 2, 1, .rwf, .f, 0, .any, .any⟩

/-- R375 ATTIC.UPD_CFG.LOWBAT_SRC: FP.UPDATE.LOWBAT_SRC. -/
def ATTIC_UPD_CFG_LOWBAT_SRC : Fld :=
  ⟨21, 0x60, 3, 1, .rwf, .f, 0, .any, .any⟩

/-- R375 ATTIC.UPD_CFG.LOWBAT_CH: FP.UPDATE.LOWBAT_CH. -/
def ATTIC_UPD_CFG_LOWBAT_CH : Fld :=
  ⟨21, 0x60, 4, 4, .rwf, .f, 0, .any, .any⟩

/-- R375 ATTIC.UPD_CFG.SPEED_BYTE: FP.UPDATE.SPEED_BYTE. -/
def ATTIC_UPD_CFG_SPEED_BYTE : Fld :=
  ⟨21, 0x60, 8, 6, .rwf, .f, 0, .any, .any⟩

/-- R375 ATTIC.SPEED_ID: FP.UPDATE.SPEED_ID. -/
def ATTIC_SPEED_ID : Fld :=
  ⟨21, 0x64, 0, 32, .rwf, .f, 0, .any, .any⟩

/-- R375 ATTIC.LIMITS.SPEED_THRESH: FP.UPDATE.SPEED_THRESH. -/
def ATTIC_LIMITS_SPEED_THRESH : Fld :=
  ⟨21, 0x68, 0, 16, .rwf, .f, 1, .any, .any⟩

/-- R375 ATTIC.LIMITS.LOWBAT_LEVEL: FP.UPDATE.LOWBAT_LEVEL. -/
def ATTIC_LIMITS_LOWBAT_LEVEL : Fld :=
  ⟨21, 0x68, 16, 16, .rwf, .f, 3300, .any, .any⟩

/-- The fields of FLASHC, by offset. -/
def rowsFLASHC : List Row :=
  [
  ⟨0x0, 4, 1, fun _ => FLASHC_CTRL_IRQ_EN⟩,
  ⟨0x0, 4, 1, fun _ => FLASHC_CTRL_WEAR_EN⟩,
  ⟨0x0, 4, 1, fun _ => FLASHC_CTRL_ECC_EN⟩,
  ⟨0x0, 4, 1, fun _ => FLASHC_CTRL_LOCK⟩,
  ⟨0x4, 4, 1, fun _ => FLASHC_KEY⟩,
  ⟨0x8, 4, 1, fun _ => FLASHC_CMD_OP⟩,
  ⟨0xc, 4, 1, fun _ => FLASHC_ADDR⟩,
  ⟨0x10, 4, 1, fun _ => FLASHC_DATA_0⟩,
  ⟨0x14, 4, 1, fun _ => FLASHC_DATA_1⟩,
  ⟨0x18, 4, 1, fun _ => FLASHC_DATA_2⟩,
  ⟨0x1c, 4, 1, fun _ => FLASHC_DATA_3⟩,
  ⟨0x20, 4, 1, fun _ => FLASHC_STAT_BUSY0⟩,
  ⟨0x20, 4, 1, fun _ => FLASHC_STAT_BUSY1⟩,
  ⟨0x20, 4, 1, fun _ => FLASHC_STAT_OP⟩,
  ⟨0x20, 4, 1, fun _ => FLASHC_STAT_SUSPENDED⟩,
  ⟨0x20, 4, 1, fun _ => FLASHC_STAT_SUSP_BY⟩,
  ⟨0x20, 4, 1, fun _ => FLASHC_STAT_RESULT⟩,
  ⟨0x20, 4, 1, fun _ => FLASHC_STAT_KEY_OK⟩,
  ⟨0x24, 4, 1, fun _ => FLASHC_EVT_DONE⟩,
  ⟨0x24, 4, 1, fun _ => FLASHC_EVT_ERR⟩,
  ⟨0x24, 4, 1, fun _ => FLASHC_EVT_WEAR⟩,
  ⟨0x24, 4, 1, fun _ => FLASHC_EVT_UNCORR⟩,
  ⟨0x24, 4, 1, fun _ => FLASHC_EVT_FETCH_BUSY⟩,
  ⟨0x24, 4, 1, fun _ => FLASHC_EVT_SEQ_ERR⟩] ++ [
  ⟨0x28, 4, 1, fun _ => FLASHC_RDSTAT_ERRCNT⟩,
  ⟨0x28, 4, 1, fun _ => FLASHC_RDSTAT_STATUS_READ⟩,
  ⟨0x28, 4, 1, fun _ => FLASHC_RDSTAT_SUSP_HIT⟩,
  ⟨0x28, 4, 1, fun _ => FLASHC_RDSTAT_UNCORR⟩,
  ⟨0x2c, 4, 1, fun _ => FLASHC_ERR_THRESH⟩,
  ⟨0x30, 4, 1, fun _ => FLASHC_CORR_CNT_ONE⟩,
  ⟨0x30, 4, 1, fun _ => FLASHC_CORR_CNT_TWO⟩,
  ⟨0x34, 4, 1, fun _ => FLASHC_ECC_LOG_ADDR⟩,
  ⟨0x38, 4, 1, fun _ => FLASHC_ECC_LOG_ERRCNT⟩,
  ⟨0x38, 4, 1, fun _ => FLASHC_ECC_LOG_UNCORR⟩,
  ⟨0x38, 4, 1, fun _ => FLASHC_ECC_LOG_MASTER⟩,
  ⟨0x38, 4, 1, fun _ => FLASHC_ECC_LOG_VALID⟩,
  ⟨0x3c, 4, 1, fun _ => FLASHC_PGM_PULSES_LAST⟩,
  ⟨0x3c, 4, 1, fun _ => FLASHC_PGM_PULSES_MAX⟩,
  ⟨0x3c, 4, 1, fun _ => FLASHC_PGM_PULSES_CLEAR⟩,
  ⟨0x40, 4, 1, fun _ => FLASHC_ERS_PULSES_LAST⟩,
  ⟨0x40, 4, 1, fun _ => FLASHC_ERS_PULSES_MAX⟩,
  ⟨0x40, 4, 1, fun _ => FLASHC_ERS_PULSES_CLEAR⟩,
  ⟨0x44, 4, 1, fun _ => FLASHC_WRP_0⟩,
  ⟨0x48, 4, 1, fun _ => FLASHC_WRP_1⟩,
  ⟨0x4c, 4, 1, fun _ => FLASHC_RDP_LEVEL⟩,
  ⟨0x4c, 4, 1, fun _ => FLASHC_RDP_LOWERING⟩]

/-- The fields of ATTIC, by offset. -/
def rowsATTIC : List Row :=
  [
  ⟨0x0, 4, 1, fun _ => ATTIC_CTRL_IRQ_EN⟩,
  ⟨0x0, 4, 1, fun _ => ATTIC_CTRL_LOCK⟩,
  ⟨0x4, 4, 1, fun _ => ATTIC_STAT_PHASE⟩,
  ⟨0x4, 4, 1, fun _ => ATTIC_STAT_COMP⟩,
  ⟨0x4, 4, 1, fun _ => ATTIC_STAT_MOVING⟩,
  ⟨0x4, 4, 1, fun _ => ATTIC_STAT_LOWBAT⟩,
  ⟨0x4, 4, 1, fun _ => ATTIC_STAT_OWNER_LOCK⟩,
  ⟨0x4, 4, 1, fun _ => ATTIC_STAT_FLASH_HOLD⟩,
  ⟨0x8, 4, 1, fun _ => ATTIC_REFUSE_REASON_REASON⟩,
  ⟨0x8, 4, 1, fun _ => ATTIC_REFUSE_REASON_ALL⟩,
  ⟨0xc, 4, 1, fun _ => ATTIC_EVT_REFUSED⟩,
  ⟨0xc, 4, 1, fun _ => ATTIC_EVT_PAUSED⟩,
  ⟨0xc, 4, 1, fun _ => ATTIC_EVT_RESUMED⟩,
  ⟨0xc, 4, 1, fun _ => ATTIC_EVT_PAGE⟩,
  ⟨0xc, 4, 1, fun _ => ATTIC_EVT_DONE⟩,
  ⟨0xc, 4, 1, fun _ => ATTIC_EVT_ERR⟩,
  ⟨0x10, 4, 1, fun _ => ATTIC_CMD_OP⟩,
  ⟨0x14, 4, 1, fun _ => ATTIC_CMD_STAT_BUSY⟩,
  ⟨0x14, 4, 1, fun _ => ATTIC_CMD_STAT_RESULT⟩,
  ⟨0x20, 4, 1, fun _ => ATTIC_REC_0⟩,
  ⟨0x24, 4, 1, fun _ => ATTIC_REC_1⟩,
  ⟨0x28, 4, 1, fun _ => ATTIC_REC_2⟩,
  ⟨0x30, 4, 1, fun _ => ATTIC_COPY_SRC⟩,
  ⟨0x34, 4, 1, fun _ => ATTIC_COPY_DST⟩] ++ [
  ⟨0x38, 4, 1, fun _ => ATTIC_COPY_N⟩,
  ⟨0x3c, 4, 1, fun _ => ATTIC_COPY_PROG_DONE⟩,
  ⟨0x3c, 4, 1, fun _ => ATTIC_COPY_PROG_SKIPPED⟩,
  ⟨0x40, 4, 1, fun _ => ATTIC_J_WP_INDEX⟩,
  ⟨0x40, 4, 1, fun _ => ATTIC_J_WP_HALF⟩,
  ⟨0x44, 4, 1, fun _ => ATTIC_S_WP_INDEX⟩,
  ⟨0x48, 4, 1, fun _ => ATTIC_PFW_SRC⟩,
  ⟨0x4c, 4, 1, fun _ => ATTIC_PFW_LEN⟩,
  ⟨0x50, 4, 1, fun _ => ATTIC_PFW_STAT_ACTIVE⟩,
  ⟨0x50, 4, 1, fun _ => ATTIC_PFW_STAT_SELECTED⟩,
  ⟨0x50, 4, 1, fun _ => ATTIC_PFW_STAT_FALLBACK⟩,
  ⟨0x54, 4, 1, fun _ => ATTIC_SPEED_LAST⟩,
  ⟨0x54, 4, 1, fun _ => ATTIC_SPEED_AGE⟩,
  ⟨0x58, 4, 1, fun _ => ATTIC_LOWBAT_LAST⟩,
  ⟨0x5c, 4, 1, fun _ => ATTIC_REFUSE_CNT⟩,
  ⟨0x60, 4, 1, fun _ => ATTIC_UPD_CFG_MOVING_SRC⟩,
  ⟨0x60, 4, 1, fun _ => ATTIC_UPD_CFG_SPEED_CAN⟩,
  ⟨0x60, 4, 1, fun _ => ATTIC_UPD_CFG_LOWBAT_SRC⟩,
  ⟨0x60, 4, 1, fun _ => ATTIC_UPD_CFG_LOWBAT_CH⟩,
  ⟨0x60, 4, 1, fun _ => ATTIC_UPD_CFG_SPEED_BYTE⟩,
  ⟨0x64, 4, 1, fun _ => ATTIC_SPEED_ID⟩,
  ⟨0x68, 4, 1, fun _ => ATTIC_LIMITS_SPEED_THRESH⟩,
  ⟨0x68, 4, 1, fun _ => ATTIC_LIMITS_LOWBAT_LEVEL⟩]

end Sys2Proof.Machine.R
end

