-- ==== Sys2Proof/Machine/Access.lean ====
section
/-!
DEFINITION. Machine/Access.lean: who reaches what (R42), which crossings the Hallway refuses (R30, R60),
and how a bus command's register access is answered.
-/
namespace Sys2Proof.Machine

open Sys2Proof

namespace L

/-- R386: step 3 of an entry has stopped the clocks of APP, FLASH and PERIPH. -/
def ENT_CLK : Fld := latch 41 31 1 .c 0
/-- R17, R19, R477: why the PLL-fed islands stand still: 1 the PLL relocks on the HFRC, 2 it relocks after an unlock,
3 the return to the HFXO runs. -/
def PLL_WAIT : Fld := latch 41 108 2 .c 0

end L

/-- R40, R510: the power domain and the clock island of a block's registers. Number 41 and up are the
model's own groups of latches: 41 the Cellar, 42 the OTP, 43 the Porch tag, 44 the interrupt
controller. -/
def blkDom (b : Nat) : Nat :=
  [12, 12, 12, 12, 5, 8, 8, 9, 9, 6, 6, 6, 6, 7, 7, 7, 6, 12, 10, 2, 11, 11, 0, 1, 1].getD b
    (if b < 41 then 12 else if b = 44 then 5 else 1)

def blkIsl (b : Nat) : Nat :=
  [10, 10, 10, 10, 2, 5, 5, 6, 6, 3, 3, 3, 3, 4, 4, 4, 3, 10, 7, 8, 9, 9, 1, 0, 0].getD b
    (if b < 41 then 10 else if b = 44 then 2 else 0)

/-- R59: FP.DOMAINS.PRESENT as applied. -/
def presentLatch : Fld := latch 41 1 8 .f 0xFF

/-- R59, R60: the bit of FP.DOMAINS.PRESENT a block stands under, if any. -/
def presentBit (b : Nat) : Option Nat :=
  if b = 5 ∨ b = 6 then some 0 else if b = 7 ∨ b = 8 then some 1 else if b = 18 then some 2
  else if b = 19 then some 3 else if b = 34 then some 4 else if b = 35 then some 5
  else if b = 36 then some 6 else if b = 38 then some 7 else none

def State.present (s : State) (b : Nat) : Bool :=
  match presentBit b with
  | some i => bit (s.rd presentLatch) i
  | none => true

/-- Whether a domain is powered and released (R381), and whether an island's clock runs (R14). -/
def State.domOn (s : State) (d : Nat) : Bool := bit (s.rd R.SYSCTL_DOM_STAT) d
def State.islOn (s : State) (i : Nat) : Bool := bit (s.rd R.HALL_CLK_STAT_RUN) i

def State.setDom (s : State) (d : Nat) (on : Bool) : State :=
  s.wr R.SYSCTL_DOM_STAT (putBit (s.rd R.SYSCTL_DOM_STAT) d on)
def State.setIsl (s : State) (i : Nat) (on : Bool) : State :=
  s.wr R.HALL_CLK_STAT_RUN (putBit (s.rd R.HALL_CLK_STAT_RUN) i on)

/-- R30, R60: a crossing towards a block is taken only while its domain is powered and released, its
island's clock runs and the Floor Plan includes it. -/
def State.online (s : State) (b : Nat) : Bool :=
  s.domOn (blkDom b) && s.islOn (blkIsl b) && s.present b

/-- R29: the island a master issues its crossings from. -/
def masterIsl : Master → Nat
  | .app | .dma | .debug => 2
  | .link => 3
  | .host => 10
  | .cipher _ => 4
  | .nfc => 7

/-- R42: whether a master may access a peripheral block. -/
def reach (m : Master) (b : Nat) : Bool :=
  match m with
  | .app | .dma | .debug => true
  | .link => [5, 6, 7, 8, 9, 10, 11, 12, 13, 14, 16].contains b
  | .host | .cipher _ | .nfc => false

/-- R510: the island and the domain of a region. -/
def regionIsl : Region → Nat
  | .flash => 9
  | .pbm | .linkMem | .ctxWin => 3
  | .block b _ => blkIsl b
  | _ => 2
def regionDom : Region → Nat
  | .flash => 11
  | .sram => 4
  | .pbm | .linkMem => 6
  | .ctxWin => 3
  | .block b _ => blkDom b
  | _ => 5

/-- R28: a crossing towards an island whose clock R17 or R19 has stopped waits; R30 refuses it where the clock was stopped for a
power state entry. -/
def State.clockWait (s : State) (dom isl : Nat) : Bool :=
  s.domOn dom && !s.islOn isl && !(s.on L.ENT_CLK && [2, 9, 10].contains isl) &&
    ((s.on L.PLL_WAIT && [2, 3, 4, 5, 9, 10].contains isl) ||
      ((s.on L.PLL_WAIT || s.on R.HALL_CLK_STAT_PLL_SRC) && [5, 6, 7].contains isl))

/-- R31: a stalled write holds its crossing, from its master's island to its destination's, until the destination finishes it. -/
def State.crossHeld (s : State) (m : Master) (isl : Nat) : Bool :=
  s.late.any fun w => masterIsl w.m == masterIsl m && regionIsl (regionOf w.addr) == isl

/-- R32: what the core's protection regions let a master do. -/
def State.allowed (s : State) (m : Master) (a : Nat) (u : Use) : Bool := m != .app || s.pmpOk a u

/-- R31, R44: a stall (reason 1) or a refusal (reason 2) is counted, and logged when the log is empty. -/
def State.logStall (s : State) (m : Master) (addr dstIsl reason : Nat) (write : Bool) : State :=
  let s1 := s.sat R.HALL_STALL_CNT 1
  if s.on R.HALL_STALL_LOG_VALID then s1
  else s1.wrs [(R.HALL_STALL_LOG_SRC, masterIsl m), (R.HALL_STALL_LOG_DST, dstIsl),
    (R.HALL_STALL_LOG_REASON, reason), (R.HALL_STALL_LOG_WRITE, b2n write),
    (R.HALL_STALL_LOG_LATE_DONE, 0), (R.HALL_STALL_LOG_VALID, 1), (R.HALL_STALL_ADDR, addr)]

/-- The answer a master gets. -/
def State.ok (s : State) : State := { s with resp := .ok }
def State.err (s : State) : State := { s with resp := .error }
def State.answer (s : State) (v : Nat) : State := { s with resp := .data v }
def State.waits (s : State) : State := { s with resp := .waiting }

/-- R511: a misaligned access of a master performs nothing: an exception of a core, an alignment error of the debug module, an
error of the others. -/
def State.misalign (s : State) (m : Master) (write : Bool) : State :=
  match m with
  | .app | .link => { s with resp := .misaligned write }
  | .debug => { s with resp := .sbAlign }
  | _ => s.err

/-- R477, R479: an armed injection of detector 0x08 acts on a transfer of a master into an island. -/
def State.stallHit (s : State) (m : Master) (isl : Nat) : Bool :=
  s.injHits 0x08 && s.rd L.INJ_A % 16 == isl && masterIsl m != isl

/-- R31, R477: a stall detector fires for a transfer: the master's error response, the log, detector 0x08; `dom` is the
destination's domain. -/
def State.stall (s : State) (m : Master) (addr isl dom : Nat) (write inj : Bool) : State :=
  ((s.logStall m addr isl 1 write).fire 0x08 addr inj (some dom)).err

/-- R31, R477: a transfer whose acknowledge an injection withheld; what it did at its destination stands, and is noted
in the log when the log holds this write. -/
def State.stallInj (s : State) (m : Master) (addr isl dom : Nat) (write : Bool) : State :=
  let s1 := s.injActed.stall m addr isl dom write true
  if write && !s.on R.HALL_STALL_LOG_VALID then s1.wr R.HALL_STALL_LOG_LATE_DONE 1 else s1

/-- R28, R30, R31, R60, R477: a transfer of a master to an address of a region, in the order its refusals take: the Floor Plan
leaves its block out or its domain or clock is off, its clock waits, its crossing is held, an injected stall withholds its
acknowledge; `eff` otherwise. -/
def State.cross (s : State) (m : Master) (a dom isl : Nat) (present write : Bool) (eff : State → State) : State :=
  if present && s.clockWait dom isl then s.waits
  else if !(s.domOn dom && s.islOn isl && present) then (s.logStall m a isl 2 write).err
  else if s.crossHeld m isl then s.waits
  else if s.stallHit m isl then (eff s).stallInj m a isl dom write
  else eff s

/-- R29, R30, R477: what a unit's own crossing towards an address meets: none when it is taken, else the state after its refusal or
its injected stall. -/
def State.unitOff (s : State) (m : Master) (a : Nat) (write : Bool) : Option State :=
  let dom := regionDom (regionOf a)
  let isl := regionIsl (regionOf a)
  if !(s.domOn dom && s.islOn isl) then some (s.logStall m a isl 2 write)
  else if s.stallHit m isl then some { s.stallInj m a isl dom write with resp := s.resp }
  else none

/-- R42, R346: whether a master reaches a block at the present protection level: debug reaches nothing at
level 2, and neither CIPHER nor KEYS at level 1. -/
def State.reaches (s : State) (m : Master) (b : Nat) : Bool :=
  reach m b && !(m == .debug && (s.rd R.FLASHC_RDP_LEVEL == 2 || (s.rd R.FLASHC_RDP_LEVEL == 1 && (b == 13 || b == 14))))

/-- An access of a master to a register at (block, offset): refused with an error response where the core's protection regions
(R32) or the map of R42 do not allow it. -/
def State.access (s : State) (m : Master) (b off : Nat) (write : Bool) (eff : State → State) : State :=
  if !s.allowed m (blockAddr b off) (if write then .store else .load) || !s.reaches m b then s.err
  else s.cross m (blockAddr b off) (blkDom b) (blkIsl b) (s.present b) write eff

/-- A bus write of a master to the register that holds a field, with its effect. -/
def State.write (s : State) (m : Master) (f : Fld) (eff : State → State) : State :=
  s.access m f.blk f.off true fun s => (eff s).ok

/-- A bus read of a master at the register that holds a field: the value and the effect on the state. -/
def State.read (s : State) (m : Master) (f : Fld) (eff : State → Nat × State) : State :=
  s.access m f.blk f.off false fun s => let r := eff s; r.2.answer r.1

/-- Whether a master may write a field marked for the link cores or the application core. -/
def mayWrite (m : Master) (w : Writer) : Bool :=
  match w with
  | .any => true
  | .link => m == .link
  | .app => m == .app

end Sys2Proof.Machine
end

