-- ==== Sys2Proof/Machine/RegsRadio.lean ====
section
/-!
DEFINITION. Machine/RegsRadio.lean: the registers of the radio front ends, FEMCTL and the modems (R102, R104, R140), one field a definition, written from the
spec's register tables: place, width, access code, Keep class, Reset value, stated range, writer.
-/
namespace Sys2Proof.Machine.R

open Sys2Proof

/-- R102 FE.CTRL.DIRECT: Direct mode, under R80. -/
def FE_CTRL_DIRECT (r : Radio) : Fld :=
  ⟨(5 + 2 * r.idx), 0x0, 0, 1, .rwl, .w, 0, .any, .any⟩

/-- R102 FE.CTRL.CAL_AUTO: Automatic calibration, under R71. -/
def FE_CTRL_CAL_AUTO (r : Radio) : Fld :=
  ⟨(5 + 2 * r.idx), 0x0, 1, 1, .rwl, .w, 1, .any, .any⟩

/-- R102 FE.CTRL.LOCK: LOCK bit of the block, per R8. -/
def FE_CTRL_LOCK (r : Radio) : Fld :=
  ⟨(5 + 2 * r.idx), 0x0, 31, 1, .w1s, .w, 0, .any, .any⟩

/-- R102 FE.CMD.OP: Command in direct mode, per the table under R80. -/
def FE_CMD_OP (r : Radio) : Fld :=
  ⟨(5 + 2 * r.idx), 0x4, 0, 3, .wo, .w, 0, .any, .any⟩

/-- R102 FE.STAT.STATE: Radio state, per R73. -/
def FE_STAT_STATE (r : Radio) : Fld :=
  ⟨(5 + 2 * r.idx), 0x8, 0, 4, .ro, .live, 0, .any, .any⟩

/-- R102 FE.STAT.PENDING: A command is pending, under R78. -/
def FE_STAT_PENDING (r : Radio) : Fld :=
  ⟨(5 + 2 * r.idx), 0x8, 4, 1, .ro, .live, 0, .any, .any⟩

/-- R102 FE.STAT.SYN_LOCK: Synthesiser locked. -/
def FE_STAT_SYN_LOCK (r : Radio) : Fld :=
  ⟨(5 + 2 * r.idx), 0x8, 5, 1, .ro, .live, 0, .any, .any⟩

/-- R102 FE.STAT.TX_INHIBIT: TX refused during a supply dip, under R86. -/
def FE_STAT_TX_INHIBIT (r : Radio) : Fld :=
  ⟨(5 + 2 * r.idx), 0x8, 6, 1, .ro, .live, 0, .any, .any⟩

/-- R102 FE.STAT.LAST_RESULT: Per R82. -/
def FE_STAT_LAST_RESULT (r : Radio) : Fld :=
  ⟨(5 + 2 * r.idx), 0x8, 8, 4, .ro, .w, 0, .any, .any⟩

/-- R102 FE.STAT.LATE: Set under R77. -/
def FE_STAT_LATE (r : Radio) : Fld :=
  ⟨(5 + 2 * r.idx), 0x8, 16, 1, .w1c, .w, 0, .any, .any⟩

/-- R102 FE.STAT.CMD_DROPPED: Set under R78. -/
def FE_STAT_CMD_DROPPED (r : Radio) : Fld :=
  ⟨(5 + 2 * r.idx), 0x8, 17, 1, .w1c, .w, 0, .any, .any⟩

/-- R102 FE.STAT.TRUNC: A transmission was truncated. -/
def FE_STAT_TRUNC (r : Radio) : Fld :=
  ⟨(5 + 2 * r.idx), 0x8, 18, 1, .w1c, .w, 0, .any, .any⟩

/-- R102 FE.CHAN.FREQ_KHZ: kHz above 2 400 000 kHz, 0 to 83 500. -/
def FE_CHAN_FREQ_KHZ (r : Radio) : Fld :=
  match r with
  | .cirrus => ⟨5, 0xc, 0, 17, .rw, .w, 40000, .between 0 83500, .any⟩
  | .stratus => ⟨7, 0xc, 0, 20, .rw, .w, 868300, .between 863000 928000, .any⟩

/-- R102 FE.CHAN.IF_SEL: 0: 1 MHz IF; 1: 2 MHz IF. -/
def FE_CHAN_IF_SEL (r : Radio) : Fld :=
  ⟨(5 + 2 * r.idx), 0xc, 20, 1, .rw, .w, 0, .any, .any⟩

/-- R102 FE.CHAN.INJ: Injection side, per R67. -/
def FE_CHAN_INJ (r : Radio) : Fld :=
  ⟨(5 + 2 * r.idx), 0xc, 21, 1, .rw, .w, 0, .any, .any⟩

/-- R102 FE.FREQ_OFS.OFS: Signed offset in 30.518 Hz steps. -/
def FE_FREQ_OFS_OFS (r : Radio) : Fld :=
  ⟨(5 + 2 * r.idx), 0x10, 0, 16, .rw, .w, 0, .any, .any⟩

/-- R102 FE.PA.DBM: Requested power, signed dBm; at the antenna for Stratus under R84. -/
def FE_PA_DBM (r : Radio) : Fld :=
  ⟨(5 + 2 * r.idx), 0x14, 0, 8, .rw, .w, 0, .any, .any⟩

/-- R102 FE.PA.APPLIED: Internal PA setting of the last transmission, signed dBm. -/
def FE_PA_APPLIED (r : Radio) : Fld :=
  ⟨(5 + 2 * r.idx), 0x14, 8, 8, .ro, .w, 0, .any, .any⟩

/-- R102 FE.AUTO.RX_END: Per R79. -/
def FE_AUTO_RX_END (r : Radio) : Fld :=
  ⟨(5 + 2 * r.idx), 0x18, 0, 2, .rw, .w, 0, .oneOf [0, 1, 2], .any⟩

/-- R102 FE.AUTO.TX_END: Per R79. -/
def FE_AUTO_TX_END (r : Radio) : Fld :=
  ⟨(5 + 2 * r.idx), 0x18, 4, 2, .rw, .w, 0, .oneOf [0, 1], .any⟩

/-- R102 FE.IQ_A.GAIN: Signed gain coefficient, per R69; for the 1 MHz IF on Cirrus and the only IF on Stratus. -/
def FE_IQ_A_GAIN (r : Radio) : Fld :=
  ⟨(5 + 2 * r.idx), 0x20, 0, 12, .rw, .w, 0, .any, .any⟩

/-- R102 FE.IQ_A.PHASE: Signed phase coefficient, per R69. -/
def FE_IQ_A_PHASE (r : Radio) : Fld :=
  ⟨(5 + 2 * r.idx), 0x20, 16, 12, .rw, .w, 0, .any, .any⟩

/-- R102 FE.IQ_A.SRC: Origin of the pair, per the table below. -/
def FE_IQ_A_SRC (r : Radio) : Fld :=
  ⟨(5 + 2 * r.idx), 0x20, 30, 2, .rw, .w, 0, .any, .any⟩

/-- R102 FE.IQ_B.GAIN: As IQ_A, for the 2 MHz IF. -/
def FE_IQ_B_GAIN (r : Radio) : Fld :=
  ⟨(5 + 2 * r.idx), 0x24, 0, 12, .rw, .w, 0, .any, .any⟩

/-- R102 FE.IQ_B.PHASE: As IQ_A. -/
def FE_IQ_B_PHASE (r : Radio) : Fld :=
  ⟨(5 + 2 * r.idx), 0x24, 16, 12, .rw, .w, 0, .any, .any⟩

/-- R102 FE.IQ_B.SRC: As IQ_A. -/
def FE_IQ_B_SRC (r : Radio) : Fld :=
  ⟨(5 + 2 * r.idx), 0x24, 30, 2, .rw, .w, 0, .any, .any⟩

/-- R102 FE.CAL_STAT.RESULT: Per the table under R71. -/
def FE_CAL_STAT_RESULT (r : Radio) : Fld :=
  ⟨(5 + 2 * r.idx), 0x28, 0, 2, .ro, .w, 0, .any, .any⟩

/-- R102 FE.CAL_STAT.IRR_A: Image rejection of the kept IQ_A pair, dB. -/
def FE_CAL_STAT_IRR_A (r : Radio) : Fld :=
  ⟨(5 + 2 * r.idx), 0x28, 8, 8, .ro, .w, 0, .any, .any⟩

/-- R102 FE.CAL_STAT.IRR_B: Image rejection of the kept IQ_B pair, dB. -/
def FE_CAL_STAT_IRR_B (r : Radio) : Fld :=
  ⟨(5 + 2 * r.idx), 0x28, 16, 8, .ro, .w, 0, .any, .any⟩

/-- R104 FEMCTL.CTRL.COEX_IRQ_EN: 1 routes EV_COEX, raised by any EVT bit, to the event matrix. -/
def FEMCTL_CTRL_COEX_IRQ_EN : Fld :=
  ⟨9, 0x0, 0, 1, .rwl, .w, 0, .any, .any⟩

/-- R104 FEMCTL.CTRL.LOCK: LOCK bit of FEMCTL, per R8. -/
def FEMCTL_CTRL_LOCK : Fld :=
  ⟨9, 0x0, 31, 1, .w1s, .w, 0, .any, .any⟩

/-- R104 FEMCTL.CFG.CIR_FEM: FP.RADIO.CIR_FEM. -/
def FEMCTL_CFG_CIR_FEM : Fld :=
  ⟨9, 0x4, 0, 1, .rwf, .f, 0, .any, .any⟩

/-- R104 FEMCTL.CFG.STR_FEM: FP.RADIO.STR_FEM. -/
def FEMCTL_CFG_STR_FEM : Fld :=
  ⟨9, 0x4, 1, 1, .rwf, .f, 0, .any, .any⟩

/-- R104 FEMCTL.CFG.COEX_EN: FP.RADIO.COEX_EN. -/
def FEMCTL_CFG_COEX_EN : Fld :=
  ⟨9, 0x4, 2, 1, .rwf, .f, 0, .any, .any⟩

/-- R104 FEMCTL.CFG.C_BYP_RX: CFEM_BYP level in receive, per R89. -/
def FEMCTL_CFG_C_BYP_RX : Fld :=
  ⟨9, 0x4, 8, 1, .rwl, .w, 0, .any, .any⟩

/-- R104 FEMCTL.CFG.S_PAEN_HOLD: Holds SFEM_PAEN through RX before a turnaround, per R89. -/
def FEMCTL_CFG_S_PAEN_HOLD : Fld :=
  ⟨9, 0x4, 9, 1, .rwl, .w, 0, .any, .any⟩

/-- R104 FEMCTL.LIMITS.CIR_PA_MAX: FP.RADIO.CIR_PA_MAX, signed dBm. -/
def FEMCTL_LIMITS_CIR_PA_MAX : Fld :=
  ⟨9, 0x8, 0, 8, .rwf, .f, 0, .any, .any⟩

/-- R104 FEMCTL.LIMITS.STR_PA_MAX: FP.RADIO.STR_PA_MAX, signed dBm. -/
def FEMCTL_LIMITS_STR_PA_MAX : Fld :=
  ⟨9, 0x8, 8, 8, .rwf, .f, 0, .any, .any⟩

/-- R104 FEMCTL.LIMITS.STR_ANT_MAX: FP.RADIO.STR_ANT_MAX, signed dBm. -/
def FEMCTL_LIMITS_STR_ANT_MAX : Fld :=
  ⟨9, 0x8, 16, 8, .rwf, .f, 0, .any, .any⟩

/-- R104 FEMCTL.C_TIMING.TXEN_LEAD: µs before the start time, 1 to 15. -/
def FEMCTL_C_TIMING_TXEN_LEAD : Fld :=
  ⟨9, 0xc, 0, 4, .rwl, .w, 5, .between 1 15, .any⟩

/-- R104 FEMCTL.C_TIMING.TXEN_LAG: µs after the ramp-down, 0 to 15. -/
def FEMCTL_C_TIMING_TXEN_LAG : Fld :=
  ⟨9, 0xc, 4, 4, .rwl, .w, 1, .any, .any⟩

/-- R104 FEMCTL.C_TIMING.RXEN_LEAD: µs before the start time, 1 to 15. -/
def FEMCTL_C_TIMING_RXEN_LEAD : Fld :=
  ⟨9, 0xc, 8, 4, .rwl, .w, 2, .between 1 15, .any⟩

/-- R104 FEMCTL.S_TIMING.PAEN_LEAD: µs before the start time, 2 to 38. -/
def FEMCTL_S_TIMING_PAEN_LEAD : Fld :=
  ⟨9, 0x10, 0, 6, .rwl, .w, 20, .between 2 38, .any⟩

/-- R104 FEMCTL.S_TIMING.TXEN_LEAD: µs before the start time, 1 to 15. -/
def FEMCTL_S_TIMING_TXEN_LEAD : Fld :=
  ⟨9, 0x10, 8, 4, .rwl, .w, 4, .between 1 15, .any⟩

/-- R104 FEMCTL.S_TIMING.TXEN_LAG: µs after the ramp-down, 0 to 15. -/
def FEMCTL_S_TIMING_TXEN_LAG : Fld :=
  ⟨9, 0x10, 12, 4, .rwl, .w, 2, .any, .any⟩

/-- R104 FEMCTL.S_TIMING.RXEN_LEAD: µs before the start time, 1 to 15. -/
def FEMCTL_S_TIMING_RXEN_LEAD : Fld :=
  ⟨9, 0x10, 16, 4, .rwl, .w, 2, .between 1 15, .any⟩

/-- R104 FEMCTL.GAINS.S_PA_DB: Stratus amplifier gain, 0 to 20 dB, per R84. -/
def FEMCTL_GAINS_S_PA_DB : Fld :=
  ⟨9, 0x14, 0, 5, .rwl, .w, 0, .between 0 20, .any⟩

/-- R104 FEMCTL.GAINS.S_LNA_DB: Stratus module receive gain, 0 to 20 dB, per R92. -/
def FEMCTL_GAINS_S_LNA_DB : Fld :=
  ⟨9, 0x14, 8, 5, .rwl, .w, 0, .between 0 20, .any⟩

/-- R104 FEMCTL.GAINS.C_LNA_DB: Cirrus module receive gain, 0 to 20 dB, per R92. -/
def FEMCTL_GAINS_C_LNA_DB : Fld :=
  ⟨9, 0x14, 16, 5, .rwl, .w, 0, .between 0 20, .any⟩

/-- R104 FEMCTL.S_BAND.SPLIT_KHZ: SFEM_BAND threshold, 863 000 to 928 000 kHz. -/
def FEMCTL_S_BAND_SPLIT_KHZ : Fld :=
  ⟨9, 0x18, 0, 20, .rwl, .w, 900000, .between 863000 928000, .any⟩

/-- R104 FEMCTL.COEX_CFG.CIR_EN: Cirrus takes part in coexistence. -/
def FEMCTL_COEX_CFG_CIR_EN : Fld :=
  ⟨9, 0x20, 0, 1, .rwl, .w, 1, .any, .any⟩

/-- R104 FEMCTL.COEX_CFG.STR_EN: Stratus takes part in coexistence. -/
def FEMCTL_COEX_CFG_STR_EN : Fld :=
  ⟨9, 0x20, 1, 1, .rwl, .w, 0, .any, .any⟩

/-- R104 FEMCTL.COEX_CFG.MODE: 0 LEVEL, 1 PRI_DIR, per R94. -/
def FEMCTL_COEX_CFG_MODE : Fld :=
  ⟨9, 0x20, 2, 1, .rwl, .w, 0, .any, .any⟩

/-- R104 FEMCTL.COEX_CFG.RX_NEEDS_GNT: Per R96. -/
def FEMCTL_COEX_CFG_RX_NEEDS_GNT : Fld :=
  ⟨9, 0x20, 3, 1, .rwl, .w, 0, .any, .any⟩

/-- R104 FEMCTL.COEX_CFG.ABORT_ON_LOSS: Per R97. -/
def FEMCTL_COEX_CFG_ABORT_ON_LOSS : Fld :=
  ⟨9, 0x20, 4, 1, .rwl, .w, 1, .any, .any⟩

/-- R104 FEMCTL.COEX_CFG.REQ_POL: Per R98. -/
def FEMCTL_COEX_CFG_REQ_POL : Fld :=
  ⟨9, 0x20, 5, 1, .rwl, .w, 0, .any, .any⟩

/-- R104 FEMCTL.COEX_CFG.PRI_POL: Per R98. -/
def FEMCTL_COEX_CFG_PRI_POL : Fld :=
  ⟨9, 0x20, 6, 1, .rwl, .w, 0, .any, .any⟩

/-- R104 FEMCTL.COEX_CFG.GNT_POL: Per R98. -/
def FEMCTL_COEX_CFG_GNT_POL : Fld :=
  ⟨9, 0x20, 7, 1, .rwl, .w, 0, .any, .any⟩

/-- R104 FEMCTL.COEX_CFG.REQ_LEAD: µs before the start time, 0 to 250. -/
def FEMCTL_COEX_CFG_REQ_LEAD : Fld :=
  ⟨9, 0x20, 8, 8, .rwl, .w, 30, .between 0 250, .any⟩

/-- R104 FEMCTL.COEX_CFG.SAMPLE: µs before the start time, 5 to 15. -/
def FEMCTL_COEX_CFG_SAMPLE : Fld :=
  ⟨9, 0x20, 16, 4, .rwl, .w, 5, .between 5 15, .any⟩

/-- R104 FEMCTL.COEX_CFG.HOLD: µs before release, 0 to 15. -/
def FEMCTL_COEX_CFG_HOLD : Fld :=
  ⟨9, 0x20, 20, 4, .rwl, .w, 2, .any, .any⟩

/-- R104 FEMCTL.COEX_PRI_MAP: High-priority event classes, per R94. -/
def FEMCTL_COEX_PRI_MAP : Fld :=
  ⟨9, 0x24, 0, 6, .rwl, .w, 5, .any, .any⟩

/-- R104 FEMCTL.COEX_STAT.REQ: COEX_REQ active. -/
def FEMCTL_COEX_STAT_REQ : Fld :=
  ⟨9, 0x28, 0, 1, .ro, .live, 0, .any, .any⟩

/-- R104 FEMCTL.COEX_STAT.PRI: COEX_PRI active. -/
def FEMCTL_COEX_STAT_PRI : Fld :=
  ⟨9, 0x28, 1, 1, .ro, .live, 0, .any, .any⟩

/-- R104 FEMCTL.COEX_STAT.GNT: COEX_GNT active, after the synchroniser. -/
def FEMCTL_COEX_STAT_GNT : Fld :=
  ⟨9, 0x28, 2, 1, .ro, .live, 0, .any, .any⟩

/-- R104 FEMCTL.EVT.GNT_DENIED: Set under R96. -/
def FEMCTL_EVT_GNT_DENIED : Fld :=
  ⟨9, 0x2c, 0, 1, .w1c, .w, 0, .any, .any⟩

/-- R104 FEMCTL.EVT.GNT_LOST: Set under R97. -/
def FEMCTL_EVT_GNT_LOST : Fld :=
  ⟨9, 0x2c, 1, 1, .w1c, .w, 0, .any, .any⟩

/-- R104 FEMCTL.EVT.LEAD_SHORT: Set under R91. -/
def FEMCTL_EVT_LEAD_SHORT : Fld :=
  ⟨9, 0x2c, 2, 1, .w1c, .w, 0, .any, .any⟩

/-- R104 FEMCTL.CNT_DENIED.TX: Transmissions denied; saturates at 0xFFFF. -/
def FEMCTL_CNT_DENIED_TX : Fld :=
  ⟨9, 0x30, 0, 16, .ro, .w, 0, .any, .any⟩

/-- R104 FEMCTL.CNT_DENIED.RX: Receptions denied; saturates at 0xFFFF. -/
def FEMCTL_CNT_DENIED_RX : Fld :=
  ⟨9, 0x30, 16, 16, .ro, .w, 0, .any, .any⟩

/-- R104 FEMCTL.CNT_LOST.GNT: Grants withdrawn during transmission; saturates at 0xFFFF. -/
def FEMCTL_CNT_LOST_GNT : Fld :=
  ⟨9, 0x34, 0, 16, .ro, .w, 0, .any, .any⟩

/-- R104 FEMCTL.CNT_LEAD.SHORT: Leads cut short; saturates at 0xFFFF. -/
def FEMCTL_CNT_LEAD_SHORT : Fld :=
  ⟨9, 0x34, 16, 16, .ro, .w, 0, .any, .any⟩

/-- R140 MDM.CTRL.IRQ_EN: 1 routes EV_CIR_MDM or EV_STR_MDM, raised by any EVT bit, to the event matrix. -/
def MDM_CTRL_IRQ_EN (r : Radio) : Fld :=
  ⟨(6 + 2 * r.idx), 0x0, 0, 1, .rwl, .w, 0, .any, .any⟩

/-- R140 MDM.CTRL.LOCK: LOCK bit of the block, per R8. -/
def MDM_CTRL_LOCK (r : Radio) : Fld :=
  ⟨(6 + 2 * r.idx), 0x0, 31, 1, .w1s, .w, 0, .any, .any⟩

/-- R140 MDM.MODE.PHY: Mode, per R106 or R107. -/
def MDM_MODE_PHY (r : Radio) : Fld :=
  match r with
  | .cirrus => ⟨6, 0x4, 0, 3, .rw, .w, 0, .oneOf [0, 1, 2, 3, 4], .any⟩
  | .stratus => ⟨8, 0x4, 0, 3, .rw, .w, 0, .oneOf [0, 1, 2, 3, 4, 5], .any⟩

/-- R140 MDM.MODE.SHAPE: 0 2-FSK, 1 2-GFSK, per R107. -/
def MDM_MODE_SHAPE (r : Radio) : Fld :=
  ⟨(6 + 2 * r.idx), 0x4, 4, 1, .rw, .w, 1, .any, .any⟩

/-- R140 MDM.MODE.H: 0 default, 1 h = 0.5, 2 h = 1.0. -/
def MDM_MODE_H (r : Radio) : Fld :=
  ⟨(6 + 2 * r.idx), 0x4, 5, 2, .rw, .w, 0, .oneOf [0, 1, 2], .any⟩

/-- R140 MDM.MODE.TEST: Test pattern, per R137. -/
def MDM_MODE_TEST (r : Radio) : Fld :=
  ⟨(6 + 2 * r.idx), 0x4, 8, 3, .rw, .w, 0, .oneOf [0, 1, 2, 3], .any⟩

/-- R140 MDM.SYNC.AA: Access address. -/
def MDM_SYNC_AA (r : Radio) : Fld :=
  ⟨(6 + 2 * r.idx), 0x8, 0, 32, .rw, .w, 2391391958, .any, .any⟩

/-- R140 MDM.SYNC_CFG.ERR_MAX: Sync bit errors allowed, 0 to 4, per R115. -/
def MDM_SYNC_CFG_ERR_MAX (r : Radio) : Fld :=
  ⟨(6 + 2 * r.idx), 0xc, 0, 3, .rw, .w, 1, .between 0 4, .any⟩

/-- R140 MDM.SYNC_CFG.WAIT: Sync search limit in units of 8 symbols, 1 to 255. -/
def MDM_SYNC_CFG_WAIT (r : Radio) : Fld :=
  match r with
  | .cirrus => ⟨6, 0xc, 8, 8, .rw, .w, 6, .between 1 255, .any⟩
  | .stratus => ⟨8, 0xc, 8, 8, .rw, .w, 16, .between 1 255, .any⟩

/-- R140 MDM.SYNC_CFG.SFD_SEL: phySunFskSfd, 0 or 1. -/
def MDM_SYNC_CFG_SFD_SEL (r : Radio) : Fld :=
  ⟨(6 + 2 * r.idx), 0xc, 16, 1, .rw, .w, 0, .any, .any⟩

/-- R140 MDM.CRC_INIT: LE CRC initial value: CRCInit in the bit order of R112, loaded reversed over 24 bits. -/
def MDM_CRC_INIT (r : Radio) : Fld :=
  ⟨(6 + 2 * r.idx), 0x10, 0, 24, .rw, .w, 5592405, .any, .any⟩

/-- R140 MDM.WHITE.CHAN: Channel index seeding the LE whitening, 0 to 39. -/
def MDM_WHITE_CHAN (r : Radio) : Fld :=
  ⟨(6 + 2 * r.idx), 0x14, 0, 6, .rw, .w, 37, .between 0 39, .any⟩

/-- R140 MDM.WHITE.EN: LE whitening on, per R126. -/
def MDM_WHITE_EN (r : Radio) : Fld :=
  ⟨(6 + 2 * r.idx), 0x14, 8, 1, .rw, .w, 1, .any, .any⟩

/-- R140 MDM.SUN.FEC_SCHEME: 0 NRNSC, 1 RSC. -/
def MDM_SUN_FEC_SCHEME (r : Radio) : Fld :=
  ⟨(6 + 2 * r.idx), 0x18, 0, 1, .rw, .w, 0, .any, .any⟩

/-- R140 MDM.SUN.INTERLEAVE: RSC interleaving. -/
def MDM_SUN_INTERLEAVE (r : Radio) : Fld :=
  ⟨(6 + 2 * r.idx), 0x18, 1, 1, .rw, .w, 0, .any, .any⟩

/-- R140 MDM.SUN.FEC_TX: FEC on transmit. -/
def MDM_SUN_FEC_TX (r : Radio) : Fld :=
  ⟨(6 + 2 * r.idx), 0x18, 2, 1, .rw, .w, 0, .any, .any⟩

/-- R140 MDM.SUN.DW_TX: Whitening on transmit. -/
def MDM_SUN_DW_TX (r : Radio) : Fld :=
  ⟨(6 + 2 * r.idx), 0x18, 3, 1, .rw, .w, 1, .any, .any⟩

/-- R140 MDM.SUN.FCS_TX: 0 CRC-32 FCS, 1 CRC-16 FCS. -/
def MDM_SUN_FCS_TX (r : Radio) : Fld :=
  ⟨(6 + 2 * r.idx), 0x18, 4, 1, .rw, .w, 0, .any, .any⟩

/-- R140 MDM.SUN.PRE_LEN: Preamble octets on transmit, 4 to 1000, per R111. -/
def MDM_SUN_PRE_LEN (r : Radio) : Fld :=
  ⟨(6 + 2 * r.idx), 0x18, 16, 10, .rw, .w, 8, .between 4 1000, .any⟩

/-- R140 MDM.RXLEN.MAX: Longest accepted length, in octets. -/
def MDM_RXLEN_MAX (r : Radio) : Fld :=
  match r with
  | .cirrus => ⟨6, 0x1c, 0, 11, .rw, .w, 255, .any, .any⟩
  | .stratus => ⟨8, 0x1c, 0, 11, .rw, .w, 2047, .any, .any⟩

/-- R140 MDM.PD.THRESH: Detection threshold, 0 to 255. -/
def MDM_PD_THRESH (r : Radio) : Fld :=
  ⟨(6 + 2 * r.idx), 0x20, 0, 8, .rw, .w, 140, .any, .any⟩

/-- R140 MDM.PD.RSSI_MIN: RSSI gate, signed dBm. -/
def MDM_PD_RSSI_MIN (r : Radio) : Fld :=
  ⟨(6 + 2 * r.idx), 0x20, 8, 8, .rw, .w, 128, .any, .any⟩

/-- R140 MDM.AGC.START: Index at window open, 0 to 24. -/
def MDM_AGC_START (r : Radio) : Fld :=
  ⟨(6 + 2 * r.idx), 0x24, 0, 5, .rw, .w, 0, .between 0 24, .any⟩

/-- R140 MDM.AGC.FREEZE_EN: Freeze at detection. -/
def MDM_AGC_FREEZE_EN (r : Radio) : Fld :=
  ⟨(6 + 2 * r.idx), 0x24, 8, 1, .rw, .w, 1, .any, .any⟩

/-- R140 MDM.AGC.FORCE: Hold the index at FORCE_IDX. -/
def MDM_AGC_FORCE (r : Radio) : Fld :=
  ⟨(6 + 2 * r.idx), 0x24, 9, 1, .rw, .w, 0, .any, .any⟩

/-- R140 MDM.AGC.FORCE_IDX: Forced index, 0 to 24. -/
def MDM_AGC_FORCE_IDX (r : Radio) : Fld :=
  ⟨(6 + 2 * r.idx), 0x24, 16, 5, .rw, .w, 0, .between 0 24, .any⟩

/-- R140 MDM.EQ.MODE: 0 OFF, 1 ON, 2 AUTO, per R121. -/
def MDM_EQ_MODE (r : Radio) : Fld :=
  ⟨(6 + 2 * r.idx), 0x28, 0, 2, .rw, .w, 2, .oneOf [0, 1, 2], .any⟩

/-- R140 MDM.EQ.MU_TRAIN: Training step exponent, 2 to 8. -/
def MDM_EQ_MU_TRAIN (r : Radio) : Fld :=
  ⟨(6 + 2 * r.idx), 0x28, 4, 4, .rw, .w, 4, .between 2 8, .any⟩

/-- R140 MDM.EQ.MU_TRACK: Tracking step exponent, 4 to 12. -/
def MDM_EQ_MU_TRACK (r : Radio) : Fld :=
  ⟨(6 + 2 * r.idx), 0x28, 8, 4, .rw, .w, 7, .between 4 12, .any⟩

/-- R140 MDM.EQ.CURSOR: Cursor tap, 0 to 7. -/
def MDM_EQ_CURSOR (r : Radio) : Fld :=
  ⟨(6 + 2 * r.idx), 0x28, 12, 3, .rw, .w, 2, .any, .any⟩

/-- R140 MDM.EQ.INIT: Starting coefficients, per R122. -/
def MDM_EQ_INIT (r : Radio) : Fld :=
  ⟨(6 + 2 * r.idx), 0x28, 15, 1, .rw, .w, 0, .any, .any⟩

/-- R140 MDM.EQ.MIN_TRAIN: Symbols, 8 to 64. -/
def MDM_EQ_MIN_TRAIN (r : Radio) : Fld :=
  ⟨(6 + 2 * r.idx), 0x28, 16, 8, .rw, .w, 32, .between 8 64, .any⟩

/-- R140 MDM.EQ.MSE_MAX: Bypass limit, per R124. -/
def MDM_EQ_MSE_MAX (r : Radio) : Fld :=
  ⟨(6 + 2 * r.idx), 0x28, 24, 8, .rw, .w, 64, .any, .any⟩

/-- R140 MDM.CCA.THRESH: Busy level, signed dBm. -/
def MDM_CCA_THRESH (r : Radio) : Fld :=
  ⟨(6 + 2 * r.idx), 0x2c, 0, 8, .rw, .w, 181, .any, .any⟩

/-- R140 MDM.CCA.LEN: Measurement in µs, 8 to 255. -/
def MDM_CCA_LEN (r : Radio) : Fld :=
  ⟨(6 + 2 * r.idx), 0x2c, 8, 8, .rw, .w, 128, .between 8 255, .any⟩

/-- R140 MDM.TS_ADJ.UNITS: Signed external receive delay, in LINK_TIME units. -/
def MDM_TS_ADJ_UNITS (r : Radio) : Fld :=
  ⟨(6 + 2 * r.idx), 0x30, 0, 16, .rwl, .w, 0, .any, .any⟩

/-- R140 MDM.STAT.RSSI_NOW: Signed dBm, per R132. -/
def MDM_STAT_RSSI_NOW (r : Radio) : Fld :=
  ⟨(6 + 2 * r.idx), 0x34, 0, 8, .ro, .live, 0, .any, .any⟩

/-- R140 MDM.STAT.AGC_IDX: Present gain index. -/
def MDM_STAT_AGC_IDX (r : Radio) : Fld :=
  ⟨(6 + 2 * r.idx), 0x34, 8, 5, .ro, .live, 0, .any, .any⟩

/-- R140 MDM.STAT.FROZEN: AGC frozen. -/
def MDM_STAT_FROZEN (r : Radio) : Fld :=
  ⟨(6 + 2 * r.idx), 0x34, 13, 1, .ro, .live, 0, .any, .any⟩

/-- R140 MDM.STAT.IN_FRAME: Detection made, report not yet posted. -/
def MDM_STAT_IN_FRAME (r : Radio) : Fld :=
  ⟨(6 + 2 * r.idx), 0x34, 14, 1, .ro, .live, 0, .any, .any⟩

/-- R140 MDM.STAT.CCA_BUSY: Result of the last measurement, per R134. -/
def MDM_STAT_CCA_BUSY (r : Radio) : Fld :=
  ⟨(6 + 2 * r.idx), 0x34, 15, 1, .ro, .w, 0, .any, .any⟩

/-- R140 MDM.EVT.RX_DONE: A report was posted. -/
def MDM_EVT_RX_DONE (r : Radio) : Fld :=
  ⟨(6 + 2 * r.idx), 0x38, 0, 1, .w1c, .w, 0, .any, .any⟩

/-- R140 MDM.EVT.SYNC_TIMEOUT: Set under R115. -/
def MDM_EVT_SYNC_TIMEOUT (r : Radio) : Fld :=
  ⟨(6 + 2 * r.idx), 0x38, 1, 1, .w1c, .w, 0, .any, .any⟩

/-- R140 MDM.EVT.CLIPPED: Set under R119. -/
def MDM_EVT_CLIPPED (r : Radio) : Fld :=
  ⟨(6 + 2 * r.idx), 0x38, 2, 1, .w1c, .w, 0, .any, .any⟩

/-- R140 MDM.EVT.EQ_BYPASSED: Set under R124. -/
def MDM_EVT_EQ_BYPASSED (r : Radio) : Fld :=
  ⟨(6 + 2 * r.idx), 0x38, 3, 1, .w1c, .w, 0, .any, .any⟩

/-- R140 MDM.EVT.EQ_SHORT: Set under R123. -/
def MDM_EVT_EQ_SHORT (r : Radio) : Fld :=
  ⟨(6 + 2 * r.idx), 0x38, 4, 1, .w1c, .w, 0, .any, .any⟩

/-- R140 MDM.EVT.IF_MISMATCH: Set under R109. -/
def MDM_EVT_IF_MISMATCH (r : Radio) : Fld :=
  ⟨(6 + 2 * r.idx), 0x38, 5, 1, .w1c, .w, 0, .any, .any⟩

/-- R140 MDM.EVT.TX_UNDERRUN: Set under R138. -/
def MDM_EVT_TX_UNDERRUN (r : Radio) : Fld :=
  ⟨(6 + 2 * r.idx), 0x38, 6, 1, .w1c, .w, 0, .any, .any⟩

/-- R140 MDM.EVT.RXFIFO_OVF: Set under R139. -/
def MDM_EVT_RXFIFO_OVF (r : Radio) : Fld :=
  ⟨(6 + 2 * r.idx), 0x38, 7, 1, .w1c, .w, 0, .any, .any⟩

/-- R140 MDM.FIFO_CFG.DLEN: Octets to transmit in direct mode. -/
def MDM_FIFO_CFG_DLEN (r : Radio) : Fld :=
  ⟨(6 + 2 * r.idx), 0x3c, 0, 11, .rw, .w, 0, .any, .any⟩

/-- R140 MDM.FIFO_CFG.FLUSH: 1 empties TXFIFO and RXFIFO. -/
def MDM_FIFO_CFG_FLUSH (r : Radio) : Fld :=
  ⟨(6 + 2 * r.idx), 0x3c, 31, 1, .wo, .w, 0, .any, .any⟩

/-- R140 MDM.LAST_STAT.RESULT: Per the table under R135. -/
def MDM_LAST_STAT_RESULT (r : Radio) : Fld :=
  ⟨(6 + 2 * r.idx), 0x40, 0, 4, .ro, .w, 0, .any, .any⟩

/-- R140 MDM.LAST_STAT.PHY: Mode of the frame. -/
def MDM_LAST_STAT_PHY (r : Radio) : Fld :=
  ⟨(6 + 2 * r.idx), 0x40, 4, 3, .ro, .w, 0, .any, .any⟩

/-- R140 MDM.LAST_STAT.CI: Coding indicator, per R139. -/
def MDM_LAST_STAT_CI (r : Radio) : Fld :=
  ⟨(6 + 2 * r.idx), 0x40, 7, 1, .ro, .w, 0, .any, .any⟩

/-- R140 MDM.LAST_STAT.CODED: Coded SFD received. -/
def MDM_LAST_STAT_CODED (r : Radio) : Fld :=
  ⟨(6 + 2 * r.idx), 0x40, 8, 1, .ro, .w, 0, .any, .any⟩

/-- R140 MDM.LAST_STAT.DW: DW bit of the header. -/
def MDM_LAST_STAT_DW (r : Radio) : Fld :=
  ⟨(6 + 2 * r.idx), 0x40, 9, 1, .ro, .w, 0, .any, .any⟩

/-- R140 MDM.LAST_STAT.FCS16: FCS type bit of the header. -/
def MDM_LAST_STAT_FCS16 (r : Radio) : Fld :=
  ⟨(6 + 2 * r.idx), 0x40, 10, 1, .ro, .w, 0, .any, .any⟩

/-- R140 MDM.LAST_STAT.HELD: A newer report waits under R136. -/
def MDM_LAST_STAT_HELD (r : Radio) : Fld :=
  ⟨(6 + 2 * r.idx), 0x40, 11, 1, .ro, .w, 0, .any, .any⟩

/-- R140 MDM.LAST_STAT.LEN: Declared length in octets. -/
def MDM_LAST_STAT_LEN (r : Radio) : Fld :=
  ⟨(6 + 2 * r.idx), 0x40, 16, 11, .ro, .w, 0, .any, .any⟩

/-- R140 MDM.LAST_TS_LO: Timestamp bits [31:0], per R129. -/
def MDM_LAST_TS_LO (r : Radio) : Fld :=
  ⟨(6 + 2 * r.idx), 0x44, 0, 32, .ro, .w, 0, .any, .any⟩

/-- R140 MDM.LAST_TS_HI: Timestamp bits [63:32]. -/
def MDM_LAST_TS_HI (r : Radio) : Fld :=
  ⟨(6 + 2 * r.idx), 0x48, 0, 32, .ro, .w, 0, .any, .any⟩

/-- R140 MDM.LAST_Q.RSSI: Signed dBm. -/
def MDM_LAST_Q_RSSI (r : Radio) : Fld :=
  ⟨(6 + 2 * r.idx), 0x4c, 0, 8, .ro, .w, 0, .any, .any⟩

/-- R140 MDM.LAST_Q.LQI: Per R133. -/
def MDM_LAST_Q_LQI (r : Radio) : Fld :=
  ⟨(6 + 2 * r.idx), 0x4c, 8, 8, .ro, .w, 0, .any, .any⟩

/-- R140 MDM.LAST_Q.AGC_IDX: Index at freeze. -/
def MDM_LAST_Q_AGC_IDX (r : Radio) : Fld :=
  ⟨(6 + 2 * r.idx), 0x4c, 16, 5, .ro, .w, 0, .any, .any⟩

/-- R140 MDM.LAST_Q.FEC_ERR: Per R128. -/
def MDM_LAST_Q_FEC_ERR (r : Radio) : Fld :=
  ⟨(6 + 2 * r.idx), 0x4c, 24, 8, .ro, .w, 0, .any, .any⟩

/-- R140 MDM.LAST_CFO.CFO: Signed, 0.25 kHz steps. -/
def MDM_LAST_CFO_CFO (r : Radio) : Fld :=
  ⟨(6 + 2 * r.idx), 0x50, 0, 16, .ro, .w, 0, .any, .any⟩

/-- R140 MDM.LAST_CFO.EQ_MSE: Per R124. -/
def MDM_LAST_CFO_EQ_MSE (r : Radio) : Fld :=
  ⟨(6 + 2 * r.idx), 0x50, 24, 8, .ro, .w, 0, .any, .any⟩

/-- R140 MDM.EQ_COEF_n.VALUE: Signed coefficient, weight 1/512, per R124. -/
def MDM_EQ_COEF_VALUE (r : Radio) (n : Nat) : Fld :=
  ⟨(6 + 2 * r.idx), (0x60 + n * 0x4), 0, 12, .ro, .w, 0, .any, .any⟩

/-- R140 MDM.CNT_PD: Preamble detections. -/
def MDM_CNT_PD (r : Radio) : Fld :=
  ⟨(6 + 2 * r.idx), 0x90, 0, 16, .ro, .w, 0, .any, .any⟩

/-- R140 MDM.CNT_SYNC_TO: Sync timeouts. -/
def MDM_CNT_SYNC_TO (r : Radio) : Fld :=
  ⟨(6 + 2 * r.idx), 0x90, 16, 16, .ro, .w, 0, .any, .any⟩

/-- R140 MDM.CNT_OK: Reports with result OK. -/
def MDM_CNT_OK (r : Radio) : Fld :=
  ⟨(6 + 2 * r.idx), 0x94, 0, 16, .ro, .w, 0, .any, .any⟩

/-- R140 MDM.CNT_CRC: Reports with result CRC_FAIL. -/
def MDM_CNT_CRC (r : Radio) : Fld :=
  ⟨(6 + 2 * r.idx), 0x94, 16, 16, .ro, .w, 0, .any, .any⟩

/-- R140 MDM.CNT_PHR: Header refusals under R113. -/
def MDM_CNT_PHR (r : Radio) : Fld :=
  ⟨(6 + 2 * r.idx), 0x98, 0, 16, .ro, .w, 0, .any, .any⟩

/-- R140 MDM.TXFIFO: Four octets to transmit; ignored when full. -/
def MDM_TXFIFO (r : Radio) : Fld :=
  ⟨(6 + 2 * r.idx), 0xa0, 0, 32, .wo, .w, 0, .any, .any⟩

/-- R140 MDM.RXFIFO: Four received octets, per R139. -/
def MDM_RXFIFO (r : Radio) : Fld :=
  ⟨(6 + 2 * r.idx), 0xa4, 0, 32, .ro, .w, 0, .any, .any⟩

/-- R140 MDM.FIFO_STAT.TX_LEVEL: Octets in TXFIFO. -/
def MDM_FIFO_STAT_TX_LEVEL (r : Radio) : Fld :=
  ⟨(6 + 2 * r.idx), 0xa8, 0, 7, .ro, .w, 0, .any, .any⟩

/-- R140 MDM.FIFO_STAT.RX_LEVEL: Octets in RXFIFO. -/
def MDM_FIFO_STAT_RX_LEVEL (r : Radio) : Fld :=
  ⟨(6 + 2 * r.idx), 0xa8, 8, 7, .ro, .w, 0, .any, .any⟩

/-- The fields of CIRRUS_FE, by offset. -/
def rowsCIRRUSFE : List Row :=
  [
  ⟨0x0, 4, 1, fun _ => FE_CTRL_DIRECT .cirrus⟩,
  ⟨0x0, 4, 1, fun _ => FE_CTRL_CAL_AUTO .cirrus⟩,
  ⟨0x0, 4, 1, fun _ => FE_CTRL_LOCK .cirrus⟩,
  ⟨0x4, 4, 1, fun _ => FE_CMD_OP .cirrus⟩,
  ⟨0x8, 4, 1, fun _ => FE_STAT_STATE .cirrus⟩,
  ⟨0x8, 4, 1, fun _ => FE_STAT_PENDING .cirrus⟩,
  ⟨0x8, 4, 1, fun _ => FE_STAT_SYN_LOCK .cirrus⟩,
  ⟨0x8, 4, 1, fun _ => FE_STAT_TX_INHIBIT .cirrus⟩,
  ⟨0x8, 4, 1, fun _ => FE_STAT_LAST_RESULT .cirrus⟩,
  ⟨0x8, 4, 1, fun _ => FE_STAT_LATE .cirrus⟩,
  ⟨0x8, 4, 1, fun _ => FE_STAT_CMD_DROPPED .cirrus⟩,
  ⟨0x8, 4, 1, fun _ => FE_STAT_TRUNC .cirrus⟩,
  ⟨0xc, 4, 1, fun _ => FE_CHAN_FREQ_KHZ .cirrus⟩,
  ⟨0xc, 4, 1, fun _ => FE_CHAN_IF_SEL .cirrus⟩,
  ⟨0xc, 4, 1, fun _ => FE_CHAN_INJ .cirrus⟩,
  ⟨0x10, 4, 1, fun _ => FE_FREQ_OFS_OFS .cirrus⟩,
  ⟨0x14, 4, 1, fun _ => FE_PA_DBM .cirrus⟩,
  ⟨0x14, 4, 1, fun _ => FE_PA_APPLIED .cirrus⟩,
  ⟨0x18, 4, 1, fun _ => FE_AUTO_RX_END .cirrus⟩,
  ⟨0x18, 4, 1, fun _ => FE_AUTO_TX_END .cirrus⟩,
  ⟨0x20, 4, 1, fun _ => FE_IQ_A_GAIN .cirrus⟩,
  ⟨0x20, 4, 1, fun _ => FE_IQ_A_PHASE .cirrus⟩,
  ⟨0x20, 4, 1, fun _ => FE_IQ_A_SRC .cirrus⟩,
  ⟨0x24, 4, 1, fun _ => FE_IQ_B_GAIN .cirrus⟩] ++ [
  ⟨0x24, 4, 1, fun _ => FE_IQ_B_PHASE .cirrus⟩,
  ⟨0x24, 4, 1, fun _ => FE_IQ_B_SRC .cirrus⟩,
  ⟨0x28, 4, 1, fun _ => FE_CAL_STAT_RESULT .cirrus⟩,
  ⟨0x28, 4, 1, fun _ => FE_CAL_STAT_IRR_A .cirrus⟩,
  ⟨0x28, 4, 1, fun _ => FE_CAL_STAT_IRR_B .cirrus⟩]

/-- The fields of STRATUS_FE, by offset. -/
def rowsSTRATUSFE : List Row :=
  [
  ⟨0x0, 4, 1, fun _ => FE_CTRL_DIRECT .stratus⟩,
  ⟨0x0, 4, 1, fun _ => FE_CTRL_CAL_AUTO .stratus⟩,
  ⟨0x0, 4, 1, fun _ => FE_CTRL_LOCK .stratus⟩,
  ⟨0x4, 4, 1, fun _ => FE_CMD_OP .stratus⟩,
  ⟨0x8, 4, 1, fun _ => FE_STAT_STATE .stratus⟩,
  ⟨0x8, 4, 1, fun _ => FE_STAT_PENDING .stratus⟩,
  ⟨0x8, 4, 1, fun _ => FE_STAT_SYN_LOCK .stratus⟩,
  ⟨0x8, 4, 1, fun _ => FE_STAT_TX_INHIBIT .stratus⟩,
  ⟨0x8, 4, 1, fun _ => FE_STAT_LAST_RESULT .stratus⟩,
  ⟨0x8, 4, 1, fun _ => FE_STAT_LATE .stratus⟩,
  ⟨0x8, 4, 1, fun _ => FE_STAT_CMD_DROPPED .stratus⟩,
  ⟨0x8, 4, 1, fun _ => FE_STAT_TRUNC .stratus⟩,
  ⟨0xc, 4, 1, fun _ => FE_CHAN_FREQ_KHZ .stratus⟩,
  ⟨0xc, 4, 1, fun _ => FE_CHAN_INJ .stratus⟩,
  ⟨0x10, 4, 1, fun _ => FE_FREQ_OFS_OFS .stratus⟩,
  ⟨0x14, 4, 1, fun _ => FE_PA_DBM .stratus⟩,
  ⟨0x14, 4, 1, fun _ => FE_PA_APPLIED .stratus⟩,
  ⟨0x18, 4, 1, fun _ => FE_AUTO_RX_END .stratus⟩,
  ⟨0x18, 4, 1, fun _ => FE_AUTO_TX_END .stratus⟩,
  ⟨0x20, 4, 1, fun _ => FE_IQ_A_GAIN .stratus⟩,
  ⟨0x20, 4, 1, fun _ => FE_IQ_A_PHASE .stratus⟩,
  ⟨0x20, 4, 1, fun _ => FE_IQ_A_SRC .stratus⟩,
  ⟨0x28, 4, 1, fun _ => FE_CAL_STAT_RESULT .stratus⟩,
  ⟨0x28, 4, 1, fun _ => FE_CAL_STAT_IRR_A .stratus⟩]

/-- The fields of FEMCTL, by offset. -/
def rowsFEMCTL : List Row :=
  [
  ⟨0x0, 4, 1, fun _ => FEMCTL_CTRL_COEX_IRQ_EN⟩,
  ⟨0x0, 4, 1, fun _ => FEMCTL_CTRL_LOCK⟩,
  ⟨0x4, 4, 1, fun _ => FEMCTL_CFG_CIR_FEM⟩,
  ⟨0x4, 4, 1, fun _ => FEMCTL_CFG_STR_FEM⟩,
  ⟨0x4, 4, 1, fun _ => FEMCTL_CFG_COEX_EN⟩,
  ⟨0x4, 4, 1, fun _ => FEMCTL_CFG_C_BYP_RX⟩,
  ⟨0x4, 4, 1, fun _ => FEMCTL_CFG_S_PAEN_HOLD⟩,
  ⟨0x8, 4, 1, fun _ => FEMCTL_LIMITS_CIR_PA_MAX⟩,
  ⟨0x8, 4, 1, fun _ => FEMCTL_LIMITS_STR_PA_MAX⟩,
  ⟨0x8, 4, 1, fun _ => FEMCTL_LIMITS_STR_ANT_MAX⟩,
  ⟨0xc, 4, 1, fun _ => FEMCTL_C_TIMING_TXEN_LEAD⟩,
  ⟨0xc, 4, 1, fun _ => FEMCTL_C_TIMING_TXEN_LAG⟩,
  ⟨0xc, 4, 1, fun _ => FEMCTL_C_TIMING_RXEN_LEAD⟩,
  ⟨0x10, 4, 1, fun _ => FEMCTL_S_TIMING_PAEN_LEAD⟩,
  ⟨0x10, 4, 1, fun _ => FEMCTL_S_TIMING_TXEN_LEAD⟩,
  ⟨0x10, 4, 1, fun _ => FEMCTL_S_TIMING_TXEN_LAG⟩,
  ⟨0x10, 4, 1, fun _ => FEMCTL_S_TIMING_RXEN_LEAD⟩,
  ⟨0x14, 4, 1, fun _ => FEMCTL_GAINS_S_PA_DB⟩,
  ⟨0x14, 4, 1, fun _ => FEMCTL_GAINS_S_LNA_DB⟩,
  ⟨0x14, 4, 1, fun _ => FEMCTL_GAINS_C_LNA_DB⟩,
  ⟨0x18, 4, 1, fun _ => FEMCTL_S_BAND_SPLIT_KHZ⟩,
  ⟨0x20, 4, 1, fun _ => FEMCTL_COEX_CFG_CIR_EN⟩,
  ⟨0x20, 4, 1, fun _ => FEMCTL_COEX_CFG_STR_EN⟩,
  ⟨0x20, 4, 1, fun _ => FEMCTL_COEX_CFG_MODE⟩] ++ [
  ⟨0x20, 4, 1, fun _ => FEMCTL_COEX_CFG_RX_NEEDS_GNT⟩,
  ⟨0x20, 4, 1, fun _ => FEMCTL_COEX_CFG_ABORT_ON_LOSS⟩,
  ⟨0x20, 4, 1, fun _ => FEMCTL_COEX_CFG_REQ_POL⟩,
  ⟨0x20, 4, 1, fun _ => FEMCTL_COEX_CFG_PRI_POL⟩,
  ⟨0x20, 4, 1, fun _ => FEMCTL_COEX_CFG_GNT_POL⟩,
  ⟨0x20, 4, 1, fun _ => FEMCTL_COEX_CFG_REQ_LEAD⟩,
  ⟨0x20, 4, 1, fun _ => FEMCTL_COEX_CFG_SAMPLE⟩,
  ⟨0x20, 4, 1, fun _ => FEMCTL_COEX_CFG_HOLD⟩,
  ⟨0x24, 4, 1, fun _ => FEMCTL_COEX_PRI_MAP⟩,
  ⟨0x28, 4, 1, fun _ => FEMCTL_COEX_STAT_REQ⟩,
  ⟨0x28, 4, 1, fun _ => FEMCTL_COEX_STAT_PRI⟩,
  ⟨0x28, 4, 1, fun _ => FEMCTL_COEX_STAT_GNT⟩,
  ⟨0x2c, 4, 1, fun _ => FEMCTL_EVT_GNT_DENIED⟩,
  ⟨0x2c, 4, 1, fun _ => FEMCTL_EVT_GNT_LOST⟩,
  ⟨0x2c, 4, 1, fun _ => FEMCTL_EVT_LEAD_SHORT⟩,
  ⟨0x30, 4, 1, fun _ => FEMCTL_CNT_DENIED_TX⟩,
  ⟨0x30, 4, 1, fun _ => FEMCTL_CNT_DENIED_RX⟩,
  ⟨0x34, 4, 1, fun _ => FEMCTL_CNT_LOST_GNT⟩,
  ⟨0x34, 4, 1, fun _ => FEMCTL_CNT_LEAD_SHORT⟩]

/-- The fields of CIRRUS_MDM, by offset. -/
def rowsCIRRUSMDM : List Row :=
  [
  ⟨0x0, 4, 1, fun _ => MDM_CTRL_IRQ_EN .cirrus⟩,
  ⟨0x0, 4, 1, fun _ => MDM_CTRL_LOCK .cirrus⟩,
  ⟨0x4, 4, 1, fun _ => MDM_MODE_PHY .cirrus⟩,
  ⟨0x4, 4, 1, fun _ => MDM_MODE_TEST .cirrus⟩,
  ⟨0x8, 4, 1, fun _ => MDM_SYNC_AA .cirrus⟩,
  ⟨0xc, 4, 1, fun _ => MDM_SYNC_CFG_ERR_MAX .cirrus⟩,
  ⟨0xc, 4, 1, fun _ => MDM_SYNC_CFG_WAIT .cirrus⟩,
  ⟨0x10, 4, 1, fun _ => MDM_CRC_INIT .cirrus⟩,
  ⟨0x14, 4, 1, fun _ => MDM_WHITE_CHAN .cirrus⟩,
  ⟨0x14, 4, 1, fun _ => MDM_WHITE_EN .cirrus⟩,
  ⟨0x1c, 4, 1, fun _ => MDM_RXLEN_MAX .cirrus⟩,
  ⟨0x20, 4, 1, fun _ => MDM_PD_THRESH .cirrus⟩,
  ⟨0x20, 4, 1, fun _ => MDM_PD_RSSI_MIN .cirrus⟩,
  ⟨0x24, 4, 1, fun _ => MDM_AGC_START .cirrus⟩,
  ⟨0x24, 4, 1, fun _ => MDM_AGC_FREEZE_EN .cirrus⟩,
  ⟨0x24, 4, 1, fun _ => MDM_AGC_FORCE .cirrus⟩,
  ⟨0x24, 4, 1, fun _ => MDM_AGC_FORCE_IDX .cirrus⟩,
  ⟨0x2c, 4, 1, fun _ => MDM_CCA_THRESH .cirrus⟩,
  ⟨0x2c, 4, 1, fun _ => MDM_CCA_LEN .cirrus⟩,
  ⟨0x30, 4, 1, fun _ => MDM_TS_ADJ_UNITS .cirrus⟩,
  ⟨0x34, 4, 1, fun _ => MDM_STAT_RSSI_NOW .cirrus⟩,
  ⟨0x34, 4, 1, fun _ => MDM_STAT_AGC_IDX .cirrus⟩,
  ⟨0x34, 4, 1, fun _ => MDM_STAT_FROZEN .cirrus⟩,
  ⟨0x34, 4, 1, fun _ => MDM_STAT_IN_FRAME .cirrus⟩] ++ [
  ⟨0x34, 4, 1, fun _ => MDM_STAT_CCA_BUSY .cirrus⟩,
  ⟨0x38, 4, 1, fun _ => MDM_EVT_RX_DONE .cirrus⟩,
  ⟨0x38, 4, 1, fun _ => MDM_EVT_SYNC_TIMEOUT .cirrus⟩,
  ⟨0x38, 4, 1, fun _ => MDM_EVT_CLIPPED .cirrus⟩,
  ⟨0x38, 4, 1, fun _ => MDM_EVT_IF_MISMATCH .cirrus⟩,
  ⟨0x38, 4, 1, fun _ => MDM_EVT_TX_UNDERRUN .cirrus⟩,
  ⟨0x38, 4, 1, fun _ => MDM_EVT_RXFIFO_OVF .cirrus⟩,
  ⟨0x3c, 4, 1, fun _ => MDM_FIFO_CFG_DLEN .cirrus⟩,
  ⟨0x3c, 4, 1, fun _ => MDM_FIFO_CFG_FLUSH .cirrus⟩,
  ⟨0x40, 4, 1, fun _ => MDM_LAST_STAT_RESULT .cirrus⟩,
  ⟨0x40, 4, 1, fun _ => MDM_LAST_STAT_PHY .cirrus⟩,
  ⟨0x40, 4, 1, fun _ => MDM_LAST_STAT_CI .cirrus⟩,
  ⟨0x40, 4, 1, fun _ => MDM_LAST_STAT_HELD .cirrus⟩,
  ⟨0x40, 4, 1, fun _ => MDM_LAST_STAT_LEN .cirrus⟩,
  ⟨0x44, 4, 1, fun _ => MDM_LAST_TS_LO .cirrus⟩,
  ⟨0x48, 4, 1, fun _ => MDM_LAST_TS_HI .cirrus⟩,
  ⟨0x4c, 4, 1, fun _ => MDM_LAST_Q_RSSI .cirrus⟩,
  ⟨0x4c, 4, 1, fun _ => MDM_LAST_Q_LQI .cirrus⟩,
  ⟨0x4c, 4, 1, fun _ => MDM_LAST_Q_AGC_IDX .cirrus⟩,
  ⟨0x4c, 4, 1, fun _ => MDM_LAST_Q_FEC_ERR .cirrus⟩,
  ⟨0x50, 4, 1, fun _ => MDM_LAST_CFO_CFO .cirrus⟩,
  ⟨0x90, 4, 1, fun _ => MDM_CNT_PD .cirrus⟩,
  ⟨0x90, 4, 1, fun _ => MDM_CNT_SYNC_TO .cirrus⟩,
  ⟨0x94, 4, 1, fun _ => MDM_CNT_OK .cirrus⟩] ++ [
  ⟨0x94, 4, 1, fun _ => MDM_CNT_CRC .cirrus⟩,
  ⟨0x98, 4, 1, fun _ => MDM_CNT_PHR .cirrus⟩,
  ⟨0xa0, 4, 1, fun _ => MDM_TXFIFO .cirrus⟩,
  ⟨0xa4, 4, 1, fun _ => MDM_RXFIFO .cirrus⟩,
  ⟨0xa8, 4, 1, fun _ => MDM_FIFO_STAT_TX_LEVEL .cirrus⟩,
  ⟨0xa8, 4, 1, fun _ => MDM_FIFO_STAT_RX_LEVEL .cirrus⟩]

/-- The fields of STRATUS_MDM, by offset. -/
def rowsSTRATUSMDM : List Row :=
  [
  ⟨0x0, 4, 1, fun _ => MDM_CTRL_IRQ_EN .stratus⟩,
  ⟨0x0, 4, 1, fun _ => MDM_CTRL_LOCK .stratus⟩,
  ⟨0x4, 4, 1, fun _ => MDM_MODE_PHY .stratus⟩,
  ⟨0x4, 4, 1, fun _ => MDM_MODE_SHAPE .stratus⟩,
  ⟨0x4, 4, 1, fun _ => MDM_MODE_H .stratus⟩,
  ⟨0x4, 4, 1, fun _ => MDM_MODE_TEST .stratus⟩,
  ⟨0xc, 4, 1, fun _ => MDM_SYNC_CFG_ERR_MAX .stratus⟩,
  ⟨0xc, 4, 1, fun _ => MDM_SYNC_CFG_WAIT .stratus⟩,
  ⟨0xc, 4, 1, fun _ => MDM_SYNC_CFG_SFD_SEL .stratus⟩,
  ⟨0x18, 4, 1, fun _ => MDM_SUN_FEC_SCHEME .stratus⟩,
  ⟨0x18, 4, 1, fun _ => MDM_SUN_INTERLEAVE .stratus⟩,
  ⟨0x18, 4, 1, fun _ => MDM_SUN_FEC_TX .stratus⟩,
  ⟨0x18, 4, 1, fun _ => MDM_SUN_DW_TX .stratus⟩,
  ⟨0x18, 4, 1, fun _ => MDM_SUN_FCS_TX .stratus⟩,
  ⟨0x18, 4, 1, fun _ => MDM_SUN_PRE_LEN .stratus⟩,
  ⟨0x1c, 4, 1, fun _ => MDM_RXLEN_MAX .stratus⟩,
  ⟨0x20, 4, 1, fun _ => MDM_PD_THRESH .stratus⟩,
  ⟨0x20, 4, 1, fun _ => MDM_PD_RSSI_MIN .stratus⟩,
  ⟨0x24, 4, 1, fun _ => MDM_AGC_START .stratus⟩,
  ⟨0x24, 4, 1, fun _ => MDM_AGC_FREEZE_EN .stratus⟩,
  ⟨0x24, 4, 1, fun _ => MDM_AGC_FORCE .stratus⟩,
  ⟨0x24, 4, 1, fun _ => MDM_AGC_FORCE_IDX .stratus⟩,
  ⟨0x28, 4, 1, fun _ => MDM_EQ_MODE .stratus⟩,
  ⟨0x28, 4, 1, fun _ => MDM_EQ_MU_TRAIN .stratus⟩] ++ [
  ⟨0x28, 4, 1, fun _ => MDM_EQ_MU_TRACK .stratus⟩,
  ⟨0x28, 4, 1, fun _ => MDM_EQ_CURSOR .stratus⟩,
  ⟨0x28, 4, 1, fun _ => MDM_EQ_INIT .stratus⟩,
  ⟨0x28, 4, 1, fun _ => MDM_EQ_MIN_TRAIN .stratus⟩,
  ⟨0x28, 4, 1, fun _ => MDM_EQ_MSE_MAX .stratus⟩,
  ⟨0x2c, 4, 1, fun _ => MDM_CCA_THRESH .stratus⟩,
  ⟨0x2c, 4, 1, fun _ => MDM_CCA_LEN .stratus⟩,
  ⟨0x30, 4, 1, fun _ => MDM_TS_ADJ_UNITS .stratus⟩,
  ⟨0x34, 4, 1, fun _ => MDM_STAT_RSSI_NOW .stratus⟩,
  ⟨0x34, 4, 1, fun _ => MDM_STAT_AGC_IDX .stratus⟩,
  ⟨0x34, 4, 1, fun _ => MDM_STAT_FROZEN .stratus⟩,
  ⟨0x34, 4, 1, fun _ => MDM_STAT_IN_FRAME .stratus⟩,
  ⟨0x34, 4, 1, fun _ => MDM_STAT_CCA_BUSY .stratus⟩,
  ⟨0x38, 4, 1, fun _ => MDM_EVT_RX_DONE .stratus⟩,
  ⟨0x38, 4, 1, fun _ => MDM_EVT_SYNC_TIMEOUT .stratus⟩,
  ⟨0x38, 4, 1, fun _ => MDM_EVT_CLIPPED .stratus⟩,
  ⟨0x38, 4, 1, fun _ => MDM_EVT_EQ_BYPASSED .stratus⟩,
  ⟨0x38, 4, 1, fun _ => MDM_EVT_EQ_SHORT .stratus⟩,
  ⟨0x38, 4, 1, fun _ => MDM_EVT_TX_UNDERRUN .stratus⟩,
  ⟨0x38, 4, 1, fun _ => MDM_EVT_RXFIFO_OVF .stratus⟩,
  ⟨0x3c, 4, 1, fun _ => MDM_FIFO_CFG_DLEN .stratus⟩,
  ⟨0x3c, 4, 1, fun _ => MDM_FIFO_CFG_FLUSH .stratus⟩,
  ⟨0x40, 4, 1, fun _ => MDM_LAST_STAT_RESULT .stratus⟩,
  ⟨0x40, 4, 1, fun _ => MDM_LAST_STAT_PHY .stratus⟩] ++ [
  ⟨0x40, 4, 1, fun _ => MDM_LAST_STAT_CODED .stratus⟩,
  ⟨0x40, 4, 1, fun _ => MDM_LAST_STAT_DW .stratus⟩,
  ⟨0x40, 4, 1, fun _ => MDM_LAST_STAT_FCS16 .stratus⟩,
  ⟨0x40, 4, 1, fun _ => MDM_LAST_STAT_HELD .stratus⟩,
  ⟨0x40, 4, 1, fun _ => MDM_LAST_STAT_LEN .stratus⟩,
  ⟨0x44, 4, 1, fun _ => MDM_LAST_TS_LO .stratus⟩,
  ⟨0x48, 4, 1, fun _ => MDM_LAST_TS_HI .stratus⟩,
  ⟨0x4c, 4, 1, fun _ => MDM_LAST_Q_RSSI .stratus⟩,
  ⟨0x4c, 4, 1, fun _ => MDM_LAST_Q_LQI .stratus⟩,
  ⟨0x4c, 4, 1, fun _ => MDM_LAST_Q_AGC_IDX .stratus⟩,
  ⟨0x4c, 4, 1, fun _ => MDM_LAST_Q_FEC_ERR .stratus⟩,
  ⟨0x50, 4, 1, fun _ => MDM_LAST_CFO_CFO .stratus⟩,
  ⟨0x50, 4, 1, fun _ => MDM_LAST_CFO_EQ_MSE .stratus⟩,
  ⟨0x60, 4, 12, fun n => MDM_EQ_COEF_VALUE .stratus n⟩,
  ⟨0x90, 4, 1, fun _ => MDM_CNT_PD .stratus⟩,
  ⟨0x90, 4, 1, fun _ => MDM_CNT_SYNC_TO .stratus⟩,
  ⟨0x94, 4, 1, fun _ => MDM_CNT_OK .stratus⟩,
  ⟨0x94, 4, 1, fun _ => MDM_CNT_CRC .stratus⟩,
  ⟨0x98, 4, 1, fun _ => MDM_CNT_PHR .stratus⟩,
  ⟨0xa0, 4, 1, fun _ => MDM_TXFIFO .stratus⟩,
  ⟨0xa4, 4, 1, fun _ => MDM_RXFIFO .stratus⟩,
  ⟨0xa8, 4, 1, fun _ => MDM_FIFO_STAT_TX_LEVEL .stratus⟩,
  ⟨0xa8, 4, 1, fun _ => MDM_FIFO_STAT_RX_LEVEL .stratus⟩]

end Sys2Proof.Machine.R
end

