-- ==== Sys2Proof/Machine/Fem.lean ====
section
/-!
DEFINITION. Machine/Fem.lean: a radio's settings in force (R68, R103, R104, R110), the front-end module pins (R88, R89) and the
coexistence wires (R93 to R98).
-/
namespace Sys2Proof.Machine

open Sys2Proof

/-- The front-end block and the modem block of a radio. -/
def feBlk (r : Radio) : Nat := 5 + 2 * r.idx
def mdmBlk (r : Radio) : Nat := 6 + 2 * r.idx

namespace L

/-- R71, R385: the radio's domain was powered for a listen window. -/
def RA_LSN (r : Radio) : Fld := latch (feBlk r) 19 1 .w 0
/-- R88, R89: the levels the radios' states give the seven front-end module pins, in the table's order. -/
def FEM_PIN (n : Nat) : Fld := latch 9 n 1 .w 0
/-- R93, R94: a radio's request, whether it transmits, its class, whether its release awaits HOLD. -/
def CX_REQ (r : Radio) : Fld := latch 9 (10 + r.idx) 1 .w 0
def CX_TX (r : Radio) : Fld := latch 9 (12 + r.idx) 1 .w 0
def CX_CLS (r : Radio) : Fld := latch 9 (14 + r.idx) 3 .w 0
def CX_END (r : Radio) : Fld := latch 9 (16 + r.idx) 1 .w 0
/-- R94: the earlier requester has sampled; and who it is: 0 nobody, else its index plus one. -/
def CX_SMP : Fld := latch 9 18 1 .w 0
def CX_FIRST : Fld := latch 9 23 2 .w 0
/-- R94, R104: of the asserted request: its form, and the priority of each radio's event. -/
def CX_MODE : Fld := latch 9 24 1 .w 0
def CX_HIGH (r : Radio) : Fld := latch 9 (26 + r.idx) 1 .w 0
/-- R98, R104: REQ_POL and PRI_POL of the command accepted last, and those of the request on the wires. -/
def CX_NEXT_RPOL : Fld := latch 9 28 1 .w 0
def CX_NEXT_PPOL : Fld := latch 9 29 1 .w 0
def CX_RPOL : Fld := latch 9 30 1 .w 0
def CX_PPOL : Fld := latch 9 31 1 .w 0
/-- R98: the levels of the wires COEX_REQ and COEX_PRI. -/
def COEX_REQ : Fld := latch 9 32 1 .w 0
def COEX_PRI : Fld := latch 9 33 1 .w 0

end L

/-! ### Settings in force (R68, R103, R104, R110) -/

/-- The copy of a setting that a radio's present command uses. -/
def inForce (r : Radio) (f : Fld) : Fld := { f with off := f.off + 6144 + 512 * r.idx, acc := .ro }

/-- A setting as the radio's last accepted transition command took it. -/
def State.ap (s : State) (r : Radio) (f : Fld) : Nat := s.rd (inForce r f)

/-- The settings that wait for the next accepted transition command. -/
def settings (r : Radio) : List Fld :=
  [R.FE_CHAN_FREQ_KHZ r, R.FE_CHAN_IF_SEL r, R.FE_CHAN_INJ r, R.FE_FREQ_OFS_OFS r, R.FE_PA_DBM r, R.FE_AUTO_RX_END r,
   R.FE_AUTO_TX_END r, R.FE_IQ_A_GAIN r, R.FE_IQ_A_PHASE r, R.FE_IQ_B_GAIN r, R.FE_IQ_B_PHASE r,
   R.FEMCTL_C_TIMING_TXEN_LEAD, R.FEMCTL_C_TIMING_TXEN_LAG, R.FEMCTL_C_TIMING_RXEN_LEAD, R.FEMCTL_S_TIMING_PAEN_LEAD,
   R.FEMCTL_S_TIMING_TXEN_LEAD, R.FEMCTL_S_TIMING_TXEN_LAG, R.FEMCTL_S_TIMING_RXEN_LEAD, R.FEMCTL_GAINS_S_PA_DB,
   R.FEMCTL_GAINS_S_LNA_DB, R.FEMCTL_GAINS_C_LNA_DB, R.FEMCTL_S_BAND_SPLIT_KHZ, R.FEMCTL_COEX_CFG_CIR_EN,
   R.FEMCTL_COEX_CFG_STR_EN, R.FEMCTL_COEX_CFG_MODE, R.FEMCTL_COEX_CFG_RX_NEEDS_GNT, R.FEMCTL_COEX_CFG_ABORT_ON_LOSS,
   R.FEMCTL_COEX_CFG_REQ_POL, R.FEMCTL_COEX_CFG_PRI_POL, R.FEMCTL_COEX_CFG_GNT_POL, R.FEMCTL_COEX_CFG_REQ_LEAD,
   R.FEMCTL_COEX_CFG_SAMPLE, R.FEMCTL_COEX_CFG_HOLD, R.FEMCTL_COEX_PRI_MAP] ++
  [R.MDM_MODE_PHY r, R.MDM_MODE_SHAPE r, R.MDM_MODE_H r, R.MDM_MODE_TEST r, R.MDM_SYNC_AA r, R.MDM_SYNC_CFG_ERR_MAX r,
   R.MDM_SYNC_CFG_WAIT r, R.MDM_SYNC_CFG_SFD_SEL r, R.MDM_CRC_INIT r, R.MDM_WHITE_CHAN r, R.MDM_WHITE_EN r,
   R.MDM_SUN_FEC_SCHEME r, R.MDM_SUN_INTERLEAVE r, R.MDM_SUN_FEC_TX r, R.MDM_SUN_DW_TX r, R.MDM_SUN_FCS_TX r,
   R.MDM_SUN_PRE_LEN r, R.MDM_RXLEN_MAX r, R.MDM_PD_THRESH r, R.MDM_PD_RSSI_MIN r, R.MDM_AGC_START r,
   R.MDM_AGC_FREEZE_EN r, R.MDM_AGC_FORCE r, R.MDM_AGC_FORCE_IDX r, R.MDM_EQ_MODE r, R.MDM_EQ_MU_TRAIN r,
   R.MDM_EQ_MU_TRACK r, R.MDM_EQ_CURSOR r, R.MDM_EQ_INIT r, R.MDM_EQ_MIN_TRAIN r, R.MDM_EQ_MSE_MAX r, R.MDM_CCA_THRESH r,
   R.MDM_CCA_LEN r]

/-! ### Front-end module pins (R88, R89) -/

/-- Pins by name: Cirrus TXEN 0, RXEN 1, BYP 2; Stratus PAEN 3, TXEN 4, RXEN 5, BAND 6. -/
def pinTx (r : Radio) : Nat := match r with | .cirrus => 0 | .stratus => 4
def pinRx (r : Radio) : Nat := match r with | .cirrus => 1 | .stratus => 5
def pinRadio (n : Nat) : Radio := if n < 3 then .cirrus else .stratus

/-- Whether the Floor Plan gives a radio a front-end module. -/
def State.femOn (s : State) (r : Radio) : Bool :=
  match r with | .cirrus => s.on R.FEMCTL_CFG_CIR_FEM | .stratus => s.on R.FEMCTL_CFG_STR_FEM

/-- R89: the level of a pin: without a module the pin reads 0 in every state. -/
def State.femPin (s : State) (n : Nat) : Bool := s.on (L.FEM_PIN n) && s.femOn (pinRadio n)

/-- The level the radio's state gives a pin. -/
def State.pin (s : State) (n : Nat) (v : Bool) : State := s.wr (L.FEM_PIN n) (b2n v)

/-- The receive pins of a radio at 0, its transmit pins at 0, and all its pins at 0. -/
def State.rxPinsOff (s : State) (r : Radio) : State := (s.pin (pinRx r) false).when (r == .cirrus) fun s => s.pin 2 false
def State.txPinsOff (s : State) (r : Radio) : State := (s.pin (pinTx r) false).when (r == .stratus) fun s => s.pin 3 false
def State.pinsOff (s : State) (r : Radio) : State :=
  ((s.rxPinsOff r).txPinsOff r).when (r == .stratus) fun s => s.pin 6 false

/-- R89: SFEM_BAND as the channel in force and S_BAND give it. -/
def State.bandPin (s : State) (r : Radio) : State :=
  s.when (r == .stratus) fun s =>
    s.pin 6 (decide (s.ap r R.FEMCTL_S_BAND_SPLIT_KHZ ≤ s.ap r (R.FE_CHAN_FREQ_KHZ r)))

/-- R89: "hold": SFEM_PAEN stays at 1 through a reception before a turnaround. -/
def State.paHold (s : State) : Bool := s.on R.FEMCTL_CFG_S_PAEN_HOLD && s.ap .stratus (R.FE_AUTO_RX_END .stratus) == 2

/-- R89: while the receive path is on, CFEM_BYP follows C_BYP_RX and SFEM_PAEN follows "hold". -/
def State.rxPins (s : State) (r : Radio) : State :=
  s.when (s.on (L.FEM_PIN (pinRx r))) fun s =>
    match r with
    | .cirrus => s.pin 2 (s.on R.FEMCTL_CFG_C_BYP_RX)
    | .stratus => s.pin 3 s.paHold

/-! ### Coexistence (R93 to R98) -/

/-- R93: whether a radio takes part in coexistence. -/
def State.coexOn (s : State) (r : Radio) : Bool :=
  s.on R.FEMCTL_CFG_COEX_EN &&
    (match r with | .cirrus => s.ap r R.FEMCTL_COEX_CFG_CIR_EN != 0 | .stratus => s.ap r R.FEMCTL_COEX_CFG_STR_EN != 0)

/-- R93, R94, R98: COEX_STAT and the wires follow the two radios' requests; the wires' polarity changes only while no request is
asserted (R104). -/
def State.coexWires (s : State) : State :=
  let has (f : Radio → Fld) : Bool := (s.on (L.CX_REQ .cirrus) && s.on (f .cirrus)) || (s.on (L.CX_REQ .stratus) && s.on (f .stratus))
  let req := has L.CX_REQ
  let s1 := if req then s else s.wrs [(L.CX_SMP, 0), (L.CX_FIRST, 0), (L.CX_RPOL, s.rd L.CX_NEXT_RPOL), (L.CX_PPOL, s.rd L.CX_NEXT_PPOL)]
  let pri := req && (if s1.on L.CX_MODE && s1.on L.CX_SMP then has L.CX_TX else has L.CX_HIGH)
  s1.wrs [(R.FEMCTL_COEX_STAT_REQ, b2n req), (R.FEMCTL_COEX_STAT_PRI, b2n pri), (L.COEX_REQ, b2n (req != s1.on L.CX_RPOL)),
    (L.COEX_PRI, b2n (pri != s1.on L.CX_PPOL))]

/-- R93, R94, R104: a radio's request asserted for an event of a class: the request's form is that of the radio that asserts it
first, the priority that of the class. -/
def State.coexAssert (s : State) (r : Radio) (cls : Nat) (tx : Bool) : State :=
  let s1 := if s.on L.CX_FIRST then s else s.wrs [(L.CX_FIRST, r.idx + 1), (L.CX_MODE, s.ap r R.FEMCTL_COEX_CFG_MODE)]
  (s1.wrs [(L.CX_REQ r, 1), (L.CX_TX r, b2n tx), (L.CX_CLS r, cls), (L.CX_HIGH r, b2n (bit (s.ap r R.FEMCTL_COEX_PRI_MAP) cls)),
    (L.CX_END r, 0)]).coexWires

/-- R93: the instants from which HOLD runs before a radio's request is released. -/
def State.coexEnd (s : State) (r : Radio) : State := if s.on (L.CX_REQ r) then s.wr (L.CX_END r) 1 else s

/-- A radio's request released. DEDUCED: where the other radio's stands, that radio is the earlier requester from then on. -/
def State.coexRelease (s : State) (r : Radio) : State :=
  ((s.wrs [(L.CX_REQ r, 0), (L.CX_END r, 0), (L.CX_TX r, 0)]).when (s.rd L.CX_FIRST == r.idx + 1) fun s => s.wr L.CX_FIRST (2 - r.idx)).coexWires

/-- A transition command is accepted: the settings written so far come into force. -/
def State.applySettings (s : State) (r : Radio) : State :=
  ((s.each (settings r) fun f s => s.wr (inForce r f) (s.rd f)).wrs
    [(L.CX_NEXT_RPOL, s.rd R.FEMCTL_COEX_CFG_REQ_POL), (L.CX_NEXT_PPOL, s.rd R.FEMCTL_COEX_CFG_PRI_POL)]).coexWires

/-- R93: with COEX_EN 0 both requests are released. -/
def State.coexOff (s : State) : State := s.when (!s.on R.FEMCTL_CFG_COEX_EN) fun s => (s.coexRelease .cirrus).coexRelease .stratus

/-! ### The radios' domains -/

/-- R86, R71, R385: a domain powered and released: a radio's reads the inhibition of a dip that lasts, and notes whether it was
powered for a listen window. -/
def State.domUp (s : State) (d : Nat) : State :=
  let radio (r : Radio) (s : State) : State := s.wrs [(R.FE_STAT_TX_INHIBIT r, s.rd R.SYSCTL_SUPPLY_STAT_WARN), (L.RA_LSN r, s.rd R.SYSCTL_PWR_STAT_LISTEN)]
  ((s.when (d == 8 && !s.domOn 8) (radio .cirrus)).when (d == 9 && !s.domOn 9) (radio .stratus)).setDom d true

/-- R89, R93: a radio's domain loses its state: the radio is in OFF, its pins fall, and HOLD runs for its request. -/
def State.radioGone (s : State) (r : Radio) : State := (s.pinsOff r).coexEnd r

end Sys2Proof.Machine
end

