-- ==== Sys2Proof/Machine/Aes.lean ====
section
/-!
DEFINITION. Machine/Aes.lean: the ciphers of the engine: the AES forward cipher (R215), CMAC, the key
derivation of R229, and the modes of R222, R224 and R234.
-/
namespace Sys2Proof.Machine

open Sys2Proof

/-- Multiplication by x in the AES field. -/
def xtime (b : Byte) : Byte := if b.getLsbD 7 then (b <<< 1) ^^^ 0x1B#8 else b <<< 1

/-- Multiplication in the AES field, by the bits of the second factor. -/
def gmul (a : Byte) : Nat → Byte → Byte
  | 0, _ => 0
  | n + 1, b => (if b.getLsbD 0 then a else 0) ^^^ gmul (xtime a) n (b >>> 1)

def gm (a b : Byte) : Byte := gmul a 8 b

/-- The inverse in the AES field as the 254th power; 0 for 0. -/
def ginv (a : Byte) : Byte :=
  let a2 := gm a a
  let a4 := gm a2 a2
  let a8 := gm a4 a4
  let a16 := gm a8 a8
  let a32 := gm a16 a16
  let a64 := gm a32 a32
  let a128 := gm a64 a64
  gm a2 (gm a4 (gm a8 (gm a16 (gm a32 (gm a64 a128)))))

/-- The AES substitution. -/
def sbox (a : Byte) : Byte :=
  let b := ginv a
  b ^^^ b.rotateLeft 1 ^^^ b.rotateLeft 2 ^^^ b.rotateLeft 3 ^^^ b.rotateLeft 4 ^^^ 0x63#8

/-- Two octet strings combined bit by bit, to the length of the shorter. -/
def xorB (a b : List Byte) : List Byte := List.zipWith (· ^^^ ·) a b

/-- The next key word after the last nk words (newest first), word number i. -/
def nextWord (nk i : Nat) (rcon : Byte) (ws : List (List Byte)) : List Byte :=
  let prev := ws.headD []
  let old := ws.getD (nk - 1) []
  let t :=
    if i % nk = 0 then
      match prev with
      | [a, b, c, d] => [sbox b ^^^ rcon, sbox c, sbox d, sbox a]
      | _ => prev
    else if nk = 8 ∧ i % nk = 4 then prev.map sbox
    else prev
  xorB old t

/-- The key schedule from word i on, n more words, newest first. -/
def expand (nk : Nat) : Nat → Nat → Byte → List (List Byte) → List (List Byte)
  | 0, _, _, ws => ws
  | n + 1, i, rcon, ws =>
      expand nk n (i + 1) (if i % nk = 0 then xtime rcon else rcon) (nextWord nk i rcon ws :: ws)

/-- A string cut into pieces of n, at most k of them. -/
def pieces (n : Nat) : Nat → List Byte → List (List Byte)
  | 0, _ => []
  | k + 1, l => if l.isEmpty then [] else l.take n :: pieces n k (l.drop n)

/-- The round keys of a 16- or 32-octet key, 16 octets each. -/
def roundKeys (key : List Byte) : List (List Byte) :=
  let nk := key.length / 4
  let total := 4 * (nk + 7)
  let ws := (expand nk (total - nk) nk 1 (pieces 4 nk key).reverse).reverse
  pieces 16 (nk + 7) ws.flatten

def shiftRows (s : List Byte) : List Byte := (List.range 16).map fun i => s.getD ((i + 4 * (i % 4)) % 16) 0

/-- One column mixed. -/
def mixCol (a b c d : Byte) : List Byte :=
  [xtime a ^^^ (xtime b ^^^ b) ^^^ c ^^^ d, a ^^^ xtime b ^^^ (xtime c ^^^ c) ^^^ d,
   a ^^^ b ^^^ xtime c ^^^ (xtime d ^^^ d), (xtime a ^^^ a) ^^^ b ^^^ c ^^^ xtime d]

def mixCols (s : List Byte) : List Byte :=
  (pieces 4 4 s).flatMap fun c => mixCol (c.getD 0 0) (c.getD 1 0) (c.getD 2 0) (c.getD 3 0)

/-- The rounds over the remaining round keys; the last one mixes no columns. -/
def rounds : List (List Byte) → List Byte → List Byte
  | [], s => s
  | [k], s => xorB (shiftRows (s.map sbox)) k
  | k :: k' :: t, s => rounds (k' :: t) (xorB (mixCols (shiftRows (s.map sbox))) k)

/-- R215: the AES forward cipher under a 16- or 32-octet key. -/
def aesEnc (key blk : List Byte) : List Byte :=
  match roundKeys key with
  | [] => blk
  | k :: t => rounds t (xorB blk k)

/-- The n low bytes of a zero string. -/
def zeros (n : Nat) : List Byte := List.replicate n 0

/-- A string filled with zeros to a multiple of 16. -/
def pad16 (l : List Byte) : List Byte := l ++ zeros ((16 - l.length % 16) % 16)

/-- A string cut into 16-octet blocks, the last maybe short. -/
def blocks16 (l : List Byte) : List (List Byte) := pieces 16 (l.length / 16 + 1) l

/-- CBC chaining: the last cipher block over a list of blocks, from an initial value. -/
def cbcMac (key : List Byte) (iv : List Byte) : List (List Byte) → List Byte
  | [] => iv
  | b :: t => cbcMac key (aesEnc key (xorB iv b)) t

/-- Doubling in the CMAC field (NIST SP 800-38B). -/
def cmacDbl (l : List Byte) : List Byte :=
  let v := ofBe l * 2
  beBytes 16 (if v / 2 ^ 128 = 1 then (v % 2 ^ 128) ^^^ 0x87 else v)

/-- CMAC of NIST SP 800-38B (R229, R234). -/
def cmac (key msg : List Byte) : List Byte :=
  let k1 := cmacDbl (aesEnc key (zeros 16))
  let k2 := cmacDbl k1
  let n := (msg.length + 15) / 16 - 1
  let head := blocks16 (msg.take (16 * n))
  let last := msg.drop (16 * n)
  let fin := if last.length = 16 then xorB last k1
             else xorB (last ++ [0x80#8] ++ zeros (15 - last.length)) k2
  cbcMac key (zeros 16) ((if n = 0 then [] else head) ++ [fin])

/-- R229: the 32-octet input of one derivation stage. -/
def kdfInput (counter stage : Nat) (ctx : List Byte) (bits : Nat) : List Byte :=
  [BitVec.ofNat 8 counter] ++
  [0x4E#8, 0x4F, 0x52, 0x41, 0x53, 0x54, 0x2D, 0x4B, 0x45, 0x59, 0x2D, BitVec.ofNat 8 (0x30 + stage)] ++
  [0x00#8] ++ fit 0 16 ctx ++ beBytes 2 bits

/-- R229: one derivation stage, 128 bits, or 256 bits in two runs. -/
def kdfStage (key : List Byte) (stage : Nat) (ctx : List Byte) (k256 : Bool) : List Byte :=
  if k256 then cmac key (kdfInput 1 stage ctx 256) ++ cmac key (kdfInput 2 stage ctx 256)
  else cmac key (kdfInput 1 stage ctx 128)

/-- Counter mode from a counter block whose rightmost 32 bits rise modulo 2^32 (R234 CTR). -/
def ctrRun (key : List Byte) (ctr : Nat) : List (List Byte) → List Byte
  | [] => []
  | b :: t =>
      xorB b (aesEnc key (beBytes 16 ctr)) ++
        ctrRun key (ctr / 2 ^ 32 * 2 ^ 32 + (ctr + 1) % 2 ^ 32) t

def ctrMode (key : List Byte) (ctr0 : Nat) (data : List Byte) : List Byte := ctrRun key ctr0 (blocks16 data)

/-- CCM: the first block, the length of the additional data, the counter blocks (NIST SP 800-38C). -/
def ccmB0 (nonce : List Byte) (aadLen dataLen tagLen : Nat) : List Byte :=
  let q := 15 - nonce.length
  [BitVec.ofNat 8 ((if aadLen = 0 then 0 else 64) + (if tagLen = 0 then 0 else (tagLen - 2) / 2 * 8) + (q - 1))] ++
    nonce ++ beBytes q dataLen

def ccmAad (aad : List Byte) : List Byte :=
  if aad.isEmpty then []
  else pad16 ((if aad.length < 0xFF00 then beBytes 2 aad.length else [0xFF#8, 0xFE#8] ++ beBytes 4 aad.length) ++ aad)

def ccmCtr (nonce : List Byte) (i : Nat) : List Byte :=
  [BitVec.ofNat 8 (14 - nonce.length)] ++ nonce ++ beBytes (15 - nonce.length) i

/-- CCM keystream over the data blocks from counter i on. -/
def ccmStream (key nonce : List Byte) (i : Nat) : List (List Byte) → List Byte
  | [] => []
  | b :: t => xorB b (aesEnc key (ccmCtr nonce i)) ++ ccmStream key nonce (i + 1) t

/-- The CCM tag over plaintext, encrypted with S0 and cut to its length. -/
def ccmTag (key nonce aad data : List Byte) (tagLen : Nat) : List Byte :=
  let mac := cbcMac key (zeros 16)
    (blocks16 (ccmB0 nonce aad.length data.length tagLen ++ ccmAad aad ++ pad16 data))
  (xorB mac (aesEnc key (ccmCtr nonce 0))).take tagLen

def ccmCrypt (key nonce data : List Byte) : List Byte := ccmStream key nonce 1 (blocks16 data)

/-- Multiplication in the GCM field, most significant bit first (NIST SP 800-38D). -/
def ghMul : Nat → Nat → Nat → Nat → Nat
  | 0, _, _, z => z
  | n + 1, x, v, z =>
      ghMul n (x * 2 % 2 ^ 128) (if v % 2 = 1 then (v / 2) ^^^ (0xE1 * 2 ^ 120) else v / 2)
        (if x / 2 ^ 127 = 1 then z ^^^ v else z)

def ghash (h : Nat) : Nat → List (List Byte) → Nat
  | y, [] => y
  | y, b :: t => ghash h (ghMul 128 (y ^^^ ofBe b) h 0) t

/-- The GCM tag over additional data and ciphertext, and the GCM keystream. -/
def gcmTag (key iv aad ct : List Byte) (tagLen : Nat) : List Byte :=
  let h := ofBe (aesEnc key (zeros 16))
  let y := ghash h 0 (blocks16 (pad16 aad ++ pad16 ct ++ beBytes 8 (8 * aad.length) ++ beBytes 8 (8 * ct.length)))
  (xorB (beBytes 16 y) (aesEnc key (iv ++ beBytes 4 1))).take tagLen

def gcmCrypt (key iv data : List Byte) : List Byte := ctrMode key (ofBe (iv ++ beBytes 4 2)) data

/-- ECB over whole blocks. -/
def ecbEnc (key data : List Byte) : List Byte := (blocks16 data).flatMap (aesEnc key)

end Sys2Proof.Machine
end

