-- ==== Sys2Proof/Machine/RegsLink.lean ====
section
/-!
DEFINITION. Machine/RegsLink.lean: the LINK, CTX and MAC registers (R179, R181, R213), one field a definition, written from the
spec's register tables: place, width, access code, Keep class, Reset value, stated range, writer.
-/
namespace Sys2Proof.Machine.R

open Sys2Proof

/-- R179 LINK.CTRL.EVQ_IRQ_EN: 1 routes EV_LINK_EVQ to the event matrix. -/
def LINK_CTRL_EVQ_IRQ_EN : Fld :=
  ⟨10, 0x0, 0, 1, .rwl, .w, 0, .any, .any⟩

/-- R179 LINK.CTRL.FAULT_IRQ_EN: 1 routes EV_LINK_FAULT, raised by EVT bits [1:0] and [3], to the event matrix. -/
def LINK_CTRL_FAULT_IRQ_EN : Fld :=
  ⟨10, 0x0, 1, 1, .rwl, .w, 0, .any, .any⟩

/-- R179 LINK.CTRL.REJ_EVT: 1 posts RX_REJECT events. -/
def LINK_CTRL_REJ_EVT : Fld :=
  ⟨10, 0x0, 2, 1, .rwl, .w, 0, .any, .any⟩

/-- R179 LINK.CTRL.LOCK: LOCK bit of LINK, per R8. -/
def LINK_CTRL_LOCK : Fld :=
  ⟨10, 0x0, 31, 1, .w1s, .w, 0, .any, .any⟩

/-- R179 LINK.STAT.CORES: 0 HELD_NOBANK, 1 RUN, 2 RESTART, 3 HELD_FAULT. -/
def LINK_STAT_CORES : Fld :=
  ⟨10, 0x4, 0, 2, .ro, .live, 0, .any, .any⟩

/-- R179 LINK.STAT.YIELD_REQ: Swap waiting for MC_YIELD, per R177. -/
def LINK_STAT_YIELD_REQ : Fld :=
  ⟨10, 0x4, 2, 1, .ro, .live, 0, .any, .any⟩

/-- R179 LINK.STAT.CHECKING: Bank check in progress. -/
def LINK_STAT_CHECKING : Fld :=
  ⟨10, 0x4, 3, 1, .ro, .live, 0, .any, .any⟩

/-- R179 LINK.STAT.C_ARMED: Armed Cirrus events, 0 to 8. -/
def LINK_STAT_C_ARMED : Fld :=
  ⟨10, 0x4, 8, 4, .ro, .live, 0, .any, .any⟩

/-- R179 LINK.STAT.S_ARMED: Armed Stratus events, 0 to 8. -/
def LINK_STAT_S_ARMED : Fld :=
  ⟨10, 0x4, 12, 4, .ro, .live, 0, .any, .any⟩

/-- R179 LINK.EVT.LOCKSTEP: Set under R144. -/
def LINK_EVT_LOCKSTEP : Fld :=
  ⟨10, 0x8, 0, 1, .w1c, .w, 0, .any, .any⟩

/-- R179 LINK.EVT.LS_HELD: Set under R146. -/
def LINK_EVT_LS_HELD : Fld :=
  ⟨10, 0x8, 1, 1, .w1c, .w, 0, .any, .any⟩

/-- R179 LINK.EVT.EVQ_DROP: Set under R173. -/
def LINK_EVT_EVQ_DROP : Fld :=
  ⟨10, 0x8, 2, 1, .w1c, .w, 0, .any, .any⟩

/-- R179 LINK.EVT.VERDICT_OVER: Set under R170. -/
def LINK_EVT_VERDICT_OVER : Fld :=
  ⟨10, 0x8, 3, 1, .w1c, .w, 0, .any, .any⟩

/-- R179 LINK.EVT.MC_SWAPPED: Set under R177. -/
def LINK_EVT_MC_SWAPPED : Fld :=
  ⟨10, 0x8, 4, 1, .w1c, .w, 0, .any, .any⟩

/-- R179 LINK.EVT.MC_REFUSED: Set under R178. -/
def LINK_EVT_MC_REFUSED : Fld :=
  ⟨10, 0x8, 5, 1, .w1c, .w, 0, .any, .any⟩

/-- R179 LINK.EVT.ABANDON: Set under R150. -/
def LINK_EVT_ABANDON : Fld :=
  ⟨10, 0x8, 6, 1, .w1c, .w, 0, .any, .any⟩

/-- R179 LINK.CMD.LS_RELEASE: Releases held cores, per R146. -/
def LINK_CMD_LS_RELEASE : Fld :=
  ⟨10, 0xc, 0, 1, .wo, .w, 0, .any, .any⟩

/-- R179 LINK.EVQ_W0: Head entry word 0, per R171. -/
def LINK_EVQ_W0 : Fld :=
  ⟨10, 0x10, 0, 32, .ro, .w, 0, .any, .any⟩

/-- R179 LINK.EVQ_W1: Head entry word 1. -/
def LINK_EVQ_W1 : Fld :=
  ⟨10, 0x14, 0, 32, .ro, .w, 0, .any, .any⟩

/-- R179 LINK.EVQ_W2: Head entry word 2. -/
def LINK_EVQ_W2 : Fld :=
  ⟨10, 0x18, 0, 32, .ro, .w, 0, .any, .any⟩

/-- R179 LINK.EVQ_W3: Head entry word 3. -/
def LINK_EVQ_W3 : Fld :=
  ⟨10, 0x1c, 0, 32, .ro, .w, 0, .any, .any⟩

/-- R179 LINK.EVQ_CMD.POP: Removes the head entry. -/
def LINK_EVQ_CMD_POP : Fld :=
  ⟨10, 0x20, 0, 1, .wo, .w, 0, .any, .any⟩

/-- R179 LINK.EVQ_STAT.LEVEL: Entries in the queue, 0 to 64. -/
def LINK_EVQ_STAT_LEVEL : Fld :=
  ⟨10, 0x24, 0, 7, .ro, .live, 0, .any, .any⟩

/-- R179 LINK.EVQ_STAT.DROP_CNT: Events lost; saturates at 0xFFFF. -/
def LINK_EVQ_STAT_DROP_CNT : Fld :=
  ⟨10, 0x24, 16, 16, .ro, .w, 0, .any, .any⟩

/-- R179 LINK.EVQ_CFG.THRESH: EV_LINK_EVQ level, 1 to 63. -/
def LINK_EVQ_CFG_THRESH : Fld :=
  ⟨10, 0x28, 0, 6, .rw, .w, 1, .between 1 63, .any⟩

/-- R179 LINK.MC_CMD.SWAP: Requests a swap, per R177. -/
def LINK_MC_CMD_SWAP : Fld :=
  ⟨10, 0x30, 0, 1, .wo, .w, 0, .any, .any⟩

/-- R179 LINK.MC_STAT.ACTIVE: 0 NONE, 1 bank 0, 2 bank 1. -/
def LINK_MC_STAT_ACTIVE : Fld :=
  ⟨10, 0x34, 0, 2, .ro, .w, 0, .any, .any⟩

/-- R179 LINK.MC_STAT.REASON: Per R178. -/
def LINK_MC_STAT_REASON : Fld :=
  ⟨10, 0x34, 4, 4, .ro, .w, 0, .any, .any⟩

/-- R179 LINK.MC_VERSION: VERSION of the active image. -/
def LINK_MC_VERSION : Fld :=
  ⟨10, 0x38, 0, 32, .ro, .w, 0, .any, .any⟩

/-- R179 LINK.MC_YIELD: Quiescent point; link cores. -/
def LINK_MC_YIELD : Fld :=
  ⟨10, 0x3c, 0, 1, .wo, .w, 0, .any, .link⟩

/-- R179 LINK.MC_KEEP_n: Microcode state kept over restarts and swaps; link cores. -/
def LINK_MC_KEEP (n : Nat) : Fld :=
  ⟨10, (0x40 + n * 0x4), 0, 32, .rw, .w, 0, .any, .link⟩

/-- R179 LINK.LS_CNT.TOTAL: Lockstep mismatches; saturates at 0xFFFF. -/
def LINK_LS_CNT_TOTAL : Fld :=
  ⟨10, 0x80, 0, 16, .ro, .w, 0, .any, .any⟩

/-- R179 LINK.LS_CNT.RECENT: Mismatches in the last 1 s. -/
def LINK_LS_CNT_RECENT : Fld :=
  ⟨10, 0x80, 16, 4, .ro, .w, 0, .any, .any⟩

/-- R179 LINK.LS_PC: Leading core's program counter at the last mismatch. -/
def LINK_LS_PC : Fld :=
  ⟨10, 0x84, 0, 32, .ro, .w, 0, .any, .any⟩

/-- R179 LINK.VLAT.LAST: Last verdict latency, LINK_TIME units; saturates at 255. -/
def LINK_VLAT_LAST : Fld :=
  ⟨10, 0x90, 0, 8, .ro, .w, 0, .any, .any⟩

/-- R179 LINK.VLAT.MAX: Largest latency since clear; saturates at 255. -/
def LINK_VLAT_MAX : Fld :=
  ⟨10, 0x90, 8, 8, .ro, .w, 0, .any, .any⟩

/-- R179 LINK.VLAT.CLEAR: 1 clears MAX. -/
def LINK_VLAT_CLEAR : Fld :=
  ⟨10, 0x90, 31, 1, .wo, .w, 0, .any, .any⟩

/-- R179 LINK.CNT_ABANDON.NO_BUF: Per R150; saturates at 0xFFFF. -/
def LINK_CNT_ABANDON_NO_BUF : Fld :=
  ⟨10, 0x94, 0, 16, .ro, .w, 0, .any, .any⟩

/-- R179 LINK.CNT_ABANDON.NO_EVQ: Per R150; saturates at 0xFFFF. -/
def LINK_CNT_ABANDON_NO_EVQ : Fld :=
  ⟨10, 0x94, 16, 16, .ro, .w, 0, .any, .any⟩

/-- R179 LINK.VCNT_v: Verdicts with code v; saturates at 0xFFFF_FFFF. -/
def LINK_VCNT (n : Nat) : Fld :=
  ⟨10, (0xa0 + n * 0x4), 0, 32, .ro, .w, 0, .any, .any⟩

/-- R179 LINK.APPCMD_0: Command word to link microcode. -/
def LINK_APPCMD_0 : Fld :=
  ⟨10, 0xc0, 0, 32, .rw, .w, 0, .any, .any⟩

/-- R179 LINK.APPCMD_1: As APPCMD_0. -/
def LINK_APPCMD_1 : Fld :=
  ⟨10, 0xc4, 0, 32, .rw, .w, 0, .any, .any⟩

/-- R179 LINK.APPCMD_2: As APPCMD_0. -/
def LINK_APPCMD_2 : Fld :=
  ⟨10, 0xc8, 0, 32, .rw, .w, 0, .any, .any⟩

/-- R179 LINK.APPCMD_3: As APPCMD_0. -/
def LINK_APPCMD_3 : Fld :=
  ⟨10, 0xcc, 0, 32, .rw, .w, 0, .any, .any⟩

/-- R179 LINK.APPCMD_GO: Hands APPCMD_0 to APPCMD_3 to link microcode. -/
def LINK_APPCMD_GO : Fld :=
  ⟨10, 0xd0, 0, 1, .wo, .w, 0, .any, .any⟩

/-- R179 LINK.APPCMD_STAT.BUSY: Set by APPCMD_GO; cleared by APPCMD_DONE. -/
def LINK_APPCMD_STAT_BUSY : Fld :=
  ⟨10, 0xd4, 0, 1, .ro, .w, 0, .any, .any⟩

/-- R179 LINK.APPCMD_STAT.RESULT: Result written through APPCMD_DONE. -/
def LINK_APPCMD_STAT_RESULT : Fld :=
  ⟨10, 0xd4, 8, 8, .ro, .w, 0, .any, .any⟩

/-- R179 LINK.APPCMD_DONE.RESULT: Link cores; sets RESULT and clears BUSY. -/
def LINK_APPCMD_DONE_RESULT : Fld :=
  ⟨10, 0xd8, 0, 8, .wo, .w, 0, .any, .any⟩

/-- R179 LINK.MC_POST_0: Word 0 of an MCODE event; link cores. -/
def LINK_MC_POST_0 : Fld :=
  ⟨10, 0xe0, 0, 32, .rw, .w, 0, .any, .link⟩

/-- R179 LINK.MC_POST_1: Word 1; link cores. -/
def LINK_MC_POST_1 : Fld :=
  ⟨10, 0xe4, 0, 32, .rw, .w, 0, .any, .link⟩

/-- R179 LINK.MC_POST_2: Word 2; link cores. -/
def LINK_MC_POST_2 : Fld :=
  ⟨10, 0xe8, 0, 32, .rw, .w, 0, .any, .link⟩

/-- R179 LINK.MC_POST_3: Word 3; link cores. -/
def LINK_MC_POST_3 : Fld :=
  ⟨10, 0xec, 0, 32, .rw, .w, 0, .any, .link⟩

/-- R179 LINK.MC_POST_GO: Posts MC_POST_0 to MC_POST_3 as an entry; link cores. -/
def LINK_MC_POST_GO : Fld :=
  ⟨10, 0xf0, 0, 1, .wo, .w, 0, .any, .link⟩

/-- R181 CTX.CTRL.SCRUB_INT: Scrub interval in ms, per R162; 0 stops the scrubber. -/
def CTX_CTRL_SCRUB_INT : Fld :=
  ⟨11, 0x0, 0, 8, .rwl, .w, 16, .any, .any⟩

/-- R181 CTX.CTRL.LOCK: LOCK bit of CTX, per R8. -/
def CTX_CTRL_LOCK : Fld :=
  ⟨11, 0x0, 31, 1, .w1s, .w, 0, .any, .any⟩

/-- R181 CTX.PART.CIRRUS_N: FP.CONTEXTS.CIRRUS_N. -/
def CTX_PART_CIRRUS_N : Fld :=
  ⟨11, 0x4, 0, 9, .rwf, .f, 128, .any, .any⟩

/-- R181 CTX.PART.STRATUS_N: FP.CONTEXTS.STRATUS_N. -/
def CTX_PART_STRATUS_N : Fld :=
  ⟨11, 0x4, 16, 9, .rwf, .f, 128, .any, .any⟩

/-- R181 CTX.CAP_0.LE_ADV_MAX: FP.CONTEXTS.LE_ADV_MAX. -/
def CTX_CAP_0_LE_ADV_MAX : Fld :=
  ⟨11, 0x8, 0, 9, .rwf, .f, 4, .any, .any⟩

/-- R181 CTX.CAP_0.LE_CONN_MAX: FP.CONTEXTS.LE_CONN_MAX. -/
def CTX_CAP_0_LE_CONN_MAX : Fld :=
  ⟨11, 0x8, 16, 9, .rwf, .f, 64, .any, .any⟩

/-- R181 CTX.CAP_1.OQPSK_MAX: FP.CONTEXTS.OQPSK_MAX. -/
def CTX_CAP_1_OQPSK_MAX : Fld :=
  ⟨11, 0xc, 0, 9, .rwf, .f, 60, .any, .any⟩

/-- R181 CTX.CAP_1.MESH_NBR_MAX: FP.CONTEXTS.MESH_NBR_MAX. -/
def CTX_CAP_1_MESH_NBR_MAX : Fld :=
  ⟨11, 0xc, 16, 9, .rwf, .f, 112, .any, .any⟩

/-- R181 CTX.CAP_2.MESH_GRP_MAX: FP.CONTEXTS.MESH_GRP_MAX. -/
def CTX_CAP_2_MESH_GRP_MAX : Fld :=
  ⟨11, 0x10, 0, 9, .rwf, .f, 16, .any, .any⟩

/-- R181 CTX.USE_0.LE_ADV: LE_ADV contexts not FREE. -/
def CTX_USE_0_LE_ADV : Fld :=
  ⟨11, 0x14, 0, 9, .ro, .live, 0, .any, .any⟩

/-- R181 CTX.USE_0.LE_CONN: LE_CONN contexts not FREE. -/
def CTX_USE_0_LE_CONN : Fld :=
  ⟨11, 0x14, 16, 9, .ro, .live, 0, .any, .any⟩

/-- R181 CTX.USE_1.OQPSK: OQPSK_PEER contexts not FREE. -/
def CTX_USE_1_OQPSK : Fld :=
  ⟨11, 0x18, 0, 9, .ro, .live, 0, .any, .any⟩

/-- R181 CTX.USE_1.MESH_NBR: MESH_NBR contexts not FREE. -/
def CTX_USE_1_MESH_NBR : Fld :=
  ⟨11, 0x18, 16, 9, .ro, .live, 0, .any, .any⟩

/-- R181 CTX.USE_2.MESH_GRP: MESH_GRP contexts not FREE. -/
def CTX_USE_2_MESH_GRP : Fld :=
  ⟨11, 0x1c, 0, 9, .ro, .live, 0, .any, .any⟩

/-- R181 CTX.ALLOC_CMD.TYPE: Allocates a context, per R158; link cores. -/
def CTX_ALLOC_CMD_TYPE : Fld :=
  ⟨11, 0x20, 0, 3, .wo, .w, 0, .any, .link⟩

/-- R181 CTX.ALLOC_RES.INDEX: Index allocated. -/
def CTX_ALLOC_RES_INDEX : Fld :=
  ⟨11, 0x24, 0, 8, .ro, .w, 0, .any, .any⟩

/-- R181 CTX.ALLOC_RES.RESULT: Per the table under R158. -/
def CTX_ALLOC_RES_RESULT : Fld :=
  ⟨11, 0x24, 8, 3, .ro, .w, 0, .any, .any⟩

/-- R181 CTX.FREE_CMD.INDEX: Context to free; link cores. -/
def CTX_FREE_CMD_INDEX : Fld :=
  ⟨11, 0x28, 0, 8, .wo, .w, 0, .any, .link⟩

/-- R181 CTX.FREE_CMD.GO: 1 starts the free, per R159. -/
def CTX_FREE_CMD_GO : Fld :=
  ⟨11, 0x28, 31, 1, .wo, .w, 0, .any, .any⟩

/-- R181 CTX.FREE_STAT.BUSY: Free in progress. -/
def CTX_FREE_STAT_BUSY : Fld :=
  ⟨11, 0x2c, 0, 1, .ro, .live, 0, .any, .any⟩

/-- R181 CTX.ECC_CNT.CORR: Corrected words; saturates at 0xFFFF. -/
def CTX_ECC_CNT_CORR : Fld :=
  ⟨11, 0x30, 0, 16, .ro, .w, 0, .any, .any⟩

/-- R181 CTX.ECC_CNT.UNCORR: Uncorrectable words; saturates at 0xFFFF. -/
def CTX_ECC_CNT_UNCORR : Fld :=
  ⟨11, 0x30, 16, 16, .ro, .w, 0, .any, .any⟩

/-- R181 CTX.ECC_LOG.INDEX: Context of the first logged error. -/
def CTX_ECC_LOG_INDEX : Fld :=
  ⟨11, 0x34, 0, 8, .ro, .w, 0, .any, .any⟩

/-- R181 CTX.ECC_LOG.WORD: Word 0 to 15 within it. -/
def CTX_ECC_LOG_WORD : Fld :=
  ⟨11, 0x34, 8, 4, .ro, .w, 0, .any, .any⟩

/-- R181 CTX.ECC_LOG.UNCORR: 1 for an uncorrectable word. -/
def CTX_ECC_LOG_UNCORR : Fld :=
  ⟨11, 0x34, 12, 1, .ro, .w, 0, .any, .any⟩

/-- R181 CTX.ECC_LOG.VALID: Log holds a record; 1 clears the log. -/
def CTX_ECC_LOG_VALID : Fld :=
  ⟨11, 0x34, 31, 1, .w1c, .w, 0, .any, .any⟩

/-- R181 CTX.STATUS.REPARTITIONED: Set under R163. -/
def CTX_STATUS_REPARTITIONED : Fld :=
  ⟨11, 0x38, 0, 1, .w1c, .w, 0, .any, .any⟩

/-- R181 CTX.FAULTED_n: Contexts made FAULTED; cleared by R159. -/
def CTX_FAULTED (n : Nat) : Fld :=
  ⟨11, (0x40 + n * 0x4), 0, 32, .ro, .t, 0, .any, .any⟩

/-- R181 CTX.INUSE_n: Contexts not FREE. -/
def CTX_INUSE (n : Nat) : Fld :=
  ⟨11, (0x60 + n * 0x4), 0, 32, .ro, .live, 0, .any, .any⟩

/-- R181 CTX.SNAP_CMD.INDEX: Context to snapshot. -/
def CTX_SNAP_CMD_INDEX : Fld :=
  ⟨11, 0x80, 0, 8, .wo, .w, 0, .any, .any⟩

/-- R181 CTX.SNAP_CMD.GO: 1 takes the snapshot, per R161. -/
def CTX_SNAP_CMD_GO : Fld :=
  ⟨11, 0x80, 31, 1, .wo, .w, 0, .any, .any⟩

/-- R181 CTX.SNAP_STAT.DONE: Snapshot complete; cleared by the next SNAP_CMD. -/
def CTX_SNAP_STAT_DONE : Fld :=
  ⟨11, 0x84, 0, 1, .ro, .w, 0, .any, .any⟩

/-- R181 CTX.SNAP_STAT.UNCORR: Snapshot holds an uncorrectable word. -/
def CTX_SNAP_STAT_UNCORR : Fld :=
  ⟨11, 0x84, 1, 1, .ro, .w, 0, .any, .any⟩

/-- R181 CTX.SNAP_STAT.INDEX: Context in the snapshot. -/
def CTX_SNAP_STAT_INDEX : Fld :=
  ⟨11, 0x84, 8, 8, .ro, .w, 0, .any, .any⟩

/-- R181 CTX.SNAP_m: Snapshot bytes 4m to 4m + 3. -/
def CTX_SNAP (n : Nat) : Fld :=
  ⟨11, (0x100 + n * 0x4), 0, 32, .ro, .w, 0, .any, .any⟩

/-- R213 MAC.CTRL.IRQ_EN: 1 routes EV_MAC, raised by any EVT bit, to the event matrix. -/
def MAC_CTRL_IRQ_EN : Fld :=
  ⟨12, 0x0, 0, 1, .rwl, .w, 0, .any, .any⟩

/-- R213 MAC.CTRL.LOCK: LOCK bit of MAC, per R8. -/
def MAC_CTRL_LOCK : Fld :=
  ⟨12, 0x0, 31, 1, .w1s, .w, 0, .any, .any⟩

/-- R213 MAC.EVT.ARM_REFUSED: An arm ended in a result other than OK. -/
def MAC_EVT_ARM_REFUSED : Fld :=
  ⟨12, 0x8, 0, 1, .w1c, .w, 0, .any, .any⟩

/-- R213 MAC.EVT.ACK_SUPP: Set under R191. -/
def MAC_EVT_ACK_SUPP : Fld :=
  ⟨12, 0x8, 1, 1, .w1c, .w, 0, .any, .any⟩

/-- R213 MAC.EVT.DUTY_REFUSED: Set under R208. -/
def MAC_EVT_DUTY_REFUSED : Fld :=
  ⟨12, 0x8, 2, 1, .w1c, .w, 0, .any, .any⟩

/-- R213 MAC.EVT.FT_OUTLIER: Set under R201. -/
def MAC_EVT_FT_OUTLIER : Fld :=
  ⟨12, 0x8, 3, 1, .w1c, .w, 0, .any, .any⟩

/-- R213 MAC.EVT.FT_STEP: Set under R201. -/
def MAC_EVT_FT_STEP : Fld :=
  ⟨12, 0x8, 4, 1, .w1c, .w, 0, .any, .any⟩

/-- R213 MAC.EVT.TX_CTR_LIMIT: Set under R198. -/
def MAC_EVT_TX_CTR_LIMIT : Fld :=
  ⟨12, 0x8, 5, 1, .w1c, .w, 0, .any, .any⟩

/-- R213 MAC.ARM_0: Descriptor word, per R183; link cores. -/
def MAC_ARM_0 : Fld :=
  ⟨12, 0x10, 0, 32, .rw, .w, 0, .any, .link⟩

/-- R213 MAC.ARM_1: As ARM_0. -/
def MAC_ARM_1 : Fld :=
  ⟨12, 0x14, 0, 32, .rw, .w, 0, .any, .link⟩

/-- R213 MAC.ARM_2: As ARM_0. -/
def MAC_ARM_2 : Fld :=
  ⟨12, 0x18, 0, 32, .rw, .w, 0, .any, .link⟩

/-- R213 MAC.ARM_3: As ARM_0. -/
def MAC_ARM_3 : Fld :=
  ⟨12, 0x1c, 0, 32, .rw, .w, 0, .any, .link⟩

/-- R213 MAC.ARM_4: As ARM_0. -/
def MAC_ARM_4 : Fld :=
  ⟨12, 0x20, 0, 32, .rw, .w, 0, .any, .link⟩

/-- R213 MAC.ARM_GO: Arms the descriptor; link cores. -/
def MAC_ARM_GO : Fld :=
  ⟨12, 0x24, 0, 1, .wo, .w, 0, .any, .link⟩

/-- R213 MAC.ARM_RES.RESULT: Per R185. -/
def MAC_ARM_RES_RESULT : Fld :=
  ⟨12, 0x28, 0, 3, .ro, .w, 0, .any, .any⟩

/-- R213 MAC.ARM_RES.HANDLE: Handle of the armed event. -/
def MAC_ARM_RES_HANDLE : Fld :=
  ⟨12, 0x28, 4, 4, .ro, .w, 0, .any, .any⟩

/-- R213 MAC.CANCEL.HANDLE: Event to cancel; link cores. -/
def MAC_CANCEL_HANDLE : Fld :=
  ⟨12, 0x2c, 0, 4, .wo, .w, 0, .any, .link⟩

/-- R213 MAC.CANCEL.GO: 1 cancels, per R186. -/
def MAC_CANCEL_GO : Fld :=
  ⟨12, 0x2c, 31, 1, .wo, .w, 0, .any, .any⟩

/-- R213 MAC.GAP.LE_US: LE gap, 100 to 1000 µs. -/
def MAC_GAP_LE_US : Fld :=
  ⟨12, 0x30, 0, 10, .rw, .w, 150, .between 100 1000, .any⟩

/-- R213 MAC.GAP.OQPSK_US: O-QPSK gap, 100 to 1000 µs. -/
def MAC_GAP_OQPSK_US : Fld :=
  ⟨12, 0x30, 16, 10, .rw, .w, 192, .between 100 1000, .any⟩

/-- R213 MAC.GAP2.MESH_US: Mesh gap, 100 to 1000 µs. -/
def MAC_GAP2_MESH_US : Fld :=
  ⟨12, 0x34, 0, 10, .rw, .c, 400, .between 100 1000, .any⟩

/-- R213 MAC.GAP2.ACK_TOL: Acknowledgement wait tolerance, 1 to 255 µs, per R193. -/
def MAC_GAP2_ACK_TOL : Fld :=
  ⟨12, 0x34, 16, 8, .rw, .c, 16, .between 1 255, .any⟩

/-- R213 MAC.ACK_CFG.EXP_LEN_C: Expected Cirrus acknowledgement, octets. -/
def MAC_ACK_CFG_EXP_LEN_C : Fld :=
  ⟨12, 0x38, 0, 8, .rw, .w, 5, .any, .any⟩

/-- R213 MAC.ACK_CFG.EXP_LEN_S: Expected Stratus acknowledgement, octets. -/
def MAC_ACK_CFG_EXP_LEN_S : Fld :=
  ⟨12, 0x38, 8, 8, .rw, .c, 24, .any, .any⟩

/-- R213 MAC.MESH_CFG.SLOT_US: Slot duration, 1000 to 65 535 µs. -/
def MAC_MESH_CFG_SLOT_US : Fld :=
  ⟨12, 0x40, 0, 16, .rw, .c, 10000, .between 1000 65535, .any⟩

/-- R213 MAC.MESH_CFG.TX_OFS_US: Sender offset in the slot, µs. -/
def MAC_MESH_CFG_TX_OFS_US : Fld :=
  ⟨12, 0x40, 16, 16, .rw, .c, 1000, .any, .any⟩

/-- R213 MAC.MESH_CFG2.SF_LEN: Slots per slotframe, 1 to 4095. -/
def MAC_MESH_CFG2_SF_LEN : Fld :=
  ⟨12, 0x44, 0, 12, .rw, .c, 128, .between 1 4095, .any⟩

/-- R213 MAC.MESH_CFG2.HOP_LEN: Hopping sequence length, 1 to 16. -/
def MAC_MESH_CFG2_HOP_LEN : Fld :=
  ⟨12, 0x44, 16, 5, .rw, .c, 1, .between 1 16, .any⟩

/-- R213 MAC.MESH_CFG2.PRE_LEN: Peers' preamble octets for R201, 4 to 1000. -/
def MAC_MESH_CFG2_PRE_LEN : Fld :=
  ⟨12, 0x44, 22, 10, .rw, .c, 8, .between 4 1000, .any⟩

/-- R213 MAC.GUARD.G_FIX_US: Fixed guard, µs. -/
def MAC_GUARD_G_FIX_US : Fld :=
  ⟨12, 0x48, 0, 8, .rw, .c, 60, .any, .any⟩

/-- R213 MAC.GUARD.G_MAX_US: Largest computed guard, µs. -/
def MAC_GUARD_G_MAX_US : Fld :=
  ⟨12, 0x48, 16, 16, .rw, .c, 900, .any, .any⟩

/-- R213 MAC.SUN_PLAN.CH0_KHZ: Frequency of channel 0. -/
def MAC_SUN_PLAN_CH0_KHZ : Fld :=
  ⟨12, 0x4c, 0, 20, .rw, .c, 863125, .any, .any⟩

/-- R213 MAC.SUN_PLAN.SPACING_25K: Channel spacing in 25 kHz units, 1 to 255. -/
def MAC_SUN_PLAN_SPACING_25K : Fld :=
  ⟨12, 0x4c, 24, 8, .rw, .c, 8, .between 1 255, .any⟩

/-- R213 MAC.HOPSEQ_k: Four channel numbers, per R199. -/
def MAC_HOPSEQ (n : Nat) : Fld :=
  ⟨12, (0x50 + n * 0x4), 0, 32, .rw, .c, 0, .any, .any⟩

/-- R213 MAC.FT_OFS_LO: MAC.FT_OFS[31:0]; link cores; per R203. -/
def MAC_FT_OFS_LO : Fld :=
  ⟨12, 0x60, 0, 32, .rw, .c, 0, .any, .link⟩

/-- R213 MAC.FT_OFS_HI: MAC.FT_OFS[63:32]; link cores; commits both halves. -/
def MAC_FT_OFS_HI : Fld :=
  ⟨12, 0x64, 0, 32, .rw, .c, 0, .any, .link⟩

/-- R213 MAC.FT_CFG.PARENT: Context of the time parent; link cores. -/
def MAC_FT_CFG_PARENT : Fld :=
  ⟨12, 0x68, 0, 8, .rw, .c, 0, .any, .link⟩

/-- R213 MAC.FT_CFG.PARENT_EN: Fleet time taken from the parent. -/
def MAC_FT_CFG_PARENT_EN : Fld :=
  ⟨12, 0x68, 8, 1, .rw, .c, 0, .any, .any⟩

/-- R213 MAC.FT_CFG.STEP_MAX_US: Largest correction applied directly, µs. -/
def MAC_FT_CFG_STEP_MAX_US : Fld :=
  ⟨12, 0x68, 16, 16, .rw, .c, 1000, .any, .any⟩

/-- R213 MAC.FT_STAT.STRATUM: Own stratum. -/
def MAC_FT_STAT_STRATUM : Fld :=
  ⟨12, 0x6c, 0, 4, .ro, .c, 15, .any, .any⟩

/-- R213 MAC.FT_STAT.VALID: A correction has been applied since the Cellar restarted. -/
def MAC_FT_STAT_VALID : Fld :=
  ⟨12, 0x6c, 4, 1, .ro, .c, 0, .any, .any⟩

/-- R213 MAC.FT_ERR: Last E, signed LINK_TIME units, saturating. -/
def MAC_FT_ERR : Fld :=
  ⟨12, 0x70, 0, 32, .ro, .c, 0, .any, .any⟩

/-- R213 MAC.FT_CNT.APPLIED: Corrections applied; saturates at 0xFFFF. -/
def MAC_FT_CNT_APPLIED : Fld :=
  ⟨12, 0x74, 0, 16, .ro, .c, 0, .any, .any⟩

/-- R213 MAC.FT_CNT.OUTLIER: Outliers; saturates at 0xFFFF. -/
def MAC_FT_CNT_OUTLIER : Fld :=
  ⟨12, 0x74, 16, 16, .ro, .c, 0, .any, .any⟩

/-- R213 MAC.FT_AGE: ms since the last applied correction; saturates. -/
def MAC_FT_AGE : Fld :=
  ⟨12, 0x78, 0, 32, .ro, .live, 0, .any, .any⟩

/-- R213 MAC.WAKE.LEAD_US: Wake lead, per R205. -/
def MAC_WAKE_LEAD_US : Fld :=
  ⟨12, 0x7c, 0, 12, .rw, .c, 500, .any, .any⟩

/-- R213 MAC.FT_SNAP_LO: Fleet time [31:0] at the snapshot. -/
def MAC_FT_SNAP_LO : Fld :=
  ⟨12, 0x80, 0, 32, .ro, .w, 0, .any, .any⟩

/-- R213 MAC.FT_SNAP_HI: Fleet time [63:32]. -/
def MAC_FT_SNAP_HI : Fld :=
  ⟨12, 0x84, 0, 32, .ro, .w, 0, .any, .any⟩

/-- R213 MAC.ASN_SNAP_LO: ASN [31:0] at the snapshot. -/
def MAC_ASN_SNAP_LO : Fld :=
  ⟨12, 0x88, 0, 32, .ro, .w, 0, .any, .any⟩

/-- R213 MAC.ASN_SNAP_HI: ASN [39:32]. -/
def MAC_ASN_SNAP_HI : Fld :=
  ⟨12, 0x8c, 0, 8, .ro, .w, 0, .any, .any⟩

/-- R213 MAC.ACK_SUPP.GNT: Suppressed with STEP 1; saturates. -/
def MAC_ACK_SUPP_GNT : Fld :=
  ⟨12, 0x90, 0, 16, .ro, .w, 0, .any, .any⟩

/-- R213 MAC.ACK_SUPP.DUTY: Suppressed with STEP 2; saturates. -/
def MAC_ACK_SUPP_DUTY : Fld :=
  ⟨12, 0x90, 16, 16, .ro, .w, 0, .any, .any⟩

/-- R213 MAC.ACK_SUPP.LATE: Suppressed with STEP 3; saturates. -/
def MAC_ACK_SUPP_LATE : Fld :=
  ⟨12, 0x94, 0, 16, .ro, .w, 0, .any, .any⟩

/-- R213 MAC.ACK_SENT: Acknowledgements sent; saturates. -/
def MAC_ACK_SENT : Fld :=
  ⟨12, 0x94, 16, 16, .ro, .w, 0, .any, .any⟩

/-- R213 MAC.DUTY_n.BAND.LO_KHZ: FP.DUTY.BAND_LO; 0 disables the band. -/
def MAC_DUTY_BAND_LO_KHZ (n : Nat) : Fld :=
  ⟨12, (0x100 + n * 0x20), 0, 22, .rwf, .f, 0, .any, .any⟩

/-- R213 MAC.DUTY_n.BAND_HI.HI_KHZ: FP.DUTY.BAND_HI. -/
def MAC_DUTY_BAND_HI_HI_KHZ (n : Nat) : Fld :=
  ⟨12, (0x104 + n * 0x20), 0, 22, .rwf, .f, 0, .any, .any⟩

/-- R213 MAC.DUTY_n.BAND_HI.MAX_DBM: FP.DUTY.MAX_DBM, signed. -/
def MAC_DUTY_BAND_HI_MAX_DBM (n : Nat) : Fld :=
  ⟨12, (0x104 + n * 0x20), 24, 8, .rwf, .f, 0, .any, .any⟩

/-- R213 MAC.DUTY_n.WINDOW.S: FP.DUTY.WINDOW_S. -/
def MAC_DUTY_WINDOW_S (n : Nat) : Fld :=
  ⟨12, (0x108 + n * 0x20), 0, 12, .rwf, .f, 3600, .any, .any⟩

/-- R213 MAC.DUTY_n.WINDOW.FULL: One window has passed, per R209. -/
def MAC_DUTY_WINDOW_FULL (n : Nat) : Fld :=
  ⟨12, (0x108 + n * 0x20), 31, 1, .ro, .c, 0, .any, .any⟩

/-- R213 MAC.DUTY_n.BUDGET: FP.DUTY.BUDGET_US. -/
def MAC_DUTY_BUDGET (n : Nat) : Fld :=
  ⟨12, (0x10c + n * 0x20), 0, 32, .rwf, .f, 0, .any, .any⟩

/-- R213 MAC.DUTY_n.EARNED: µs earned, per R209. -/
def MAC_DUTY_EARNED (n : Nat) : Fld :=
  ⟨12, (0x110 + n * 0x20), 0, 32, .ro, .c, 0, .any, .any⟩

/-- R213 MAC.DUTY_n.SPENT: µs in the 65 buckets. -/
def MAC_DUTY_SPENT (n : Nat) : Fld :=
  ⟨12, (0x114 + n * 0x20), 0, 32, .ro, .c, 0, .any, .any⟩

/-- R213 MAC.DUTY_n.AVAIL: Signed µs available, per R208. -/
def MAC_DUTY_AVAIL (n : Nat) : Fld :=
  ⟨12, (0x118 + n * 0x20), 0, 32, .ro, .c, 0, .any, .any⟩

/-- R213 MAC.DUTY_n.REFUSED.TX: Transmissions refused; saturates. -/
def MAC_DUTY_REFUSED_TX (n : Nat) : Fld :=
  ⟨12, (0x11c + n * 0x20), 0, 16, .ro, .c, 0, .any, .any⟩

/-- R213 MAC.DUTY_n.REFUSED.ACK: Acknowledgements refused; saturates. -/
def MAC_DUTY_REFUSED_ACK (n : Nat) : Fld :=
  ⟨12, (0x11c + n * 0x20), 16, 16, .ro, .c, 0, .any, .any⟩

/-- The fields of LINK, by offset. -/
def rowsLINK : List Row :=
  [
  ⟨0x0, 4, 1, fun _ => LINK_CTRL_EVQ_IRQ_EN⟩,
  ⟨0x0, 4, 1, fun _ => LINK_CTRL_FAULT_IRQ_EN⟩,
  ⟨0x0, 4, 1, fun _ => LINK_CTRL_REJ_EVT⟩,
  ⟨0x0, 4, 1, fun _ => LINK_CTRL_LOCK⟩,
  ⟨0x4, 4, 1, fun _ => LINK_STAT_CORES⟩,
  ⟨0x4, 4, 1, fun _ => LINK_STAT_YIELD_REQ⟩,
  ⟨0x4, 4, 1, fun _ => LINK_STAT_CHECKING⟩,
  ⟨0x4, 4, 1, fun _ => LINK_STAT_C_ARMED⟩,
  ⟨0x4, 4, 1, fun _ => LINK_STAT_S_ARMED⟩,
  ⟨0x8, 4, 1, fun _ => LINK_EVT_LOCKSTEP⟩,
  ⟨0x8, 4, 1, fun _ => LINK_EVT_LS_HELD⟩,
  ⟨0x8, 4, 1, fun _ => LINK_EVT_EVQ_DROP⟩,
  ⟨0x8, 4, 1, fun _ => LINK_EVT_VERDICT_OVER⟩,
  ⟨0x8, 4, 1, fun _ => LINK_EVT_MC_SWAPPED⟩,
  ⟨0x8, 4, 1, fun _ => LINK_EVT_MC_REFUSED⟩,
  ⟨0x8, 4, 1, fun _ => LINK_EVT_ABANDON⟩,
  ⟨0xc, 4, 1, fun _ => LINK_CMD_LS_RELEASE⟩,
  ⟨0x10, 4, 1, fun _ => LINK_EVQ_W0⟩,
  ⟨0x14, 4, 1, fun _ => LINK_EVQ_W1⟩,
  ⟨0x18, 4, 1, fun _ => LINK_EVQ_W2⟩,
  ⟨0x1c, 4, 1, fun _ => LINK_EVQ_W3⟩,
  ⟨0x20, 4, 1, fun _ => LINK_EVQ_CMD_POP⟩,
  ⟨0x24, 4, 1, fun _ => LINK_EVQ_STAT_LEVEL⟩,
  ⟨0x24, 4, 1, fun _ => LINK_EVQ_STAT_DROP_CNT⟩] ++ [
  ⟨0x28, 4, 1, fun _ => LINK_EVQ_CFG_THRESH⟩,
  ⟨0x30, 4, 1, fun _ => LINK_MC_CMD_SWAP⟩,
  ⟨0x34, 4, 1, fun _ => LINK_MC_STAT_ACTIVE⟩,
  ⟨0x34, 4, 1, fun _ => LINK_MC_STAT_REASON⟩,
  ⟨0x38, 4, 1, fun _ => LINK_MC_VERSION⟩,
  ⟨0x3c, 4, 1, fun _ => LINK_MC_YIELD⟩,
  ⟨0x40, 4, 16, fun n => LINK_MC_KEEP n⟩,
  ⟨0x80, 4, 1, fun _ => LINK_LS_CNT_TOTAL⟩,
  ⟨0x80, 4, 1, fun _ => LINK_LS_CNT_RECENT⟩,
  ⟨0x84, 4, 1, fun _ => LINK_LS_PC⟩,
  ⟨0x90, 4, 1, fun _ => LINK_VLAT_LAST⟩,
  ⟨0x90, 4, 1, fun _ => LINK_VLAT_MAX⟩,
  ⟨0x90, 4, 1, fun _ => LINK_VLAT_CLEAR⟩,
  ⟨0x94, 4, 1, fun _ => LINK_CNT_ABANDON_NO_BUF⟩,
  ⟨0x94, 4, 1, fun _ => LINK_CNT_ABANDON_NO_EVQ⟩,
  ⟨0xa0, 4, 7, fun n => LINK_VCNT n⟩,
  ⟨0xc0, 4, 1, fun _ => LINK_APPCMD_0⟩,
  ⟨0xc4, 4, 1, fun _ => LINK_APPCMD_1⟩,
  ⟨0xc8, 4, 1, fun _ => LINK_APPCMD_2⟩,
  ⟨0xcc, 4, 1, fun _ => LINK_APPCMD_3⟩,
  ⟨0xd0, 4, 1, fun _ => LINK_APPCMD_GO⟩,
  ⟨0xd4, 4, 1, fun _ => LINK_APPCMD_STAT_BUSY⟩,
  ⟨0xd4, 4, 1, fun _ => LINK_APPCMD_STAT_RESULT⟩,
  ⟨0xd8, 4, 1, fun _ => LINK_APPCMD_DONE_RESULT⟩] ++ [
  ⟨0xe0, 4, 1, fun _ => LINK_MC_POST_0⟩,
  ⟨0xe4, 4, 1, fun _ => LINK_MC_POST_1⟩,
  ⟨0xe8, 4, 1, fun _ => LINK_MC_POST_2⟩,
  ⟨0xec, 4, 1, fun _ => LINK_MC_POST_3⟩,
  ⟨0xf0, 4, 1, fun _ => LINK_MC_POST_GO⟩]

/-- The fields of CTX, by offset. -/
def rowsCTX : List Row :=
  [
  ⟨0x0, 4, 1, fun _ => CTX_CTRL_SCRUB_INT⟩,
  ⟨0x0, 4, 1, fun _ => CTX_CTRL_LOCK⟩,
  ⟨0x4, 4, 1, fun _ => CTX_PART_CIRRUS_N⟩,
  ⟨0x4, 4, 1, fun _ => CTX_PART_STRATUS_N⟩,
  ⟨0x8, 4, 1, fun _ => CTX_CAP_0_LE_ADV_MAX⟩,
  ⟨0x8, 4, 1, fun _ => CTX_CAP_0_LE_CONN_MAX⟩,
  ⟨0xc, 4, 1, fun _ => CTX_CAP_1_OQPSK_MAX⟩,
  ⟨0xc, 4, 1, fun _ => CTX_CAP_1_MESH_NBR_MAX⟩,
  ⟨0x10, 4, 1, fun _ => CTX_CAP_2_MESH_GRP_MAX⟩,
  ⟨0x14, 4, 1, fun _ => CTX_USE_0_LE_ADV⟩,
  ⟨0x14, 4, 1, fun _ => CTX_USE_0_LE_CONN⟩,
  ⟨0x18, 4, 1, fun _ => CTX_USE_1_OQPSK⟩,
  ⟨0x18, 4, 1, fun _ => CTX_USE_1_MESH_NBR⟩,
  ⟨0x1c, 4, 1, fun _ => CTX_USE_2_MESH_GRP⟩,
  ⟨0x20, 4, 1, fun _ => CTX_ALLOC_CMD_TYPE⟩,
  ⟨0x24, 4, 1, fun _ => CTX_ALLOC_RES_INDEX⟩,
  ⟨0x24, 4, 1, fun _ => CTX_ALLOC_RES_RESULT⟩,
  ⟨0x28, 4, 1, fun _ => CTX_FREE_CMD_INDEX⟩,
  ⟨0x28, 4, 1, fun _ => CTX_FREE_CMD_GO⟩,
  ⟨0x2c, 4, 1, fun _ => CTX_FREE_STAT_BUSY⟩,
  ⟨0x30, 4, 1, fun _ => CTX_ECC_CNT_CORR⟩,
  ⟨0x30, 4, 1, fun _ => CTX_ECC_CNT_UNCORR⟩,
  ⟨0x34, 4, 1, fun _ => CTX_ECC_LOG_INDEX⟩,
  ⟨0x34, 4, 1, fun _ => CTX_ECC_LOG_WORD⟩] ++ [
  ⟨0x34, 4, 1, fun _ => CTX_ECC_LOG_UNCORR⟩,
  ⟨0x34, 4, 1, fun _ => CTX_ECC_LOG_VALID⟩,
  ⟨0x38, 4, 1, fun _ => CTX_STATUS_REPARTITIONED⟩,
  ⟨0x40, 4, 8, fun n => CTX_FAULTED n⟩,
  ⟨0x60, 4, 8, fun n => CTX_INUSE n⟩,
  ⟨0x80, 4, 1, fun _ => CTX_SNAP_CMD_INDEX⟩,
  ⟨0x80, 4, 1, fun _ => CTX_SNAP_CMD_GO⟩,
  ⟨0x84, 4, 1, fun _ => CTX_SNAP_STAT_DONE⟩,
  ⟨0x84, 4, 1, fun _ => CTX_SNAP_STAT_UNCORR⟩,
  ⟨0x84, 4, 1, fun _ => CTX_SNAP_STAT_INDEX⟩,
  ⟨0x100, 4, 32, fun n => CTX_SNAP n⟩]

/-- The fields of MAC, by offset. -/
def rowsMAC : List Row :=
  [
  ⟨0x0, 4, 1, fun _ => MAC_CTRL_IRQ_EN⟩,
  ⟨0x0, 4, 1, fun _ => MAC_CTRL_LOCK⟩,
  ⟨0x8, 4, 1, fun _ => MAC_EVT_ARM_REFUSED⟩,
  ⟨0x8, 4, 1, fun _ => MAC_EVT_ACK_SUPP⟩,
  ⟨0x8, 4, 1, fun _ => MAC_EVT_DUTY_REFUSED⟩,
  ⟨0x8, 4, 1, fun _ => MAC_EVT_FT_OUTLIER⟩,
  ⟨0x8, 4, 1, fun _ => MAC_EVT_FT_STEP⟩,
  ⟨0x8, 4, 1, fun _ => MAC_EVT_TX_CTR_LIMIT⟩,
  ⟨0x10, 4, 1, fun _ => MAC_ARM_0⟩,
  ⟨0x14, 4, 1, fun _ => MAC_ARM_1⟩,
  ⟨0x18, 4, 1, fun _ => MAC_ARM_2⟩,
  ⟨0x1c, 4, 1, fun _ => MAC_ARM_3⟩,
  ⟨0x20, 4, 1, fun _ => MAC_ARM_4⟩,
  ⟨0x24, 4, 1, fun _ => MAC_ARM_GO⟩,
  ⟨0x28, 4, 1, fun _ => MAC_ARM_RES_RESULT⟩,
  ⟨0x28, 4, 1, fun _ => MAC_ARM_RES_HANDLE⟩,
  ⟨0x2c, 4, 1, fun _ => MAC_CANCEL_HANDLE⟩,
  ⟨0x2c, 4, 1, fun _ => MAC_CANCEL_GO⟩,
  ⟨0x30, 4, 1, fun _ => MAC_GAP_LE_US⟩,
  ⟨0x30, 4, 1, fun _ => MAC_GAP_OQPSK_US⟩,
  ⟨0x34, 4, 1, fun _ => MAC_GAP2_MESH_US⟩,
  ⟨0x34, 4, 1, fun _ => MAC_GAP2_ACK_TOL⟩,
  ⟨0x38, 4, 1, fun _ => MAC_ACK_CFG_EXP_LEN_C⟩,
  ⟨0x38, 4, 1, fun _ => MAC_ACK_CFG_EXP_LEN_S⟩] ++ [
  ⟨0x40, 4, 1, fun _ => MAC_MESH_CFG_SLOT_US⟩,
  ⟨0x40, 4, 1, fun _ => MAC_MESH_CFG_TX_OFS_US⟩,
  ⟨0x44, 4, 1, fun _ => MAC_MESH_CFG2_SF_LEN⟩,
  ⟨0x44, 4, 1, fun _ => MAC_MESH_CFG2_HOP_LEN⟩,
  ⟨0x44, 4, 1, fun _ => MAC_MESH_CFG2_PRE_LEN⟩,
  ⟨0x48, 4, 1, fun _ => MAC_GUARD_G_FIX_US⟩,
  ⟨0x48, 4, 1, fun _ => MAC_GUARD_G_MAX_US⟩,
  ⟨0x4c, 4, 1, fun _ => MAC_SUN_PLAN_CH0_KHZ⟩,
  ⟨0x4c, 4, 1, fun _ => MAC_SUN_PLAN_SPACING_25K⟩,
  ⟨0x50, 4, 4, fun n => MAC_HOPSEQ n⟩,
  ⟨0x60, 4, 1, fun _ => MAC_FT_OFS_LO⟩,
  ⟨0x64, 4, 1, fun _ => MAC_FT_OFS_HI⟩,
  ⟨0x68, 4, 1, fun _ => MAC_FT_CFG_PARENT⟩,
  ⟨0x68, 4, 1, fun _ => MAC_FT_CFG_PARENT_EN⟩,
  ⟨0x68, 4, 1, fun _ => MAC_FT_CFG_STEP_MAX_US⟩,
  ⟨0x6c, 4, 1, fun _ => MAC_FT_STAT_STRATUM⟩,
  ⟨0x6c, 4, 1, fun _ => MAC_FT_STAT_VALID⟩,
  ⟨0x70, 4, 1, fun _ => MAC_FT_ERR⟩,
  ⟨0x74, 4, 1, fun _ => MAC_FT_CNT_APPLIED⟩,
  ⟨0x74, 4, 1, fun _ => MAC_FT_CNT_OUTLIER⟩,
  ⟨0x78, 4, 1, fun _ => MAC_FT_AGE⟩,
  ⟨0x7c, 4, 1, fun _ => MAC_WAKE_LEAD_US⟩,
  ⟨0x80, 4, 1, fun _ => MAC_FT_SNAP_LO⟩,
  ⟨0x84, 4, 1, fun _ => MAC_FT_SNAP_HI⟩] ++ [
  ⟨0x88, 4, 1, fun _ => MAC_ASN_SNAP_LO⟩,
  ⟨0x8c, 4, 1, fun _ => MAC_ASN_SNAP_HI⟩,
  ⟨0x90, 4, 1, fun _ => MAC_ACK_SUPP_GNT⟩,
  ⟨0x90, 4, 1, fun _ => MAC_ACK_SUPP_DUTY⟩,
  ⟨0x94, 4, 1, fun _ => MAC_ACK_SUPP_LATE⟩,
  ⟨0x94, 4, 1, fun _ => MAC_ACK_SENT⟩,
  ⟨0x100, 32, 8, fun n => MAC_DUTY_BAND_LO_KHZ n⟩,
  ⟨0x104, 32, 8, fun n => MAC_DUTY_BAND_HI_HI_KHZ n⟩,
  ⟨0x104, 32, 8, fun n => MAC_DUTY_BAND_HI_MAX_DBM n⟩,
  ⟨0x108, 32, 8, fun n => MAC_DUTY_WINDOW_S n⟩,
  ⟨0x108, 32, 8, fun n => MAC_DUTY_WINDOW_FULL n⟩,
  ⟨0x10c, 32, 8, fun n => MAC_DUTY_BUDGET n⟩,
  ⟨0x110, 32, 8, fun n => MAC_DUTY_EARNED n⟩,
  ⟨0x114, 32, 8, fun n => MAC_DUTY_SPENT n⟩,
  ⟨0x118, 32, 8, fun n => MAC_DUTY_AVAIL n⟩,
  ⟨0x11c, 32, 8, fun n => MAC_DUTY_REFUSED_TX n⟩,
  ⟨0x11c, 32, 8, fun n => MAC_DUTY_REFUSED_ACK n⟩]

end Sys2Proof.Machine.R
end

