-- ==== Sys2Proof/Machine/RegsCipher.lean ====
section
/-!
DEFINITION. Machine/RegsCipher.lean: the CIPHER, KEYS, ARB, PBM and CHK registers (R242, R244, R269, R270, R279), one field a definition, written from the
spec's register tables: place, width, access code, Keep class, Reset value, stated range, writer.
-/
namespace Sys2Proof.Machine.R

open Sys2Proof

/-- R242 CIPHER.CTRL.IRQ_EN: 1 routes EV_CIPHER, raised by any EVT bit, to the event matrix. -/
def CIPHER_CTRL_IRQ_EN : Fld :=
  ⟨13, 0x0, 0, 1, .rwl, .w, 0, .any, .any⟩

/-- R242 CIPHER.CTRL.LOCK: LOCK bit of CIPHER, per R8. -/
def CIPHER_CTRL_LOCK : Fld :=
  ⟨13, 0x0, 31, 1, .w1s, .w, 0, .any, .any⟩

/-- R242 CIPHER.STAT.CH_RUN: Bit q: channel q running. -/
def CIPHER_STAT_CH_RUN : Fld :=
  ⟨13, 0x4, 0, 5, .ro, .live, 0, .any, .any⟩

/-- R242 CIPHER.STAT.READY: Slots loaded; engine accepts work. -/
def CIPHER_STAT_READY : Fld :=
  ⟨13, 0x4, 8, 1, .ro, .live, 0, .any, .any⟩

/-- R242 CIPHER.EVT.JOB_DONE: Bit q: a job of channel q ended OK. -/
def CIPHER_EVT_JOB_DONE : Fld :=
  ⟨13, 0x8, 0, 5, .w1c, .w, 0, .any, .any⟩

/-- R242 CIPHER.EVT.JOB_ERR: Bit q: channel q stopped on another status. -/
def CIPHER_EVT_JOB_ERR : Fld :=
  ⟨13, 0x8, 8, 5, .w1c, .w, 0, .any, .any⟩

/-- R242 CIPHER.EVT.LANE_MISMATCH: Set under R220. -/
def CIPHER_EVT_LANE_MISMATCH : Fld :=
  ⟨13, 0x8, 16, 1, .w1c, .w, 0, .any, .any⟩

/-- R242 CIPHER.EVT.LOCK_FORCED: Set under R237. -/
def CIPHER_EVT_LOCK_FORCED : Fld :=
  ⟨13, 0x8, 17, 1, .w1c, .w, 0, .any, .any⟩

/-- R242 CIPHER.EVT.SWKEY_IGNORED: Set under R238. -/
def CIPHER_EVT_SWKEY_IGNORED : Fld :=
  ⟨13, 0x8, 18, 1, .w1c, .w, 0, .any, .any⟩

/-- R242 CIPHER.LOCK.OWNER: 0 FREE, q + 1 holder, per R237. -/
def CIPHER_LOCK_OWNER : Fld :=
  ⟨13, 0x10, 0, 3, .ro, .w, 0, .any, .any⟩

/-- R242 CIPHER.LOCK.RELEASING: Release waiting for SWKEY jobs. -/
def CIPHER_LOCK_RELEASING : Fld :=
  ⟨13, 0x10, 3, 1, .ro, .w, 0, .any, .any⟩

/-- R242 CIPHER.LOCK_CMD.OP: 1 ACQUIRE, 2 RELEASE, 3 FORCE. -/
def CIPHER_LOCK_CMD_OP : Fld :=
  ⟨13, 0x14, 0, 2, .wo, .w, 0, .any, .any⟩

/-- R242 CIPHER.LOCK_CMD.ID: Channel ID, q + 1. -/
def CIPHER_LOCK_CMD_ID : Fld :=
  ⟨13, 0x14, 4, 3, .wo, .w, 0, .any, .any⟩

/-- R242 CIPHER.SWKEY_CFG.KSIZE: 0 AES-128, 1 AES-256; per R238. -/
def CIPHER_SWKEY_CFG_KSIZE : Fld :=
  ⟨13, 0x18, 0, 1, .rw, .w, 0, .any, .any⟩

/-- R242 CIPHER.SWKEY_k: Software key words, first key octet in bits [7:0] of SWKEY_0; per R238. -/
def CIPHER_SWKEY (n : Nat) : Fld :=
  ⟨13, (0x20 + n * 0x4), 0, 32, .wo, .w, 0, .any, .any⟩

/-- R242 CIPHER.OWN_EXT_LO: Own extended address [31:0], per R224; link cores. -/
def CIPHER_OWN_EXT_LO : Fld :=
  ⟨13, 0x40, 0, 32, .rw, .w, 0, .any, .link⟩

/-- R242 CIPHER.OWN_EXT_HI: Own extended address [63:32]; link cores. -/
def CIPHER_OWN_EXT_HI : Fld :=
  ⟨13, 0x44, 0, 32, .rw, .w, 0, .any, .link⟩

/-- R242 CIPHER.LANE.CONSEC: Per R221. -/
def CIPHER_LANE_CONSEC : Fld :=
  ⟨13, 0x50, 0, 5, .ro, .w, 0, .any, .any⟩

/-- R242 CIPHER.LANE.TOTAL: Lane mismatches; saturates at 0xFFFF. -/
def CIPHER_LANE_TOTAL : Fld :=
  ⟨13, 0x50, 16, 16, .ro, .c, 0, .any, .any⟩

/-- R242 CIPHER.LANE_CFG.PERSIST: FP.FAULTS.LANE_PERSIST. -/
def CIPHER_LANE_CFG_PERSIST : Fld :=
  ⟨13, 0x54, 0, 5, .rwf, .f, 4, .any, .any⟩

/-- R242 CIPHER.LANE_LOG.OP: 0 frame, 1 transmission, 2 link derivation, 3 software derivation. -/
def CIPHER_LANE_LOG_OP : Fld :=
  ⟨13, 0x58, 0, 2, .ro, .c, 0, .any, .any⟩

/-- R242 CIPHER.LANE_LOG.CTX: Context, or channel q for OP 3. -/
def CIPHER_LANE_LOG_CTX : Fld :=
  ⟨13, 0x58, 8, 8, .ro, .c, 0, .any, .any⟩

/-- R242 CIPHER.LANE_LOG.VALID: Log holds the first mismatch since a clear; 1 clears it. -/
def CIPHER_LANE_LOG_VALID : Fld :=
  ⟨13, 0x58, 31, 1, .w1c, .c, 0, .any, .any⟩

/-- R242 CIPHER.Q_DESC_q: First descriptor; bits [3:0] must be 0, otherwise the job ends BAD_DESC. -/
def CIPHER_Q_DESC (n : Nat) : Fld :=
  ⟨13, (0x100 + n * 0x20), 0, 32, .rw, .w, 0, .any, .any⟩

/-- R242 CIPHER.Q_CMD_q.GO: Starts the channel, per R236. -/
def CIPHER_Q_CMD_GO (n : Nat) : Fld :=
  ⟨13, (0x104 + n * 0x20), 0, 1, .wo, .w, 0, .any, .any⟩

/-- R242 CIPHER.Q_CMD_q.ABORT: Aborts the channel, per R236. -/
def CIPHER_Q_CMD_ABORT (n : Nat) : Fld :=
  ⟨13, (0x104 + n * 0x20), 1, 1, .wo, .w, 0, .any, .any⟩

/-- R242 CIPHER.Q_STAT_q.STATE: 0 IDLE, 1 RUN, 2 ZEROING, 3 ABORTING. -/
def CIPHER_Q_STAT_STATE (n : Nat) : Fld :=
  ⟨13, (0x108 + n * 0x20), 0, 2, .ro, .live, 0, .any, .any⟩

/-- R242 CIPHER.Q_STAT_q.LAST: Status of the last job, per R235. -/
def CIPHER_Q_STAT_LAST (n : Nat) : Fld :=
  ⟨13, (0x108 + n * 0x20), 8, 4, .ro, .w, 0, .any, .any⟩

/-- R242 CIPHER.Q_STAT_q.JOBS: Jobs ended; saturates at 0xFFFF. -/
def CIPHER_Q_STAT_JOBS (n : Nat) : Fld :=
  ⟨13, (0x108 + n * 0x20), 16, 16, .ro, .w, 0, .any, .any⟩

/-- R242 CIPHER.Q_CUR_q: Descriptor in progress or last ended. -/
def CIPHER_Q_CUR (n : Nat) : Fld :=
  ⟨13, (0x10c + n * 0x20), 0, 32, .ro, .w, 0, .any, .any⟩

/-- R242 CIPHER.Q_PROG_q: Data octets completed in the current job. -/
def CIPHER_Q_PROG (n : Nat) : Fld :=
  ⟨13, (0x110 + n * 0x20), 0, 32, .ro, .w, 0, .any, .any⟩

/-- R244 KEYS.CTRL.IRQ_EN: 1 routes EV_KEYS, raised by any EVT bit, to the event matrix. -/
def KEYS_CTRL_IRQ_EN : Fld :=
  ⟨14, 0x0, 0, 1, .rwl, .w, 0, .any, .any⟩

/-- R244 KEYS.CTRL.LOCK: LOCK bit of KEYS, per R8. -/
def KEYS_CTRL_LOCK : Fld :=
  ⟨14, 0x0, 31, 1, .w1s, .w, 0, .any, .any⟩

/-- R244 KEYS.FP_SLOTS.LINK: FP.KEYS.LINK_SLOTS. -/
def KEYS_FP_SLOTS_LINK : Fld :=
  ⟨14, 0x4, 0, 16, .rwf, .f, 65535, .any, .any⟩

/-- R244 KEYS.FP_SLOTS.SW: FP.KEYS.SW_SLOTS. -/
def KEYS_FP_SLOTS_SW : Fld :=
  ⟨14, 0x4, 16, 16, .rwf, .f, 65535, .any, .any⟩

/-- R244 KEYS.EFF.LINK: Slots usable by LINK under R226. -/
def KEYS_EFF_LINK : Fld :=
  ⟨14, 0x8, 0, 16, .ro, .live, 0, .any, .any⟩

/-- R244 KEYS.EFF.SW: Slots VALID with bit s of FP_SLOTS.SW set. -/
def KEYS_EFF_SW : Fld :=
  ⟨14, 0x8, 16, 16, .ro, .live, 0, .any, .any⟩

/-- R244 KEYS.EVT.REVOKE_DONE: A revocation reached DONE. -/
def KEYS_EVT_REVOKE_DONE : Fld :=
  ⟨14, 0xc, 0, 1, .w1c, .w, 0, .any, .any⟩

/-- R244 KEYS.EVT.PROG_DONE: A provisioning GO ended, whatever its result, a refusal with NO_SEQ, RDP_LEVEL or NOT_EMPTY … -/
def KEYS_EVT_PROG_DONE : Fld :=
  ⟨14, 0xc, 1, 1, .w1c, .w, 0, .any, .any⟩

/-- R244 KEYS.EVT.REFUSED: Set under R226. -/
def KEYS_EVT_REFUSED : Fld :=
  ⟨14, 0xc, 2, 1, .w1c, .w, 0, .any, .any⟩

/-- R244 KEYS.SLOT_s.STATE: Per R225. -/
def KEYS_SLOT_STATE (n : Nat) : Fld :=
  ⟨14, (0x10 + n * 0x4), 0, 2, .ro, .live, 0, .any, .any⟩

/-- R244 KEYS.SLOT_s.KSIZE: 0 128-bit, 1 256-bit root key. -/
def KEYS_SLOT_KSIZE (n : Nat) : Fld :=
  ⟨14, (0x10 + n * 0x4), 2, 1, .ro, .live, 0, .any, .any⟩

/-- R244 KEYS.SLOT_s.POLICY: Bit 3 LINK, 4 APP, 5 HOST, 6 ATTIC, 7 NFC. -/
def KEYS_SLOT_POLICY (n : Nat) : Fld :=
  ⟨14, (0x10 + n * 0x4), 3, 5, .ro, .live, 0, .any, .any⟩

/-- R244 KEYS.KEYSEQ: Unlock sequence, per R227 and R228; application core. -/
def KEYS_KEYSEQ : Fld :=
  ⟨14, 0x50, 0, 16, .wo, .w, 0, .any, .app⟩

/-- R244 KEYS.REVOKE.SLOT: Slot to revoke; application core. -/
def KEYS_REVOKE_SLOT : Fld :=
  ⟨14, 0x54, 0, 4, .wo, .w, 0, .any, .app⟩

/-- R244 KEYS.REVOKE.GO: 1 revokes, per R228. -/
def KEYS_REVOKE_GO : Fld :=
  ⟨14, 0x54, 31, 1, .wo, .w, 0, .any, .any⟩

/-- R244 KEYS.REVOKE_STAT.BUSY: OTP revocation programming in progress. -/
def KEYS_REVOKE_STAT_BUSY : Fld :=
  ⟨14, 0x58, 0, 1, .ro, .live, 0, .any, .any⟩

/-- R244 KEYS.REVOKE_STAT.RESULT: Per the table below. -/
def KEYS_REVOKE_STAT_RESULT : Fld :=
  ⟨14, 0x58, 1, 3, .ro, .w, 0, .any, .any⟩

/-- R244 KEYS.REVOKE_PEND: Slots committed but not yet DONE, per R228. -/
def KEYS_REVOKE_PEND : Fld :=
  ⟨14, 0x5c, 0, 16, .ro, .c, 0, .any, .any⟩

/-- R244 KEYS.PROG_CFG.SLOT: Slot to provision; application core. -/
def KEYS_PROG_CFG_SLOT : Fld :=
  ⟨14, 0x60, 0, 4, .wo, .w, 0, .any, .app⟩

/-- R244 KEYS.PROG_CFG.KSIZE: 0 128-bit, 1 256-bit. -/
def KEYS_PROG_CFG_KSIZE : Fld :=
  ⟨14, 0x60, 4, 1, .wo, .w, 0, .any, .any⟩

/-- R244 KEYS.PROG_CFG.POLICY: User bits in the order of SLOT_s.POLICY. -/
def KEYS_PROG_CFG_POLICY : Fld :=
  ⟨14, 0x60, 5, 5, .wo, .w, 0, .any, .any⟩

/-- R244 KEYS.PROG_CFG.GO: 1 provisions, per R227. -/
def KEYS_PROG_CFG_GO : Fld :=
  ⟨14, 0x60, 31, 1, .wo, .w, 0, .any, .any⟩

/-- R244 KEYS.PROG_DATA_k: Key words, per R227; read as 0. -/
def KEYS_PROG_DATA (n : Nat) : Fld :=
  ⟨14, (0x64 + n * 0x4), 0, 32, .wo, .w, 0, .any, .any⟩

/-- R244 KEYS.PROG_STAT.BUSY: Provisioning in progress. -/
def KEYS_PROG_STAT_BUSY : Fld :=
  ⟨14, 0x84, 0, 1, .ro, .live, 0, .any, .any⟩

/-- R244 KEYS.PROG_STAT.RESULT: Per the table below. -/
def KEYS_PROG_STAT_RESULT : Fld :=
  ⟨14, 0x84, 1, 3, .ro, .w, 0, .any, .any⟩

/-- R244 KEYS.REFUSE_CNT: Refused derivations; saturates at 0xFFFF. -/
def KEYS_REFUSE_CNT : Fld :=
  ⟨14, 0x90, 0, 16, .ro, .w, 0, .any, .any⟩

/-- R244 KEYS.IV_CMD.INDEX: IV table entry; link cores. -/
def KEYS_IV_CMD_INDEX : Fld :=
  ⟨14, 0xa0, 0, 8, .wo, .w, 0, .any, .link⟩

/-- R244 KEYS.IV_CMD.OP: 1 READ into IV_LO and IV_HI; 2 WRITE from them; link cores. -/
def KEYS_IV_CMD_OP : Fld :=
  ⟨14, 0xa0, 8, 2, .wo, .w, 0, .any, .link⟩

/-- R244 KEYS.IV_LO: IV octets 0 to 3, first octet in bits [7:0]; link cores. -/
def KEYS_IV_LO : Fld :=
  ⟨14, 0xa4, 0, 32, .rw, .w, 0, .any, .link⟩

/-- R244 KEYS.IV_HI: IV octets 4 to 7; link cores. -/
def KEYS_IV_HI : Fld :=
  ⟨14, 0xa8, 0, 32, .rw, .w, 0, .any, .link⟩

/-- R269 ARB.CTRL.IRQ_EN: 1 routes EV_ARB, raised by any EVT bit, to the event matrix. -/
def ARB_CTRL_IRQ_EN : Fld :=
  ⟨15, 0x0, 0, 1, .rwl, .w, 0, .any, .any⟩

/-- R269 ARB.CTRL.LOCK: LOCK bit of ARB, per R8. -/
def ARB_CTRL_LOCK : Fld :=
  ⟨15, 0x0, 31, 1, .w1s, .w, 0, .any, .any⟩

/-- R269 ARB.STAT.L_HOLDER: LANE burst holder q; 7 none. -/
def ARB_STAT_L_HOLDER : Fld :=
  ⟨15, 0x4, 0, 3, .ro, .live, 7, .any, .any⟩

/-- R269 ARB.STAT.L_REMAIN: Units left in the LANE burst. -/
def ARB_STAT_L_REMAIN : Fld :=
  ⟨15, 0x4, 4, 7, .ro, .live, 0, .any, .any⟩

/-- R269 ARB.STAT.P_HOLDER: PORT burst holder q; 7 none. -/
def ARB_STAT_P_HOLDER : Fld :=
  ⟨15, 0x4, 16, 3, .ro, .live, 7, .any, .any⟩

/-- R269 ARB.STAT.P_REMAIN: Units left in the PORT burst. -/
def ARB_STAT_P_REMAIN : Fld :=
  ⟨15, 0x4, 20, 7, .ro, .live, 0, .any, .any⟩

/-- R269 ARB.EVT.HINT_EXP: Set under R254. -/
def ARB_EVT_HINT_EXP : Fld :=
  ⟨15, 0x8, 0, 1, .w1c, .w, 0, .any, .any⟩

/-- R269 ARB.TKT_q.TICKETS: Tickets, 0 to 255, per R253. -/
def ARB_TKT_TICKETS (n : Nat) : Fld :=
  ⟨15, (0x10 + n * 0x4), 0, 8, .rwl, .f, 64, .any, .any⟩

/-- R269 ARB.TKT_q.BURST: Burst limit, 1 to 64. -/
def ARB_TKT_BURST (n : Nat) : Fld :=
  ⟨15, (0x10 + n * 0x4), 8, 7, .rwl, .f, 16, .between 1 64, .any⟩

/-- R269 ARB.LFSR.LANE: LANE LFSR after its last draw. -/
def ARB_LFSR_LANE : Fld :=
  ⟨15, 0x30, 0, 16, .ro, .f, 0xACE1, .any, .any⟩

/-- R269 ARB.LFSR.PORT: PORT LFSR after its last draw. -/
def ARB_LFSR_PORT : Fld :=
  ⟨15, 0x30, 16, 16, .ro, .f, 0xACE1, .any, .any⟩

/-- R269 ARB.SEED: FP.ARBITER.LFSR_SEED. -/
def ARB_SEED : Fld :=
  ⟨15, 0x34, 0, 16, .rwf, .f, 44257, .any, .any⟩

/-- R269 ARB.HINT_CFG.MIN_BLOCKS: Units before a hint breaks a burst, 1 to 64. -/
def ARB_HINT_CFG_MIN_BLOCKS : Fld :=
  ⟨15, 0x38, 0, 7, .rwl, .w, 4, .between 1 64, .any⟩

/-- R269 ARB.HINT_CMD.Q: Requester posting the hint, per R255. -/
def ARB_HINT_CMD_Q : Fld :=
  ⟨15, 0x3c, 0, 3, .wo, .w, 0, .any, .any⟩

/-- R269 ARB.HINT_CMD.PORT: 0 LANE, 1 PORT. -/
def ARB_HINT_CMD_PORT : Fld :=
  ⟨15, 0x3c, 4, 1, .wo, .w, 0, .any, .any⟩

/-- R269 ARB.HINT_CMD.GO: 1 posts the hint. -/
def ARB_HINT_CMD_GO : Fld :=
  ⟨15, 0x3c, 31, 1, .wo, .w, 0, .any, .any⟩

/-- R269 ARB.WINS_q.LANE: LANE wins, filler draws included; saturates at 0xFFFF. -/
def ARB_WINS_LANE (n : Nat) : Fld :=
  ⟨15, (0x40 + n * 0x4), 0, 16, .ro, .w, 0, .any, .any⟩

/-- R269 ARB.WINS_q.PORT: PORT wins; saturates at 0xFFFF. -/
def ARB_WINS_PORT (n : Nat) : Fld :=
  ⟨15, (0x40 + n * 0x4), 16, 16, .ro, .w, 0, .any, .any⟩

/-- R269 ARB.HINT_CNT.POSTED: Hints accepted; saturates at 0xFFFF. -/
def ARB_HINT_CNT_POSTED : Fld :=
  ⟨15, 0x60, 0, 16, .ro, .w, 0, .any, .any⟩

/-- R269 ARB.HINT_CNT.EXPIRED: Hints ended unused; saturates at 0xFFFF. -/
def ARB_HINT_CNT_EXPIRED : Fld :=
  ⟨15, 0x60, 16, 16, .ro, .w, 0, .any, .any⟩

/-- R269 ARB.AGE_CFG.LIMIT: Consecutive lost draws before a requester becomes due, 1 to 15, per R249; both draw points. -/
def ARB_AGE_CFG_LIMIT : Fld :=
  ⟨15, 0x64, 0, 4, .rwl, .w, 4, .between 1 15, .any⟩

/-- R269 ARB.AGE_CNT.LANE: LANE draws decided under R249; saturates at 0xFFFF. -/
def ARB_AGE_CNT_LANE : Fld :=
  ⟨15, 0x68, 0, 16, .ro, .w, 0, .any, .any⟩

/-- R269 ARB.AGE_CNT.PORT: PORT draws decided under R249; saturates at 0xFFFF. -/
def ARB_AGE_CNT_PORT : Fld :=
  ⟨15, 0x68, 16, 16, .ro, .w, 0, .any, .any⟩

/-- R270 PBM.CTRL.IRQ_EN: 1 routes EV_PBM, raised by any EVT bit, to the event matrix. -/
def PBM_CTRL_IRQ_EN : Fld :=
  ⟨16, 0x0, 0, 1, .rwl, .w, 0, .any, .any⟩

/-- R270 PBM.CTRL.AUDIT_EN: Audit under R265. -/
def PBM_CTRL_AUDIT_EN : Fld :=
  ⟨16, 0x0, 1, 1, .rwl, .w, 1, .any, .any⟩

/-- R270 PBM.CTRL.LOCK: LOCK bit of PBM, per R8. -/
def PBM_CTRL_LOCK : Fld :=
  ⟨16, 0x0, 31, 1, .w1s, .w, 0, .any, .any⟩

/-- R270 PBM.STAT.ZEROING: Buffers waiting to be zeroed. -/
def PBM_STAT_ZEROING : Fld :=
  ⟨16, 0x4, 0, 12, .ro, .live, 0, .any, .any⟩

/-- R270 PBM.STAT.RECLAIMING: Reclaim in progress, per R267. -/
def PBM_STAT_RECLAIMING : Fld :=
  ⟨16, 0x4, 16, 1, .ro, .live, 0, .any, .any⟩

/-- R270 PBM.EVT.LEDGER_ERR: Set under R266. -/
def PBM_EVT_LEDGER_ERR : Fld :=
  ⟨16, 0x8, 0, 1, .w1c, .w, 0, .any, .any⟩

/-- R270 PBM.EVT.RECLAIM: Set under R267. -/
def PBM_EVT_RECLAIM : Fld :=
  ⟨16, 0x8, 1, 1, .w1c, .w, 0, .any, .any⟩

/-- R270 PBM.EVT.REFUSED: A command ended other than OK, or a descriptor write was ignored. -/
def PBM_EVT_REFUSED : Fld :=
  ⟨16, 0x8, 2, 1, .w1c, .w, 0, .any, .any⟩

/-- R270 PBM.A_CMD.OP: 1 ALLOC, 2 XFER, per R261. -/
def PBM_A_CMD_OP : Fld :=
  ⟨16, 0x10, 0, 2, .wo, .w, 0, .any, .any⟩

/-- R270 PBM.A_CMD.FROM: Source owner for XFER. -/
def PBM_A_CMD_FROM : Fld :=
  ⟨16, 0x10, 4, 4, .wo, .w, 0, .any, .any⟩

/-- R270 PBM.A_CMD.TO: Destination owner. -/
def PBM_A_CMD_TO : Fld :=
  ⟨16, 0x10, 8, 4, .wo, .w, 0, .any, .any⟩

/-- R270 PBM.A_CMD.COUNT: Buffers for ALLOC, 1 to 16. -/
def PBM_A_CMD_COUNT : Fld :=
  ⟨16, 0x10, 12, 5, .wo, .w, 0, .between 1 16, .any⟩

/-- R270 PBM.A_CMD.HEAD: Head buffer for XFER. -/
def PBM_A_CMD_HEAD : Fld :=
  ⟨16, 0x10, 21, 11, .wo, .w, 0, .any, .any⟩

/-- R270 PBM.A_RES.RESULT: Per the table under R261. -/
def PBM_A_RES_RESULT : Fld :=
  ⟨16, 0x14, 0, 3, .ro, .w, 0, .any, .any⟩

/-- R270 PBM.A_RES.BUSY: Command in progress. -/
def PBM_A_RES_BUSY : Fld :=
  ⟨16, 0x14, 3, 1, .ro, .live, 0, .any, .any⟩

/-- R270 PBM.A_RES.COUNT: Buffers allocated or moved. -/
def PBM_A_RES_COUNT : Fld :=
  ⟨16, 0x14, 4, 12, .ro, .w, 0, .any, .any⟩

/-- R270 PBM.A_RES.HEAD: Head of the allocated chain. -/
def PBM_A_RES_HEAD : Fld :=
  ⟨16, 0x14, 16, 11, .ro, .w, 0, .any, .any⟩

/-- R270 PBM.L_CMD: As A_CMD; link cores. -/
def PBM_L_CMD : Fld :=
  ⟨16, 0x18, 0, 32, .wo, .w, 0, .any, .link⟩

/-- R270 PBM.L_RES: As A_RES. -/
def PBM_L_RES : Fld :=
  ⟨16, 0x1c, 0, 32, .ro, .w, 0, .any, .any⟩

/-- R270 PBM.A_DESC_SEL.INDEX: Descriptor selected. -/
def PBM_A_DESC_SEL_INDEX : Fld :=
  ⟨16, 0x20, 0, 11, .rw, .w, 0, .any, .any⟩

/-- R270 PBM.A_DESC: Selected descriptor, per R256 and R261. -/
def PBM_A_DESC : Fld :=
  ⟨16, 0x24, 0, 32, .rw, .w, 0, .any, .any⟩

/-- R270 PBM.L_DESC_SEL.INDEX: As A_DESC_SEL; link cores. -/
def PBM_L_DESC_SEL_INDEX : Fld :=
  ⟨16, 0x28, 0, 11, .rw, .w, 0, .any, .link⟩

/-- R270 PBM.L_DESC: As A_DESC; link cores. -/
def PBM_L_DESC : Fld :=
  ⟨16, 0x2c, 0, 32, .rw, .w, 0, .any, .link⟩

/-- R270 PBM.LEDGER_o: Buffers held by owner o. -/
def PBM_LEDGER (n : Nat) : Fld :=
  ⟨16, (0x40 + n * 0x4), 0, 12, .ro, .w, (if n = 0 then 2048 else 0), .any, .any⟩

/-- R270 PBM.SHARE_o: FP.BUFFERS.SHARE with INDEX o. -/
def PBM_SHARE (n : Nat) : Fld :=
  ⟨16, (0x80 + n * 0x4), 0, 12, .rwf, .f, (safeShare n), .any, .any⟩

/-- R270 PBM.CREDITS.HOST: Credits held by the host. -/
def PBM_CREDITS_HOST : Fld :=
  ⟨16, 0xc0, 0, 7, .ro, .c, 64, .any, .any⟩

/-- R270 PBM.CREDITS.DEV: Credits held by the device. -/
def PBM_CREDITS_DEV : Fld :=
  ⟨16, 0xc0, 8, 7, .ro, .c, 0, .any, .any⟩

/-- R270 PBM.TOKENS.PORCH: 0 NONE, 1 FIELD, 2 HOST. -/
def PBM_TOKENS_PORCH : Fld :=
  ⟨16, 0xc4, 0, 2, .ro, .live, 0, .any, .any⟩

/-- R270 PBM.TOKENS.CIPHER: Mirror of CIPHER.LOCK.OWNER. -/
def PBM_TOKENS_CIPHER : Fld :=
  ⟨16, 0xc4, 2, 3, .ro, .live, 0, .any, .any⟩

/-- R270 PBM.LEDGER_LOG.KIND: Per the table under R266. -/
def PBM_LEDGER_LOG_KIND : Fld :=
  ⟨16, 0xd0, 0, 4, .ro, .c, 0, .any, .any⟩

/-- R270 PBM.LEDGER_LOG.DETAIL: Owner code or band. -/
def PBM_LEDGER_LOG_DETAIL : Fld :=
  ⟨16, 0xd0, 8, 8, .ro, .c, 0, .any, .any⟩

/-- R270 PBM.LEDGER_LOG.VALID: Log holds a record; 1 clears it. -/
def PBM_LEDGER_LOG_VALID : Fld :=
  ⟨16, 0xd0, 31, 1, .w1c, .c, 0, .any, .any⟩

/-- R270 PBM.LEDGER_VAL.EXPECT: Expected value, saturating. -/
def PBM_LEDGER_VAL_EXPECT : Fld :=
  ⟨16, 0xd4, 0, 16, .ro, .c, 0, .any, .any⟩

/-- R270 PBM.LEDGER_VAL.FOUND: Value found, saturating. -/
def PBM_LEDGER_VAL_FOUND : Fld :=
  ⟨16, 0xd4, 16, 16, .ro, .c, 0, .any, .any⟩

/-- R270 PBM.RECLAIM_LOG.OWNER: Owner code of the last reclaim, or 15 for the four radio owners of a LOCKSTEP or WDT_LINK … -/
def PBM_RECLAIM_LOG_OWNER : Fld :=
  ⟨16, 0xd8, 0, 4, .ro, .c, 0, .any, .any⟩

/-- R270 PBM.RECLAIM_LOG.COUNT: Buffers it returned. -/
def PBM_RECLAIM_LOG_COUNT : Fld :=
  ⟨16, 0xd8, 4, 12, .ro, .c, 0, .any, .any⟩

/-- R270 PBM.RECLAIM_LOG.CAUSE: 1 APP reset, 2 PERIPH, 3 NFCR, 4 LOCKSTEP, 5 WDT_LINK. -/
def PBM_RECLAIM_LOG_CAUSE : Fld :=
  ⟨16, 0xd8, 16, 4, .ro, .c, 0, .any, .any⟩

/-- R270 PBM.RECLAIM_CNT: Reclaims; saturates at 0xFFFF. -/
def PBM_RECLAIM_CNT : Fld :=
  ⟨16, 0xdc, 0, 16, .ro, .c, 0, .any, .any⟩

/-- R270 PBM.AUDIT_CNT: Completed audit passes; wraps. -/
def PBM_AUDIT_CNT : Fld :=
  ⟨16, 0xe0, 0, 16, .ro, .w, 0, .any, .any⟩

/-- R279 CHK.CTRL.LOCK: LOCK bit of CHK, per R8. -/
def CHK_CTRL_LOCK : Fld :=
  ⟨17, 0x0, 31, 1, .w1s, .w, 0, .any, .any⟩

/-- R279 CHK.CFG_n.USE: Use, per R272 and R273. -/
def CHK_CFG_USE (n : Nat) : Fld :=
  ⟨17, (0x100 + n * 0x40), 0, 3, .rwl, .w, ([0, 3, 4, 5].getD n 0), .any, .any⟩

/-- R279 CHK.CFG_n.FOLD_EN: 1 folds FOLD_n at START, per R274. -/
def CHK_CFG_FOLD_EN (n : Nat) : Fld :=
  ⟨17, (0x100 + n * 0x40), 8, 1, .rw, .w, 0, .any, .any⟩

/-- R279 CHK.CMD_n.START: Starts a computation, per R274. -/
def CHK_CMD_START (n : Nat) : Fld :=
  ⟨17, (0x104 + n * 0x40), 0, 1, .wo, .w, 0, .any, .any⟩

/-- R279 CHK.INIT_n: Initial value for the LE use; ignored by the other uses. -/
def CHK_INIT (n : Nat) : Fld :=
  ⟨17, (0x108 + n * 0x40), 0, 24, .rw, .w, 5592405, .any, .any⟩

/-- R279 CHK.FOLD_n: Fold word, an address or sequence number. -/
def CHK_FOLD (n : Nat) : Fld :=
  ⟨17, (0x10c + n * 0x40), 0, 32, .rw, .w, 0, .any, .any⟩

/-- R279 CHK.DIN_W_n: Four data bytes, per R275. -/
def CHK_DIN_W (n : Nat) : Fld :=
  ⟨17, (0x110 + n * 0x40), 0, 32, .wo, .w, 0, .any, .any⟩

/-- R279 CHK.DIN_H_n: Two data bytes. -/
def CHK_DIN_H (n : Nat) : Fld :=
  ⟨17, (0x114 + n * 0x40), 0, 16, .wo, .w, 0, .any, .any⟩

/-- R279 CHK.DIN_B_n: One data byte. -/
def CHK_DIN_B (n : Nat) : Fld :=
  ⟨17, (0x118 + n * 0x40), 0, 8, .wo, .w, 0, .any, .any⟩

/-- R279 CHK.RUN_n: Running register, reflected; bits above the width read 0 and ignore writes. Per R278. -/
def CHK_RUN (n : Nat) : Fld :=
  ⟨17, (0x11c + n * 0x40), 0, 32, .rw, .w, 0, .any, .any⟩

/-- R279 CHK.RESULT_n: RUN_n XOR the final XOR, in the use's width. -/
def CHK_RESULT (n : Nat) : Fld :=
  ⟨17, (0x120 + n * 0x40), 0, 32, .ro, .live, 0, .any, .any⟩

/-- R279 CHK.COUNT_n: Data bytes since START, fold excluded; wraps. -/
def CHK_COUNT (n : Nat) : Fld :=
  ⟨17, (0x124 + n * 0x40), 0, 32, .rw, .w, 0, .any, .any⟩

/-- R279 CHK.EXPECT_n: Value compared under R277. -/
def CHK_EXPECT (n : Nat) : Fld :=
  ⟨17, (0x128 + n * 0x40), 0, 32, .rw, .w, 0, .any, .any⟩

/-- R279 CHK.STAT_n.MATCH: Per R277. -/
def CHK_STAT_MATCH (n : Nat) : Fld :=
  ⟨17, (0x12c + n * 0x40), 0, 1, .ro, .live, 0, .any, .any⟩

/-- The fields of CIPHER, by offset. -/
def rowsCIPHER : List Row :=
  [
  ⟨0x0, 4, 1, fun _ => CIPHER_CTRL_IRQ_EN⟩,
  ⟨0x0, 4, 1, fun _ => CIPHER_CTRL_LOCK⟩,
  ⟨0x4, 4, 1, fun _ => CIPHER_STAT_CH_RUN⟩,
  ⟨0x4, 4, 1, fun _ => CIPHER_STAT_READY⟩,
  ⟨0x8, 4, 1, fun _ => CIPHER_EVT_JOB_DONE⟩,
  ⟨0x8, 4, 1, fun _ => CIPHER_EVT_JOB_ERR⟩,
  ⟨0x8, 4, 1, fun _ => CIPHER_EVT_LANE_MISMATCH⟩,
  ⟨0x8, 4, 1, fun _ => CIPHER_EVT_LOCK_FORCED⟩,
  ⟨0x8, 4, 1, fun _ => CIPHER_EVT_SWKEY_IGNORED⟩,
  ⟨0x10, 4, 1, fun _ => CIPHER_LOCK_OWNER⟩,
  ⟨0x10, 4, 1, fun _ => CIPHER_LOCK_RELEASING⟩,
  ⟨0x14, 4, 1, fun _ => CIPHER_LOCK_CMD_OP⟩,
  ⟨0x14, 4, 1, fun _ => CIPHER_LOCK_CMD_ID⟩,
  ⟨0x18, 4, 1, fun _ => CIPHER_SWKEY_CFG_KSIZE⟩,
  ⟨0x20, 4, 8, fun n => CIPHER_SWKEY n⟩,
  ⟨0x40, 4, 1, fun _ => CIPHER_OWN_EXT_LO⟩,
  ⟨0x44, 4, 1, fun _ => CIPHER_OWN_EXT_HI⟩,
  ⟨0x50, 4, 1, fun _ => CIPHER_LANE_CONSEC⟩,
  ⟨0x50, 4, 1, fun _ => CIPHER_LANE_TOTAL⟩,
  ⟨0x54, 4, 1, fun _ => CIPHER_LANE_CFG_PERSIST⟩,
  ⟨0x58, 4, 1, fun _ => CIPHER_LANE_LOG_OP⟩,
  ⟨0x58, 4, 1, fun _ => CIPHER_LANE_LOG_CTX⟩,
  ⟨0x58, 4, 1, fun _ => CIPHER_LANE_LOG_VALID⟩,
  ⟨0x100, 32, 5, fun n => CIPHER_Q_DESC n⟩] ++ [
  ⟨0x104, 32, 5, fun n => CIPHER_Q_CMD_GO n⟩,
  ⟨0x104, 32, 5, fun n => CIPHER_Q_CMD_ABORT n⟩,
  ⟨0x108, 32, 5, fun n => CIPHER_Q_STAT_STATE n⟩,
  ⟨0x108, 32, 5, fun n => CIPHER_Q_STAT_LAST n⟩,
  ⟨0x108, 32, 5, fun n => CIPHER_Q_STAT_JOBS n⟩,
  ⟨0x10c, 32, 5, fun n => CIPHER_Q_CUR n⟩,
  ⟨0x110, 32, 5, fun n => CIPHER_Q_PROG n⟩]

/-- The fields of KEYS, by offset. -/
def rowsKEYS : List Row :=
  [
  ⟨0x0, 4, 1, fun _ => KEYS_CTRL_IRQ_EN⟩,
  ⟨0x0, 4, 1, fun _ => KEYS_CTRL_LOCK⟩,
  ⟨0x4, 4, 1, fun _ => KEYS_FP_SLOTS_LINK⟩,
  ⟨0x4, 4, 1, fun _ => KEYS_FP_SLOTS_SW⟩,
  ⟨0x8, 4, 1, fun _ => KEYS_EFF_LINK⟩,
  ⟨0x8, 4, 1, fun _ => KEYS_EFF_SW⟩,
  ⟨0xc, 4, 1, fun _ => KEYS_EVT_REVOKE_DONE⟩,
  ⟨0xc, 4, 1, fun _ => KEYS_EVT_PROG_DONE⟩,
  ⟨0xc, 4, 1, fun _ => KEYS_EVT_REFUSED⟩,
  ⟨0x10, 4, 16, fun n => KEYS_SLOT_STATE n⟩,
  ⟨0x10, 4, 16, fun n => KEYS_SLOT_KSIZE n⟩,
  ⟨0x10, 4, 16, fun n => KEYS_SLOT_POLICY n⟩,
  ⟨0x50, 4, 1, fun _ => KEYS_KEYSEQ⟩,
  ⟨0x54, 4, 1, fun _ => KEYS_REVOKE_SLOT⟩,
  ⟨0x54, 4, 1, fun _ => KEYS_REVOKE_GO⟩,
  ⟨0x58, 4, 1, fun _ => KEYS_REVOKE_STAT_BUSY⟩,
  ⟨0x58, 4, 1, fun _ => KEYS_REVOKE_STAT_RESULT⟩,
  ⟨0x5c, 4, 1, fun _ => KEYS_REVOKE_PEND⟩,
  ⟨0x60, 4, 1, fun _ => KEYS_PROG_CFG_SLOT⟩,
  ⟨0x60, 4, 1, fun _ => KEYS_PROG_CFG_KSIZE⟩,
  ⟨0x60, 4, 1, fun _ => KEYS_PROG_CFG_POLICY⟩,
  ⟨0x60, 4, 1, fun _ => KEYS_PROG_CFG_GO⟩,
  ⟨0x64, 4, 8, fun n => KEYS_PROG_DATA n⟩,
  ⟨0x84, 4, 1, fun _ => KEYS_PROG_STAT_BUSY⟩] ++ [
  ⟨0x84, 4, 1, fun _ => KEYS_PROG_STAT_RESULT⟩,
  ⟨0x90, 4, 1, fun _ => KEYS_REFUSE_CNT⟩,
  ⟨0xa0, 4, 1, fun _ => KEYS_IV_CMD_INDEX⟩,
  ⟨0xa0, 4, 1, fun _ => KEYS_IV_CMD_OP⟩,
  ⟨0xa4, 4, 1, fun _ => KEYS_IV_LO⟩,
  ⟨0xa8, 4, 1, fun _ => KEYS_IV_HI⟩]

/-- The fields of ARB, by offset. -/
def rowsARB : List Row :=
  [
  ⟨0x0, 4, 1, fun _ => ARB_CTRL_IRQ_EN⟩,
  ⟨0x0, 4, 1, fun _ => ARB_CTRL_LOCK⟩,
  ⟨0x4, 4, 1, fun _ => ARB_STAT_L_HOLDER⟩,
  ⟨0x4, 4, 1, fun _ => ARB_STAT_L_REMAIN⟩,
  ⟨0x4, 4, 1, fun _ => ARB_STAT_P_HOLDER⟩,
  ⟨0x4, 4, 1, fun _ => ARB_STAT_P_REMAIN⟩,
  ⟨0x8, 4, 1, fun _ => ARB_EVT_HINT_EXP⟩,
  ⟨0x10, 4, 5, fun n => ARB_TKT_TICKETS n⟩,
  ⟨0x10, 4, 5, fun n => ARB_TKT_BURST n⟩,
  ⟨0x30, 4, 1, fun _ => ARB_LFSR_LANE⟩,
  ⟨0x30, 4, 1, fun _ => ARB_LFSR_PORT⟩,
  ⟨0x34, 4, 1, fun _ => ARB_SEED⟩,
  ⟨0x38, 4, 1, fun _ => ARB_HINT_CFG_MIN_BLOCKS⟩,
  ⟨0x3c, 4, 1, fun _ => ARB_HINT_CMD_Q⟩,
  ⟨0x3c, 4, 1, fun _ => ARB_HINT_CMD_PORT⟩,
  ⟨0x3c, 4, 1, fun _ => ARB_HINT_CMD_GO⟩,
  ⟨0x40, 4, 5, fun n => ARB_WINS_LANE n⟩,
  ⟨0x40, 4, 5, fun n => ARB_WINS_PORT n⟩,
  ⟨0x60, 4, 1, fun _ => ARB_HINT_CNT_POSTED⟩,
  ⟨0x60, 4, 1, fun _ => ARB_HINT_CNT_EXPIRED⟩,
  ⟨0x64, 4, 1, fun _ => ARB_AGE_CFG_LIMIT⟩,
  ⟨0x68, 4, 1, fun _ => ARB_AGE_CNT_LANE⟩,
  ⟨0x68, 4, 1, fun _ => ARB_AGE_CNT_PORT⟩]

/-- The fields of PBM, by offset. -/
def rowsPBM : List Row :=
  [
  ⟨0x0, 4, 1, fun _ => PBM_CTRL_IRQ_EN⟩,
  ⟨0x0, 4, 1, fun _ => PBM_CTRL_AUDIT_EN⟩,
  ⟨0x0, 4, 1, fun _ => PBM_CTRL_LOCK⟩,
  ⟨0x4, 4, 1, fun _ => PBM_STAT_ZEROING⟩,
  ⟨0x4, 4, 1, fun _ => PBM_STAT_RECLAIMING⟩,
  ⟨0x8, 4, 1, fun _ => PBM_EVT_LEDGER_ERR⟩,
  ⟨0x8, 4, 1, fun _ => PBM_EVT_RECLAIM⟩,
  ⟨0x8, 4, 1, fun _ => PBM_EVT_REFUSED⟩,
  ⟨0x10, 4, 1, fun _ => PBM_A_CMD_OP⟩,
  ⟨0x10, 4, 1, fun _ => PBM_A_CMD_FROM⟩,
  ⟨0x10, 4, 1, fun _ => PBM_A_CMD_TO⟩,
  ⟨0x10, 4, 1, fun _ => PBM_A_CMD_COUNT⟩,
  ⟨0x10, 4, 1, fun _ => PBM_A_CMD_HEAD⟩,
  ⟨0x14, 4, 1, fun _ => PBM_A_RES_RESULT⟩,
  ⟨0x14, 4, 1, fun _ => PBM_A_RES_BUSY⟩,
  ⟨0x14, 4, 1, fun _ => PBM_A_RES_COUNT⟩,
  ⟨0x14, 4, 1, fun _ => PBM_A_RES_HEAD⟩,
  ⟨0x18, 4, 1, fun _ => PBM_L_CMD⟩,
  ⟨0x1c, 4, 1, fun _ => PBM_L_RES⟩,
  ⟨0x20, 4, 1, fun _ => PBM_A_DESC_SEL_INDEX⟩,
  ⟨0x24, 4, 1, fun _ => PBM_A_DESC⟩,
  ⟨0x28, 4, 1, fun _ => PBM_L_DESC_SEL_INDEX⟩,
  ⟨0x2c, 4, 1, fun _ => PBM_L_DESC⟩,
  ⟨0x40, 4, 9, fun n => PBM_LEDGER n⟩] ++ [
  ⟨0x80, 4, 9, fun n => PBM_SHARE n⟩,
  ⟨0xc0, 4, 1, fun _ => PBM_CREDITS_HOST⟩,
  ⟨0xc0, 4, 1, fun _ => PBM_CREDITS_DEV⟩,
  ⟨0xc4, 4, 1, fun _ => PBM_TOKENS_PORCH⟩,
  ⟨0xc4, 4, 1, fun _ => PBM_TOKENS_CIPHER⟩,
  ⟨0xd0, 4, 1, fun _ => PBM_LEDGER_LOG_KIND⟩,
  ⟨0xd0, 4, 1, fun _ => PBM_LEDGER_LOG_DETAIL⟩,
  ⟨0xd0, 4, 1, fun _ => PBM_LEDGER_LOG_VALID⟩,
  ⟨0xd4, 4, 1, fun _ => PBM_LEDGER_VAL_EXPECT⟩,
  ⟨0xd4, 4, 1, fun _ => PBM_LEDGER_VAL_FOUND⟩,
  ⟨0xd8, 4, 1, fun _ => PBM_RECLAIM_LOG_OWNER⟩,
  ⟨0xd8, 4, 1, fun _ => PBM_RECLAIM_LOG_COUNT⟩,
  ⟨0xd8, 4, 1, fun _ => PBM_RECLAIM_LOG_CAUSE⟩,
  ⟨0xdc, 4, 1, fun _ => PBM_RECLAIM_CNT⟩,
  ⟨0xe0, 4, 1, fun _ => PBM_AUDIT_CNT⟩]

/-- The fields of CHK, by offset. -/
def rowsCHK : List Row :=
  [
  ⟨0x0, 4, 1, fun _ => CHK_CTRL_LOCK⟩,
  ⟨0x100, 64, 4, fun n => CHK_CFG_USE n⟩,
  ⟨0x100, 64, 4, fun n => CHK_CFG_FOLD_EN n⟩,
  ⟨0x104, 64, 4, fun n => CHK_CMD_START n⟩,
  ⟨0x108, 64, 4, fun n => CHK_INIT n⟩,
  ⟨0x10c, 64, 4, fun n => CHK_FOLD n⟩,
  ⟨0x110, 64, 4, fun n => CHK_DIN_W n⟩,
  ⟨0x114, 64, 4, fun n => CHK_DIN_H n⟩,
  ⟨0x118, 64, 4, fun n => CHK_DIN_B n⟩,
  ⟨0x11c, 64, 4, fun n => CHK_RUN n⟩,
  ⟨0x120, 64, 4, fun n => CHK_RESULT n⟩,
  ⟨0x124, 64, 4, fun n => CHK_COUNT n⟩,
  ⟨0x128, 64, 4, fun n => CHK_EXPECT n⟩,
  ⟨0x12c, 64, 4, fun n => CHK_STAT_MATCH n⟩]

end Sys2Proof.Machine.R
end

