-- ==== Sys2Proof/Machine/RegsClock.lean ====
section
/-!
DEFINITION. Machine/RegsClock.lean: the CAL, TIM, EVM, watchdog and LPTIM registers (R419, R438, R439, R440), one field a definition, written from the
spec's register tables: place, width, access code, Keep class, Reset value, stated range, writer.
-/
namespace Sys2Proof.Machine.R

open Sys2Proof

/-- R419 CAL.CTRL.IRQ_EN: 1 routes EV_CAL, raised by any EVT bit and any FIRED bit, to the event matrix. -/
def CAL_CTRL_IRQ_EN : Fld :=
  ⟨22, 0x0, 0, 1, .rwl, .w, 0, .any, .any⟩

/-- R419 CAL.CTRL.LOCK: LOCK bit of CAL, per R8. -/
def CAL_CTRL_LOCK : Fld :=
  ⟨22, 0x0, 31, 1, .w1s, .w, 0, .any, .any⟩

/-- R419 CAL.STAT.OSF: Per R405 to R407. -/
def CAL_STAT_OSF : Fld :=
  ⟨22, 0x4, 0, 1, .w1c, .b, 1, .any, .any⟩

/-- R419 CAL.STAT.EPOCH_WRAP: Set under R404. -/
def CAL_STAT_EPOCH_WRAP : Fld :=
  ⟨22, 0x4, 1, 1, .w1c, .b, 0, .any, .any⟩

/-- R419 CAL.STAT.OSC_RUN: LFXO running. -/
def CAL_STAT_OSC_RUN : Fld :=
  ⟨22, 0x4, 2, 1, .ro, .live, 1, .any, .any⟩

/-- R419 CAL.STAT.ON_BACKUP: PD_CAL fed from VBACKUP. -/
def CAL_STAT_ON_BACKUP : Fld :=
  ⟨22, 0x4, 3, 1, .ro, .live, 0, .any, .any⟩

/-- R419 CAL.STAT.BACKUP_SEEN: Set under R408. -/
def CAL_STAT_BACKUP_SEEN : Fld :=
  ⟨22, 0x4, 4, 1, .w1c, .b, 0, .any, .any⟩

/-- R419 CAL.STAT.PPS_LOST: Per R417. -/
def CAL_STAT_PPS_LOST : Fld :=
  ⟨22, 0x4, 5, 1, .ro, .live, 0, .any, .any⟩

/-- R419 CAL.TIME: Present time, TIME layout. -/
def CAL_TIME : Fld :=
  ⟨22, 0x8, 0, 21, .ro, .b, 0, .any, .any⟩

/-- R419 CAL.DATE: Present date, DATE layout. -/
def CAL_DATE : Fld :=
  ⟨22, 0xc, 0, 27, .ro, .b, 83886337, .any, .any⟩

/-- R419 CAL.SUBSEC: 1/32 768 s, per R404. -/
def CAL_SUBSEC : Fld :=
  ⟨22, 0x10, 0, 15, .ro, .b, 0, .any, .any⟩

/-- R419 CAL.SH_TIME: Shadow time, per R410. -/
def CAL_SH_TIME : Fld :=
  ⟨22, 0x14, 0, 21, .rw, .b, 0, .any, .any⟩

/-- R419 CAL.SH_DATE: Shadow date; WDAY is derived. -/
def CAL_SH_DATE : Fld :=
  ⟨22, 0x18, 0, 24, .rw, .b, 257, .any, .any⟩

/-- R419 CAL.COMMIT.GO: Commits the shadows, per R410. -/
def CAL_COMMIT_GO : Fld :=
  ⟨22, 0x1c, 0, 1, .wo, .w, 0, .any, .any⟩

/-- R419 CAL.COMMIT_STAT.BUSY: Commit pending. -/
def CAL_COMMIT_STAT_BUSY : Fld :=
  ⟨22, 0x20, 0, 1, .ro, .live, 0, .any, .any⟩

/-- R419 CAL.COMMIT_STAT.RESULT: Per the table under R411. -/
def CAL_COMMIT_STAT_RESULT : Fld :=
  ⟨22, 0x20, 1, 2, .ro, .w, 0, .any, .any⟩

/-- R419 CAL.COMMIT_STAT.SET_SINCE_OSF: Per R407. -/
def CAL_COMMIT_STAT_SET_SINCE_OSF : Fld :=
  ⟨22, 0x20, 4, 1, .ro, .b, 0, .any, .any⟩

/-- R419 CAL.CAPTURE.GO: Captures the time, per R409. -/
def CAL_CAPTURE_GO : Fld :=
  ⟨22, 0x24, 0, 1, .wo, .w, 0, .any, .any⟩

/-- R419 CAL.CAP_STAT.DONE: Capture complete. -/
def CAL_CAP_STAT_DONE : Fld :=
  ⟨22, 0x28, 0, 1, .ro, .w, 0, .any, .any⟩

/-- R419 CAL.CAP_TIME: Captured time. -/
def CAL_CAP_TIME : Fld :=
  ⟨22, 0x2c, 0, 21, .ro, .w, 0, .any, .any⟩

/-- R419 CAL.CAP_DATE: Captured date. -/
def CAL_CAP_DATE : Fld :=
  ⟨22, 0x30, 0, 27, .ro, .w, 0, .any, .any⟩

/-- R419 CAL.CAP_SUBSEC: Captured sub-second count. -/
def CAL_CAP_SUBSEC : Fld :=
  ⟨22, 0x34, 0, 15, .ro, .w, 0, .any, .any⟩

/-- R419 CAL.ALARM_n_TIME: Alarm instant, per R412. -/
def CAL_ALARM_TIME (n : Nat) : Fld :=
  ⟨22, (0x40 + n * 0x10), 0, 21, .rw, .b, 0, .any, .any⟩

/-- R419 CAL.ALARM_n_DATE: Alarm date. -/
def CAL_ALARM_DATE (n : Nat) : Fld :=
  ⟨22, (0x44 + n * 0x10), 0, 24, .rw, .b, 257, .any, .any⟩

/-- R419 CAL.ALARM_CMD.ARM: Bit n arms alarm n. -/
def CAL_ALARM_CMD_ARM : Fld :=
  ⟨22, 0x60, 0, 2, .wo, .w, 0, .any, .any⟩

/-- R419 CAL.ALARM_CMD.DISARM: Bit 8 + n disarms alarm n. -/
def CAL_ALARM_CMD_DISARM : Fld :=
  ⟨22, 0x60, 8, 2, .wo, .w, 0, .any, .any⟩

/-- R419 CAL.ALARM_STAT.ARMED: Alarm armed. -/
def CAL_ALARM_STAT_ARMED : Fld :=
  ⟨22, 0x64, 0, 2, .ro, .b, 0, .any, .any⟩

/-- R419 CAL.ALARM_STAT.FIRED: Per R413. -/
def CAL_ALARM_STAT_FIRED : Fld :=
  ⟨22, 0x64, 8, 2, .w1c, .b, 0, .any, .any⟩

/-- R419 CAL.ALARM_STAT.SKIPPED: Per R413. -/
def CAL_ALARM_STAT_SKIPPED : Fld :=
  ⟨22, 0x64, 16, 2, .w1c, .b, 0, .any, .any⟩

/-- R419 CAL.ALARM_STAT.INVALID: Arming refused, per R412. -/
def CAL_ALARM_STAT_INVALID : Fld :=
  ⟨22, 0x64, 24, 2, .w1c, .b, 0, .any, .any⟩

/-- R419 CAL.TRIM.VALUE: Signed, 2^−22 units, per R415. -/
def CAL_TRIM_VALUE : Fld :=
  ⟨22, 0x70, 0, 13, .rw, .b, 0, .signed (-2147) 2147, .any⟩

/-- R419 CAL.TRIM_CFG.MODE: 0 MANUAL, 1 PPS, 2 MESH, 3 AUTO. -/
def CAL_TRIM_CFG_MODE : Fld :=
  ⟨22, 0x74, 0, 2, .rw, .b, 0, .any, .any⟩

/-- R419 CAL.TRIM_CFG.INTERVAL: Seconds, 1 to 64. -/
def CAL_TRIM_CFG_INTERVAL : Fld :=
  ⟨22, 0x74, 8, 6, .rw, .b, 16, .between 1 64, .any⟩

/-- R419 CAL.TRIM_CFG.GAIN: 0 to 7, per R416. -/
def CAL_TRIM_CFG_GAIN : Fld :=
  ⟨22, 0x74, 16, 3, .rw, .b, 2, .any, .any⟩

/-- R419 CAL.TRIM_CFG.PPS_EDGE: 0 rising, 1 falling. -/
def CAL_TRIM_CFG_PPS_EDGE : Fld :=
  ⟨22, 0x74, 20, 1, .rw, .b, 0, .any, .any⟩

/-- R419 CAL.TRIM_STAT.SRC_LAST: 0 none, 1 PPS, 2 MESH. -/
def CAL_TRIM_STAT_SRC_LAST : Fld :=
  ⟨22, 0x78, 0, 2, .ro, .b, 0, .any, .any⟩

/-- R419 CAL.TRIM_STAT.LIMIT: Per R416. -/
def CAL_TRIM_STAT_LIMIT : Fld :=
  ⟨22, 0x78, 2, 1, .w1c, .b, 0, .any, .any⟩

/-- R419 CAL.TRIM_STAT.UPDATES: Updates; saturates at 0xFFFF. -/
def CAL_TRIM_STAT_UPDATES : Fld :=
  ⟨22, 0x78, 16, 16, .ro, .b, 0, .any, .any⟩

/-- R419 CAL.TRIM_ERR: Last residual R, signed, saturating. -/
def CAL_TRIM_ERR : Fld :=
  ⟨22, 0x7c, 0, 16, .ro, .b, 0, .any, .any⟩

/-- R419 CAL.PPS_CNT: Last count C, per R417. -/
def CAL_PPS_CNT : Fld :=
  ⟨22, 0x80, 0, 22, .ro, .b, 0, .any, .any⟩

/-- R419 CAL.PPS_REJ: Rejected edges; saturates at 0xFFFF. -/
def CAL_PPS_REJ : Fld :=
  ⟨22, 0x84, 0, 16, .ro, .b, 0, .any, .any⟩

/-- R419 CAL.EVT.COMMIT_DONE: Set under R410. -/
def CAL_EVT_COMMIT_DONE : Fld :=
  ⟨22, 0x88, 0, 1, .w1c, .w, 0, .any, .any⟩

/-- R419 CAL.EVT.TRIM_UPD: Set under R416. -/
def CAL_EVT_TRIM_UPD : Fld :=
  ⟨22, 0x88, 1, 1, .w1c, .w, 0, .any, .any⟩

/-- R419 CAL.EVT.PPS_REJ: Set under R417. -/
def CAL_EVT_PPS_REJ : Fld :=
  ⟨22, 0x88, 2, 1, .w1c, .w, 0, .any, .any⟩

/-- R419 CAL.EVT.OSC_STOP: Set under R406. -/
def CAL_EVT_OSC_STOP : Fld :=
  ⟨22, 0x88, 3, 1, .w1c, .w, 0, .any, .any⟩

/-- R438 TIM.CTRL.EN: Counting on, per R421. -/
def TIM_CTRL_EN (t : Nat) : Fld :=
  ⟨(25 + t), 0x0, 0, 1, .rw, .w, 0, .any, .any⟩

/-- R438 TIM.CTRL.IE_CMP0: Per R435. -/
def TIM_CTRL_IE_CMP0 (t : Nat) : Fld :=
  ⟨(25 + t), 0x0, 1, 1, .rw, .w, 0, .any, .any⟩

/-- R438 TIM.CTRL.IE_CMP1: Per R435. -/
def TIM_CTRL_IE_CMP1 (t : Nat) : Fld :=
  ⟨(25 + t), 0x0, 2, 1, .rw, .w, 0, .any, .any⟩

/-- R438 TIM.CTRL.IE_CAP: Per R435. -/
def TIM_CTRL_IE_CAP (t : Nat) : Fld :=
  ⟨(25 + t), 0x0, 3, 1, .rw, .w, 0, .any, .any⟩

/-- R438 TIM.CTRL.IE_WRAP: Per R435. -/
def TIM_CTRL_IE_WRAP (t : Nat) : Fld :=
  ⟨(25 + t), 0x0, 4, 1, .rw, .w, 0, .any, .any⟩

/-- R438 TIM.CTRL.LOCK: LOCK bit of TIM_n, per R8; in TIM_0 it also locks the EVM_ fields. -/
def TIM_CTRL_LOCK (t : Nat) : Fld :=
  ⟨(25 + t), 0x0, 31, 1, .w1s, .w, 0, .any, .any⟩

/-- R438 TIM.CFG.LINK: Forms a pair, per R425. -/
def TIM_CFG_LINK (t : Nat) : Fld :=
  ⟨(25 + t), 0x4, 0, 1, .rwl, .w, 0, .any, .any⟩

/-- R438 TIM.CFG.DBG_FREEZE: Per R430. -/
def TIM_CFG_DBG_FREEZE (t : Nat) : Fld :=
  ⟨(25 + t), 0x4, 1, 1, .rwl, .w, 1, .any, .any⟩

/-- R438 TIM.CFG.GATE_EN: Per R423. -/
def TIM_CFG_GATE_EN (t : Nat) : Fld :=
  ⟨(25 + t), 0x4, 2, 1, .rwl, .w, 0, .any, .any⟩

/-- R438 TIM.CFG.GATE_POL: 0 high, 1 low. -/
def TIM_CFG_GATE_POL (t : Nat) : Fld :=
  ⟨(25 + t), 0x4, 3, 1, .rwl, .w, 0, .any, .any⟩

/-- R438 TIM.CFG.GATE_PIN: GPIO number, 0 to 31. -/
def TIM_CFG_GATE_PIN (t : Nat) : Fld :=
  ⟨(25 + t), 0x4, 4, 5, .rwl, .w, 0, .any, .any⟩

/-- R438 TIM.CFG.RELOAD_EN: Per R428. -/
def TIM_CFG_RELOAD_EN (t : Nat) : Fld :=
  ⟨(25 + t), 0x4, 12, 1, .rw, .w, 0, .any, .any⟩

/-- R438 TIM.CFG.RST_ON_CMP0: Per R428. -/
def TIM_CFG_RST_ON_CMP0 (t : Nat) : Fld :=
  ⟨(25 + t), 0x4, 13, 1, .rw, .w, 0, .any, .any⟩

/-- R438 TIM.CFG.START_EN: Per R428. -/
def TIM_CFG_START_EN (t : Nat) : Fld :=
  ⟨(25 + t), 0x4, 14, 1, .rw, .w, 0, .any, .any⟩

/-- R438 TIM.CFG.START_SEL: Event number, 0 to 63. -/
def TIM_CFG_START_SEL (t : Nat) : Fld :=
  ⟨(25 + t), 0x4, 16, 6, .rw, .w, 0, .any, .any⟩

/-- R438 TIM.PSC: Divider − 1, per R421. -/
def TIM_PSC (t : Nat) : Fld :=
  ⟨(25 + t), 0x8, 0, 16, .rwl, .w, 0, .any, .any⟩

/-- R438 TIM.CNT: Count; written only while EN is 0. -/
def TIM_CNT (t : Nat) : Fld :=
  ⟨(25 + t), 0xc, 0, 32, .rw, .w, 0, .any, .any⟩

/-- R438 TIM.CMP0: Per R422 and R426. -/
def TIM_CMP0 (t : Nat) : Fld :=
  ⟨(25 + t), 0x10, 0, 32, .rw, .w, 4294967295, .any, .any⟩

/-- R438 TIM.CMP1: Per R422. -/
def TIM_CMP1 (t : Nat) : Fld :=
  ⟨(25 + t), 0x14, 0, 32, .rw, .w, 4294967295, .any, .any⟩

/-- R438 TIM.TOP: Per R428 and R429. -/
def TIM_TOP (t : Nat) : Fld :=
  ⟨(25 + t), 0x18, 0, 32, .rw, .w, 4294967295, .any, .any⟩

/-- R438 TIM.CAP_CFG.SEL: Per R424; values above 95 are ignored. -/
def TIM_CAP_CFG_SEL (t : Nat) : Fld :=
  ⟨(25 + t), 0x1c, 0, 7, .rw, .w, 0, .between 0 95, .any⟩

/-- R438 TIM.CAP_CFG.EDGE: 1 rising, 2 falling, 3 both. -/
def TIM_CAP_CFG_EDGE (t : Nat) : Fld :=
  ⟨(25 + t), 0x1c, 8, 2, .rw, .w, 1, .oneOf [1, 2, 3], .any⟩

/-- R438 TIM.CAP_CFG.FILT: PERIPH cycles, 0 to 255. -/
def TIM_CAP_CFG_FILT (t : Nat) : Fld :=
  ⟨(25 + t), 0x1c, 12, 8, .rw, .w, 0, .any, .any⟩

/-- R438 TIM.CAP_CFG.PRE: Capture every 2^PRE edges. -/
def TIM_CAP_CFG_PRE (t : Nat) : Fld :=
  ⟨(25 + t), 0x1c, 20, 2, .rw, .w, 0, .any, .any⟩

/-- R438 TIM.CAP_CFG.EN: Capture on. -/
def TIM_CAP_CFG_EN (t : Nat) : Fld :=
  ⟨(25 + t), 0x1c, 24, 1, .rw, .w, 0, .any, .any⟩

/-- R438 TIM.CAP: Captured count. -/
def TIM_CAP (t : Nat) : Fld :=
  ⟨(25 + t), 0x20, 0, 32, .ro, .w, 0, .any, .any⟩

/-- R438 TIM.STAT.CMP0: Per R422. -/
def TIM_STAT_CMP0 (t : Nat) : Fld :=
  ⟨(25 + t), 0x24, 0, 1, .w1c, .w, 0, .any, .any⟩

/-- R438 TIM.STAT.CMP1: Per R422. -/
def TIM_STAT_CMP1 (t : Nat) : Fld :=
  ⟨(25 + t), 0x24, 1, 1, .w1c, .w, 0, .any, .any⟩

/-- R438 TIM.STAT.CAP: Per R424. -/
def TIM_STAT_CAP (t : Nat) : Fld :=
  ⟨(25 + t), 0x24, 2, 1, .w1c, .w, 0, .any, .any⟩

/-- R438 TIM.STAT.WRAP: Per R421 and R428. -/
def TIM_STAT_WRAP (t : Nat) : Fld :=
  ⟨(25 + t), 0x24, 3, 1, .w1c, .w, 0, .any, .any⟩

/-- R438 TIM.STAT.TOP_MISSED: Per R429. -/
def TIM_STAT_TOP_MISSED (t : Nat) : Fld :=
  ⟨(25 + t), 0x24, 4, 1, .w1c, .w, 0, .any, .any⟩

/-- R438 TIM.STAT.CAP_OVR: Per R424. -/
def TIM_STAT_CAP_OVR (t : Nat) : Fld :=
  ⟨(25 + t), 0x24, 5, 1, .w1c, .w, 0, .any, .any⟩

/-- R438 TIM.SNAP_CMD.GO: Per R427. -/
def TIM_SNAP_CMD_GO (t : Nat) : Fld :=
  ⟨(25 + t), 0x28, 0, 1, .wo, .w, 0, .any, .any⟩

/-- R438 TIM.SNAP_LO: Pair count [31:0]. -/
def TIM_SNAP_LO (t : Nat) : Fld :=
  ⟨(25 + t), 0x2c, 0, 32, .ro, .w, 0, .any, .any⟩

/-- R438 TIM.SNAP_HI: Pair count [63:32]. -/
def TIM_SNAP_HI (t : Nat) : Fld :=
  ⟨(25 + t), 0x30, 0, 32, .ro, .w, 0, .any, .any⟩

/-- R439 EVM.EVM_IRQ_EN_0: Bit k routes event k, per R436. -/
def EVM_IRQ_EN_0 : Fld :=
  ⟨25, 0x800, 0, 32, .rwl, .w, 0, .any, .any⟩

/-- R439 EVM.EVM_IRQ_EN_1: Bit k routes event 32 + k. -/
def EVM_IRQ_EN_1 : Fld :=
  ⟨25, 0x804, 0, 32, .rwl, .w, 0, .any, .any⟩

/-- R439 EVM.EVM_STAT_0: Levels of events 0 to 31. -/
def EVM_STAT_0 : Fld :=
  ⟨25, 0x808, 0, 32, .ro, .live, 0, .any, .any⟩

/-- R439 EVM.EVM_STAT_1: Levels of events 32 to 63. -/
def EVM_STAT_1 : Fld :=
  ⟨25, 0x80c, 0, 32, .ro, .live, 0, .any, .any⟩

/-- R439 EVM.EVM_ADC_TRIG.SEL: Per R437. -/
def EVM_ADC_TRIG_SEL : Fld :=
  ⟨25, 0x810, 0, 6, .rwl, .w, 0, .any, .any⟩

/-- R439 EVM.EVM_ADC_TRIG.EN: Trigger on. -/
def EVM_ADC_TRIG_EN : Fld :=
  ⟨25, 0x810, 8, 1, .rwl, .w, 0, .any, .any⟩

/-- R439 EVM.EVM_SW: Levels of EV_SW_0 to EV_SW_3. -/
def EVM_SW : Fld :=
  ⟨25, 0x814, 0, 4, .rw, .w, 0, .any, .any⟩

/-- R439 EVM.WDA_CFG.TMO_T: Ticks, per R432. -/
def WDA_CFG_TMO_T : Fld :=
  ⟨25, 0xc00, 0, 16, .rw, .c, 2048, .between 1 65535, .any⟩

/-- R439 EVM.WDA_CFG.WIN_T: Window, per R433. -/
def WDA_CFG_WIN_T : Fld :=
  ⟨25, 0xc00, 16, 16, .rw, .c, 0, .any, .any⟩

/-- R439 EVM.WDA_CFG2.WARN_T: Warning lead, per R432. -/
def WDA_CFG2_WARN_T : Fld :=
  ⟨25, 0xc04, 0, 16, .rw, .c, 0, .any, .any⟩

/-- R439 EVM.WDA_CFG2.IDLE_PAUSE: Per R434. -/
def WDA_CFG2_IDLE_PAUSE : Fld :=
  ⟨25, 0xc04, 16, 1, .rw, .c, 0, .any, .any⟩

/-- R439 EVM.WDA_CTRL.EN: Per R432. -/
def WDA_CTRL_EN : Fld :=
  ⟨25, 0xc08, 0, 1, .w1s, .c, 0, .any, .any⟩

/-- R439 EVM.WDA_KICK.KEY: Per R433; application core. -/
def WDA_KICK_KEY : Fld :=
  ⟨25, 0xc0c, 0, 16, .wo, .w, 0, .any, .app⟩

/-- R439 EVM.WDA_STAT.COUNT: Ticks since the last kick. -/
def WDA_STAT_COUNT : Fld :=
  ⟨25, 0xc10, 0, 16, .ro, .live, 0, .any, .any⟩

/-- R439 EVM.WDA_STAT.EARLY: Last WDT_APP was an early kick. -/
def WDA_STAT_EARLY : Fld :=
  ⟨25, 0xc10, 16, 1, .w1c, .c, 0, .any, .any⟩

/-- R439 EVM.WDL_CFG.TMO_T: As WDA. -/
def WDL_CFG_TMO_T : Fld :=
  ⟨25, 0xc20, 0, 16, .rw, .c, 256, .between 1 65535, .any⟩

/-- R439 EVM.WDL_CFG.WIN_T: As WDA. -/
def WDL_CFG_WIN_T : Fld :=
  ⟨25, 0xc20, 16, 16, .rw, .c, 0, .any, .any⟩

/-- R439 EVM.WDL_CFG2.WARN_T: As WDA. -/
def WDL_CFG2_WARN_T : Fld :=
  ⟨25, 0xc24, 0, 16, .rw, .c, 0, .any, .any⟩

/-- R439 EVM.WDL_CTRL.EN: As WDA. -/
def WDL_CTRL_EN : Fld :=
  ⟨25, 0xc28, 0, 1, .w1s, .c, 0, .any, .any⟩

/-- R439 EVM.WDL_STAT.COUNT: As WDA. -/
def WDL_STAT_COUNT : Fld :=
  ⟨25, 0xc30, 0, 16, .ro, .live, 0, .any, .any⟩

/-- R439 EVM.WDL_STAT.EARLY: Last WDT_LINK was an early kick. -/
def WDL_STAT_EARLY : Fld :=
  ⟨25, 0xc30, 16, 1, .w1c, .c, 0, .any, .any⟩

/-- R440 LPTIM.CTRL.EN: Counting on. -/
def LPTIM_CTRL_EN (t : Nat) : Fld :=
  ⟨(23 + t), 0x0, 0, 1, .rw, .c, 0, .any, .any⟩

/-- R440 LPTIM.CTRL.DBG_FREEZE: Per R430. -/
def LPTIM_CTRL_DBG_FREEZE (t : Nat) : Fld :=
  ⟨(23 + t), 0x0, 1, 1, .rw, .c, 1, .any, .any⟩

/-- R440 LPTIM.CTRL.IE: Per R431. -/
def LPTIM_CTRL_IE (t : Nat) : Fld :=
  ⟨(23 + t), 0x0, 2, 1, .rw, .c, 0, .any, .any⟩

/-- R440 LPTIM.CTRL.LOCK: LOCK bit of LPTIM_n, per R8. -/
def LPTIM_CTRL_LOCK (t : Nat) : Fld :=
  ⟨(23 + t), 0x0, 31, 1, .w1s, .c, 0, .any, .any⟩

/-- R440 LPTIM.PSC: Divide by 2^PSC. -/
def LPTIM_PSC (t : Nat) : Fld :=
  ⟨(23 + t), 0x4, 0, 4, .rwl, .c, 0, .any, .any⟩

/-- R440 LPTIM.CNT: Written only while EN is 0. -/
def LPTIM_CNT (t : Nat) : Fld :=
  ⟨(23 + t), 0x8, 0, 32, .rw, .c, 0, .any, .any⟩

/-- R440 LPTIM.MATCH: Absolute compare. -/
def LPTIM_MATCH (t : Nat) : Fld :=
  ⟨(23 + t), 0xc, 0, 32, .rw, .c, 4294967295, .any, .any⟩

/-- R440 LPTIM.STAT.MATCH: Per R431. -/
def LPTIM_STAT_MATCH (t : Nat) : Fld :=
  ⟨(23 + t), 0x10, 0, 1, .w1c, .c, 0, .any, .any⟩

/-- R440 LPTIM.STAT.WRAP: CNT stepped to 0. -/
def LPTIM_STAT_WRAP (t : Nat) : Fld :=
  ⟨(23 + t), 0x10, 1, 1, .w1c, .c, 0, .any, .any⟩

/-- The fields of CAL, by offset. -/
def rowsCAL : List Row :=
  [
  ⟨0x0, 4, 1, fun _ => CAL_CTRL_IRQ_EN⟩,
  ⟨0x0, 4, 1, fun _ => CAL_CTRL_LOCK⟩,
  ⟨0x4, 4, 1, fun _ => CAL_STAT_OSF⟩,
  ⟨0x4, 4, 1, fun _ => CAL_STAT_EPOCH_WRAP⟩,
  ⟨0x4, 4, 1, fun _ => CAL_STAT_OSC_RUN⟩,
  ⟨0x4, 4, 1, fun _ => CAL_STAT_ON_BACKUP⟩,
  ⟨0x4, 4, 1, fun _ => CAL_STAT_BACKUP_SEEN⟩,
  ⟨0x4, 4, 1, fun _ => CAL_STAT_PPS_LOST⟩,
  ⟨0x8, 4, 1, fun _ => CAL_TIME⟩,
  ⟨0xc, 4, 1, fun _ => CAL_DATE⟩,
  ⟨0x10, 4, 1, fun _ => CAL_SUBSEC⟩,
  ⟨0x14, 4, 1, fun _ => CAL_SH_TIME⟩,
  ⟨0x18, 4, 1, fun _ => CAL_SH_DATE⟩,
  ⟨0x1c, 4, 1, fun _ => CAL_COMMIT_GO⟩,
  ⟨0x20, 4, 1, fun _ => CAL_COMMIT_STAT_BUSY⟩,
  ⟨0x20, 4, 1, fun _ => CAL_COMMIT_STAT_RESULT⟩,
  ⟨0x20, 4, 1, fun _ => CAL_COMMIT_STAT_SET_SINCE_OSF⟩,
  ⟨0x24, 4, 1, fun _ => CAL_CAPTURE_GO⟩,
  ⟨0x28, 4, 1, fun _ => CAL_CAP_STAT_DONE⟩,
  ⟨0x2c, 4, 1, fun _ => CAL_CAP_TIME⟩,
  ⟨0x30, 4, 1, fun _ => CAL_CAP_DATE⟩,
  ⟨0x34, 4, 1, fun _ => CAL_CAP_SUBSEC⟩,
  ⟨0x40, 16, 2, fun n => CAL_ALARM_TIME n⟩,
  ⟨0x44, 16, 2, fun n => CAL_ALARM_DATE n⟩] ++ [
  ⟨0x60, 4, 1, fun _ => CAL_ALARM_CMD_ARM⟩,
  ⟨0x60, 4, 1, fun _ => CAL_ALARM_CMD_DISARM⟩,
  ⟨0x64, 4, 1, fun _ => CAL_ALARM_STAT_ARMED⟩,
  ⟨0x64, 4, 1, fun _ => CAL_ALARM_STAT_FIRED⟩,
  ⟨0x64, 4, 1, fun _ => CAL_ALARM_STAT_SKIPPED⟩,
  ⟨0x64, 4, 1, fun _ => CAL_ALARM_STAT_INVALID⟩,
  ⟨0x70, 4, 1, fun _ => CAL_TRIM_VALUE⟩,
  ⟨0x74, 4, 1, fun _ => CAL_TRIM_CFG_MODE⟩,
  ⟨0x74, 4, 1, fun _ => CAL_TRIM_CFG_INTERVAL⟩,
  ⟨0x74, 4, 1, fun _ => CAL_TRIM_CFG_GAIN⟩,
  ⟨0x74, 4, 1, fun _ => CAL_TRIM_CFG_PPS_EDGE⟩,
  ⟨0x78, 4, 1, fun _ => CAL_TRIM_STAT_SRC_LAST⟩,
  ⟨0x78, 4, 1, fun _ => CAL_TRIM_STAT_LIMIT⟩,
  ⟨0x78, 4, 1, fun _ => CAL_TRIM_STAT_UPDATES⟩,
  ⟨0x7c, 4, 1, fun _ => CAL_TRIM_ERR⟩,
  ⟨0x80, 4, 1, fun _ => CAL_PPS_CNT⟩,
  ⟨0x84, 4, 1, fun _ => CAL_PPS_REJ⟩,
  ⟨0x88, 4, 1, fun _ => CAL_EVT_COMMIT_DONE⟩,
  ⟨0x88, 4, 1, fun _ => CAL_EVT_TRIM_UPD⟩,
  ⟨0x88, 4, 1, fun _ => CAL_EVT_PPS_REJ⟩,
  ⟨0x88, 4, 1, fun _ => CAL_EVT_OSC_STOP⟩]

/-- The fields of TIM, by offset. -/
def rowsTIM (t : Nat) : List Row :=
  [
  ⟨0x0, 4, 1, fun _ => TIM_CTRL_EN t⟩,
  ⟨0x0, 4, 1, fun _ => TIM_CTRL_IE_CMP0 t⟩,
  ⟨0x0, 4, 1, fun _ => TIM_CTRL_IE_CMP1 t⟩,
  ⟨0x0, 4, 1, fun _ => TIM_CTRL_IE_CAP t⟩,
  ⟨0x0, 4, 1, fun _ => TIM_CTRL_IE_WRAP t⟩,
  ⟨0x0, 4, 1, fun _ => TIM_CTRL_LOCK t⟩,
  ⟨0x4, 4, 1, fun _ => TIM_CFG_DBG_FREEZE t⟩,
  ⟨0x4, 4, 1, fun _ => TIM_CFG_GATE_EN t⟩,
  ⟨0x4, 4, 1, fun _ => TIM_CFG_GATE_POL t⟩,
  ⟨0x4, 4, 1, fun _ => TIM_CFG_GATE_PIN t⟩,
  ⟨0x4, 4, 1, fun _ => TIM_CFG_RELOAD_EN t⟩,
  ⟨0x4, 4, 1, fun _ => TIM_CFG_RST_ON_CMP0 t⟩,
  ⟨0x4, 4, 1, fun _ => TIM_CFG_START_EN t⟩,
  ⟨0x4, 4, 1, fun _ => TIM_CFG_START_SEL t⟩,
  ⟨0x8, 4, 1, fun _ => TIM_PSC t⟩,
  ⟨0xc, 4, 1, fun _ => TIM_CNT t⟩,
  ⟨0x10, 4, 1, fun _ => TIM_CMP0 t⟩,
  ⟨0x14, 4, 1, fun _ => TIM_CMP1 t⟩,
  ⟨0x18, 4, 1, fun _ => TIM_TOP t⟩,
  ⟨0x1c, 4, 1, fun _ => TIM_CAP_CFG_SEL t⟩,
  ⟨0x1c, 4, 1, fun _ => TIM_CAP_CFG_EDGE t⟩,
  ⟨0x1c, 4, 1, fun _ => TIM_CAP_CFG_FILT t⟩,
  ⟨0x1c, 4, 1, fun _ => TIM_CAP_CFG_PRE t⟩,
  ⟨0x1c, 4, 1, fun _ => TIM_CAP_CFG_EN t⟩] ++ [
  ⟨0x20, 4, 1, fun _ => TIM_CAP t⟩,
  ⟨0x24, 4, 1, fun _ => TIM_STAT_CMP0 t⟩,
  ⟨0x24, 4, 1, fun _ => TIM_STAT_CMP1 t⟩,
  ⟨0x24, 4, 1, fun _ => TIM_STAT_CAP t⟩,
  ⟨0x24, 4, 1, fun _ => TIM_STAT_WRAP t⟩,
  ⟨0x24, 4, 1, fun _ => TIM_STAT_TOP_MISSED t⟩,
  ⟨0x24, 4, 1, fun _ => TIM_STAT_CAP_OVR t⟩]

/-- The fields of TIMEVEN, by offset. -/
def rowsTIMEVEN (t : Nat) : List Row :=
  [
  ⟨0x4, 4, 1, fun _ => TIM_CFG_LINK t⟩,
  ⟨0x28, 4, 1, fun _ => TIM_SNAP_CMD_GO t⟩,
  ⟨0x2c, 4, 1, fun _ => TIM_SNAP_LO t⟩,
  ⟨0x30, 4, 1, fun _ => TIM_SNAP_HI t⟩]

/-- The fields of EVM, by offset. -/
def rowsEVM : List Row :=
  [
  ⟨0x800, 4, 1, fun _ => EVM_IRQ_EN_0⟩,
  ⟨0x804, 4, 1, fun _ => EVM_IRQ_EN_1⟩,
  ⟨0x808, 4, 1, fun _ => EVM_STAT_0⟩,
  ⟨0x80c, 4, 1, fun _ => EVM_STAT_1⟩,
  ⟨0x810, 4, 1, fun _ => EVM_ADC_TRIG_SEL⟩,
  ⟨0x810, 4, 1, fun _ => EVM_ADC_TRIG_EN⟩,
  ⟨0x814, 4, 1, fun _ => EVM_SW⟩,
  ⟨0xc00, 4, 1, fun _ => WDA_CFG_TMO_T⟩,
  ⟨0xc00, 4, 1, fun _ => WDA_CFG_WIN_T⟩,
  ⟨0xc04, 4, 1, fun _ => WDA_CFG2_WARN_T⟩,
  ⟨0xc04, 4, 1, fun _ => WDA_CFG2_IDLE_PAUSE⟩,
  ⟨0xc08, 4, 1, fun _ => WDA_CTRL_EN⟩,
  ⟨0xc0c, 4, 1, fun _ => WDA_KICK_KEY⟩,
  ⟨0xc10, 4, 1, fun _ => WDA_STAT_COUNT⟩,
  ⟨0xc10, 4, 1, fun _ => WDA_STAT_EARLY⟩,
  ⟨0xc20, 4, 1, fun _ => WDL_CFG_TMO_T⟩,
  ⟨0xc20, 4, 1, fun _ => WDL_CFG_WIN_T⟩,
  ⟨0xc24, 4, 1, fun _ => WDL_CFG2_WARN_T⟩,
  ⟨0xc28, 4, 1, fun _ => WDL_CTRL_EN⟩,
  ⟨0xc30, 4, 1, fun _ => WDL_STAT_COUNT⟩,
  ⟨0xc30, 4, 1, fun _ => WDL_STAT_EARLY⟩]

/-- The fields of LPTIM, by offset. -/
def rowsLPTIM (t : Nat) : List Row :=
  [
  ⟨0x0, 4, 1, fun _ => LPTIM_CTRL_EN t⟩,
  ⟨0x0, 4, 1, fun _ => LPTIM_CTRL_DBG_FREEZE t⟩,
  ⟨0x0, 4, 1, fun _ => LPTIM_CTRL_IE t⟩,
  ⟨0x0, 4, 1, fun _ => LPTIM_CTRL_LOCK t⟩,
  ⟨0x4, 4, 1, fun _ => LPTIM_PSC t⟩,
  ⟨0x8, 4, 1, fun _ => LPTIM_CNT t⟩,
  ⟨0xc, 4, 1, fun _ => LPTIM_MATCH t⟩,
  ⟨0x10, 4, 1, fun _ => LPTIM_STAT_MATCH t⟩,
  ⟨0x10, 4, 1, fun _ => LPTIM_STAT_WRAP t⟩]

end Sys2Proof.Machine.R
end

