-- ==== Sys2Proof/Machine/Time.lean ====
section
/-!
DEFINITION. Machine/Time.lean: LINK_TIME and how the Cellar carries it (R21 to R24).
-/
namespace Sys2Proof.Machine

open Sys2Proof

namespace L

/-- R21: LINK_TIME, 64 bits, with its four fraction bits always 0. -/
def LT : Fld := latch 41 10 64 .c 0
/-- R22: the carry accumulator, in units of 2^-22 of a LINK_TIME unit so that no bit is rounded away. -/
def LT_ACC : Fld := latch 41 11 96 .c 0
/-- R22: whether the next CELLAR cycle adds 7813 units instead of 7812. -/
def LT_ODD : Fld := latch 41 12 1 .c 0
/-- R22: the part of a CELLAR cycle that has passed, in units of 1/15625 cycle: 32 of them are 1/16 µs. -/
def LT_PH : Fld := latch 41 17 14 .c 0
/-- R418: since the last measurement offered to the trim: the units the Cellar carried, and whether the LFXO
failed; LINK_TIME at that measurement, and whether there was one. -/
def TR_CARRIED : Fld := latch 41 13 64 .c 0
def TR_BAD : Fld := latch 41 14 1 .c 0
def TR_T0 : Fld := latch 41 15 64 .c 0
def TR_ON : Fld := latch 41 16 1 .c 0

end L

/-- LINK_TIME (R21). -/
def State.lt (s : State) : Nat := s.rd L.LT

/-- R22: what one CELLAR cycle adds to the accumulator: 7812 or 7813 units, scaled by the calendar trim
of R415, in units of 2^-22. -/
def carryStep (odd : Bool) (trim : Int) : Int := (7812 + b2n odd : Nat) * (2 ^ 22 + trim)

/-- R22: the accumulator after n more CELLAR cycles, and the parity of the next one. -/
def carryRun (trim : Int) : Nat → Bool → Int → Int × Bool
  | 0, odd, acc => (acc, odd)
  | n + 1, odd, acc => carryRun trim n (!odd) (acc + carryStep odd trim)

/-- R22, R23: LINK_TIME carried over n CELLAR cycles: the accumulator keeps its fraction, and LINK_TIME
reads it with bits [3:0] cleared; it never decreases. -/
def State.carry (s : State) (n : Nat) : State :=
  let r := carryRun (if s.on R.HALL_CLK_STAT_LF_SRC then 0 else s.rdS R.CAL_TRIM_VALUE) n (s.on L.LT_ODD) (s.rd L.LT_ACC : Nat)
  let acc := r.1.toNat
  let now := max s.lt (acc / 2 ^ 22 / 16 * 16)
  (s.inc L.TR_CARRIED (now - s.lt)).wrs [(L.LT_ACC, acc), (L.LT_ODD, b2n r.2), (L.LT, now)]

/-- R22, R23: from here on the Cellar carries LINK_TIME, which holds its value until the next CELLAR edge; the accumulator goes on
from the last edge. -/
def State.ltToCarry (s : State) : State := s.wr R.HALL_CLK_STAT_LT_SRC 1

/-- R22, R23, R24: a CELLAR edge: LINK_TIME is carried where the LINK island does not count it, and the accumulator resynchronised to
it where it does. -/
def State.ltEdge (s : State) : State :=
  if s.on R.HALL_CLK_STAT_LT_SRC || !(s.domOn 6 && s.islOn 3) then s.carry 1 else s.wr L.LT_ACC (s.lt * 2 ^ 22)

/-- R21: n ticks of 16 MHz counted in the LINK island. -/
def State.ltCount (s : State) (n : Nat) : State := s.inc L.LT (16 * n)

end Sys2Proof.Machine
end

