-- ==== Sys2Proof/Machine/Pbm.lean ====
section
/-!
DEFINITION. Machine/Pbm.lean: the packet buffers, their descriptors, owners and ledger counts
(R256 to R268), as shared operations.
-/
namespace Sys2Proof.Machine

open Sys2Proof

namespace L

/-- R256: the descriptor of buffer b, as the table lays it out. -/
def DESC (b : Nat) : Fld := latch 16 b 25 .w 0
/-- R261: the command in progress of the A_ set and of the L_ set, as written. -/
def CMD_WORD (l : Nat) : Fld := latch 16 (2048 + l) 32 .w 0
/-- R261: the set, plus one, whose XFER began its check walk while the other set's was under way; 0 none. -/
def XFER_2ND : Fld := latch 16 2058 2 .w 0
/-- R261, R262: 1 while an ALLOC of a set waits for buffers to be zeroed. -/
def ALLOC_WAIT (l : Nat) : Fld := latch 16 (2050 + l) 1 .w 0
/-- R152: the ciphertext a TX buffer's frame holds: its counter plus one, 0 while it is not encrypted. -/
def ENC (b : Nat) : Fld := latch 10 (1000 + b) 41 .w 0
/-- R267: the owners being reclaimed, bit o for owner o. -/
def RECL : Fld := latch 16 2052 9 .w 0
/-- R267, R270: the cause of a reclaim of the four radio owners, 4 LOCKSTEP or 5 WDT_LINK; 0 while none runs. -/
def RECL_CAUSE : Fld := latch 16 2053 4 .w 0
/-- R270: L_RES as its fields: RESULT, BUSY, COUNT and HEAD of the link cores' set. -/
def L_RESULT : Fld := latch 16 2054 3 .w 0
def L_BUSY : Fld := latch 16 2055 1 .w 0
def L_COUNT : Fld := latch 16 2056 12 .w 0
def L_HEAD : Fld := latch 16 2057 11 .w 0

end L

/-- R257: the owner codes. -/
def ownFree : Nat := 0
def ownRx (r : Radio) : Nat := 1 + r.idx
def ownTx (r : Radio) : Nat := 3 + r.idx
def ownApp : Nat := 5
def ownHost : Nat := 6
def ownNfc : Nat := 7
def ownQuar : Nat := 8

/-- R256: a descriptor word, and its fields. -/
def mkDesc (next last len owner zeroing : Nat) : Nat :=
  next % 2048 + last % 2 * 2 ^ 11 + len % 256 * 2 ^ 12 + owner % 16 * 2 ^ 20 + zeroing % 2 * 2 ^ 24
def dNext (d : Nat) : Nat := bits d 10 0
def dLast (d : Nat) : Bool := bit d 11
def dLen (d : Nat) : Nat := bits d 19 12
def dOwner (d : Nat) : Nat := bits d 23 20
def dZeroing (d : Nat) : Bool := bit d 24

def State.desc (s : State) (b : Nat) : Nat := s.rd (L.DESC b)
def State.owner (s : State) (b : Nat) : Nat := dOwner (s.desc b)
def State.setDesc (s : State) (b d : Nat) : State := s.wr (L.DESC b) d
def bufAddr (b : Nat) : Nat := 0x20100000 + b * 0x80

/-- R264, R266: a broken invariant: EVT.LEDGER_ERR, the log when empty, and detector 0x30. -/
def State.ledgerErr (s : State) (kind detail expect found : Nat) (inj : Bool) : State :=
  let s1 := s.wr R.PBM_EVT_LEDGER_ERR 1
  let s2 :=
    if s1.on R.PBM_LEDGER_LOG_VALID then s1
    else s1.wrs [(R.PBM_LEDGER_LOG_KIND, kind), (R.PBM_LEDGER_LOG_DETAIL, detail), (R.PBM_LEDGER_LOG_VALID, 1),
      (R.PBM_LEDGER_VAL_EXPECT, min expect 0xFFFF), (R.PBM_LEDGER_VAL_FOUND, min found 0xFFFF)]
  s2.fire 0x30 (kind + detail * 256) inj

/-- The sum of the nine ledger counts. -/
def State.ledgerSum (s : State) : Nat := (List.range 9).foldl (fun a o => a + s.rd (R.PBM_LEDGER o)) 0

/-- R264: the sum checked after a change of count o; an injection of 0x30 has it checked against 2049. -/
def State.ledgerCheck (s : State) (o : Nat) : State :=
  if s.injHits 0x30 && s.rd L.INJ_A % 16 == o then
    (s.injActed).ledgerErr 1 o 2049 s.ledgerSum true
  else if s.ledgerSum = 2048 then s
  else s.ledgerErr 1 o 2048 s.ledgerSum false

/-- R264: n buffers counted from one owner to another, with the check of the change. -/
def State.ledgerMove (s : State) (from_ dest n : Nat) : State :=
  if n = 0 ∨ from_ = dest then s
  else
    let s1 := s.wr (R.PBM_LEDGER from_) (s.rd (R.PBM_LEDGER from_) - n)
    let s2 := s1.wr (R.PBM_LEDGER dest) (s1.rd (R.PBM_LEDGER dest) + n)
    (s2.ledgerCheck from_).ledgerCheck dest

/-- R262, R263: the zero engine's queue holds b + 2048 × its class: 0 back from QUARANTINE, 1 taken by a reception, 2 wanted by an
ALLOC. A buffer is put behind those of its class and before those of a later one. -/
def zqIns (x : Nat) : List Nat → List Nat
  | [] => [x]
  | y :: t => if x / 2048 < y / 2048 then x :: y :: t else y :: zqIns x t
def State.zqDrop (s : State) (b : Nat) : State := { s with zq := s.zq.filter fun x => x % 2048 != b }
def State.zqPut (s : State) (cls b : Nat) : State :=
  if s.zq.any fun x => x % 2048 == b && decide (x / 2048 ≤ cls) then s
  else { s.zqDrop b with zq := zqIns (b % 2048 + 2048 * cls) (s.zqDrop b).zq }

/-- The owner of a buffer set in its descriptor; a buffer that enters FREE waits to be zeroed (R262),
in front of the others when it comes from QUARANTINE (R263). -/
def State.setOwner (s : State) (b o : Nat) : State :=
  let d := s.desc b
  if o = ownFree then
    if dOwner d = ownFree then s
    else
      let s1 := ((s.when (!dZeroing d) fun s => s.inc R.PBM_STAT_ZEROING 1).setDesc b (mkDesc (dNext d) (b2n (dLast d)) (dLen d) 0 1)).wr (L.ENC b) 0
      s1.when (dOwner d == ownQuar) fun s => s.zqPut 0 b
  else s.setDesc b (mkDesc (dNext d) (b2n (dLast d)) (dLen d) o (b2n (dZeroing d)))

/-- Buffers of one owner handed to another: descriptors and counts in one commit. -/
def State.handBufs (s : State) (l : List Nat) (from_ dest : Nat) : State :=
  (s.each l fun b s => s.setOwner b dest).ledgerMove from_ dest l.length

/-- R256: the chain at a head buffer: its buffers up to LAST, within a length bound. -/
def State.chain (s : State) : Nat → Nat → List Nat
  | 0, _ => []
  | n + 1, b => if dLast (s.desc b) then [b] else b :: s.chain n (dNext (s.desc b))

/-- Whether the chain at a head ends within the bound of R261. -/
def State.chainEnds (s : State) : Nat → Nat → Bool
  | 0, _ => false
  | n + 1, b => dLast (s.desc b) || s.chainEnds n (dNext (s.desc b))

/-- R261: whether a FREE buffer is zeroed. -/
def State.isFree (s : State) (b : Nat) (zeroed : Bool) : Bool :=
  s.owner b == ownFree && (!zeroed || !dZeroing (s.desc b))

/-- The n lowest-numbered FREE buffers, zeroed ones only when asked. -/
def State.freeBufs (s : State) (n : Nat) (zeroed : Bool) : List Nat :=
  ((List.range 2048).filter fun b => s.isFree b zeroed).take n

/-- A list of buffers linked in order, each with its LEN, the last with LAST. -/
def State.linkBufs (s : State) (owner : Nat) : List (Nat × Nat) → State
  | [] => s
  | [(b, n)] => s.setDesc b (mkDesc (dNext (s.desc b)) 1 n owner (b2n (dZeroing (s.desc b))))
  | (b, n) :: (b', n') :: t =>
      (s.setDesc b (mkDesc b' 0 n owner (b2n (dZeroing (s.desc b))))).linkBufs owner ((b', n') :: t)

/-- Buffers taken from FREE to an owner, linked in order with LEN 0 each. -/
def State.takeBufs (s : State) (owner : Nat) (l : List Nat) : State :=
  (s.linkBufs owner (l.map fun b => (b, 0))).ledgerMove ownFree owner l.length

/-- R259: whether n more buffers would take an owner above its share. -/
def State.overShare (s : State) (o n : Nat) : Bool :=
  decide (s.rd (R.PBM_SHARE o) < s.rd (R.PBM_LEDGER o) + n)

/-- R262: an allocation by a unit waits until the buffers that it takes are zeroed. -/
def State.zeroNow (s : State) (l : List Nat) : State :=
  s.each (l.filter fun b => dZeroing (s.desc b)) fun b s =>
    let d := s.desc b
    let s1 := (s.dropMem (bufAddr b) (bufAddr b + 128)).setDesc b (mkDesc (dNext d) (b2n (dLast d)) (dLen d) (dOwner d) 0)
    (s1.zqDrop b).wr R.PBM_STAT_ZEROING (s1.rd R.PBM_STAT_ZEROING - 1)

/-- R150: buffers taken for a reception, zeroed or not: none when a share or the stock forbids it. The
zero engine fills the unzeroed ones next. -/
def State.reserveRx (s : State) (r : Radio) (n : Nat) : Option (List Nat × State) :=
  let l := s.freeBufs n false
  if s.overShare (ownRx r) n || decide (l.length < n) then none
  else
    let dirty := l.filter fun b => dZeroing (s.desc b)
    some (l, (s.takeBufs (ownRx r) l).each dirty fun b s => s.zqPut 1 b)

/-- The octets a chain holds, LEN of each buffer in order. -/
def State.chainBytes (s : State) (l : List Nat) : List Byte :=
  l.flatMap fun b => s.rdBs (bufAddr b) (dLen (s.desc b))

/-- Octets written into the buffers of a list, 128 to a buffer, with LEN set on each. -/
def State.fillBufs (s : State) (owner : Nat) : List Nat → List Byte → State
  | [], _ => s
  | b :: t, data =>
      let part := data.take 128
      let s1 := s.wrBs (bufAddr b) part
      let d := s1.desc b
      (s1.setDesc b (mkDesc (dNext d) (b2n t.isEmpty) part.length owner (b2n (dZeroing d)))).fillBufs owner t
        (data.drop 128)

/-- How many 128-octet buffers a length needs, at least one. -/
def bufsFor (len : Nat) : Nat := max 1 ((len + 127) / 128)

/-! ### Reclaim (R267) -/

/-- R267 step 1: a reset of a unit starts the reclaim of its owners: RECLAIMING reads 1, and a command
whose check walk names one of them ends with RECLAIMING. -/
def State.cmdNames (s : State) (l : Nat) (mask : Nat) : Bool :=
  let w := s.rd (L.CMD_WORD l)
  bit mask (bits w 11 8) || (bits w 1 0 == 2 && bit mask (bits w 7 4))

def State.startReclaim (s : State) (owners : List Nat) (cause freezeCause : Nat) : State :=
  let mask := owners.foldl (fun a o => setBit a o) (s.rd L.RECL)
  let s1 := s.wrs [(L.RECL, mask), (L.RECL_CAUSE, if 4 ≤ cause then cause else s.rd L.RECL_CAUSE), (R.PBM_STAT_RECLAIMING, 1)]
  let s2 := s1.ifStart 9 (owners.headD 0 + 1) 1 0 cause 0
  let s3 := s2.when (s2.on R.PBM_A_RES_BUSY && s2.cmdNames 0 mask) fun s =>
    (s.freeze freezeCause 7).wrs [(R.PBM_A_RES_BUSY, 0), (R.PBM_A_RES_RESULT, 6), (R.PBM_EVT_REFUSED, 1), (L.ALLOC_WAIT 0, 0)]
  s3.when (s3.on L.L_BUSY && s3.cmdNames 1 mask) fun s =>
    (s.freeze freezeCause 8).wrs [(L.L_BUSY, 0), (L.L_RESULT, 6), (R.PBM_EVT_REFUSED, 1), (L.ALLOC_WAIT 1, 0)]

end Sys2Proof.Machine
end

