-- ==== Sys2Proof/Machine/Lottery.lean ====
section
/-!
DEFINITION. Machine/Lottery.lean: the lottery arbiter's two draw points (R246 to R255), as shared operations.
-/
namespace Sys2Proof.Machine

open Sys2Proof

namespace L

/-- R249: for a draw point (0 LANE, 1 PORT), the lost draws of requester q, and the queue of the due ones. -/
def AGE (p q : Nat) : Fld := latch 15 (p * 8 + q) 4 .w 0
def DUE (p : Nat) : Fld := latch 15 (16 + p) 3 .w 0
/-- R251: units the present burst has issued. -/
def ISSUED (p : Nat) : Fld := latch 15 (18 + p) 7 .w 0
/-- R252: the burst ends at the next unit boundary. -/
def BREAK (p : Nat) : Fld := latch 15 (20 + p) 1 .w 0
/-- R252: which requesters have a unit ready. -/
def READY (p : Nat) : Fld := latch 15 (22 + p) 5 .w 0
/-- R254: the requesters with a live hint, and those barred from posting. -/
def HINT (p : Nat) : Fld := latch 15 (24 + p) 5 .w 0
def BARRED (p : Nat) : Fld := latch 15 (26 + p) 5 .w 0

end L

/-! ### The lottery -/

def arbLfsr (p : Nat) : Fld := if p = 0 then R.ARB_LFSR_LANE else R.ARB_LFSR_PORT
def arbHolder (p : Nat) : Fld := if p = 0 then R.ARB_STAT_L_HOLDER else R.ARB_STAT_P_HOLDER
def arbRemain (p : Nat) : Fld := if p = 0 then R.ARB_STAT_L_REMAIN else R.ARB_STAT_P_REMAIN
def arbWins (p q : Nat) : Fld := if p = 0 then R.ARB_WINS_LANE q else R.ARB_WINS_PORT q
def arbAged (p : Nat) : Fld := if p = 0 then R.ARB_AGE_CNT_LANE else R.ARB_AGE_CNT_PORT

/-- R248: one step of the Galois LFSR. -/
def lfsrStep (v : Nat) : Nat := if v % 2 = 1 then v / 2 ^^^ 0xB400 else v / 2

def State.tickets (s : State) (q : Nat) : Nat := s.rd (R.ARB_TKT_TICKETS q)

/-- R248: the requester whose ticket range holds r. -/
def State.lotteryPick (s : State) : List Nat → Nat → Nat
  | [], _ => 0
  | q :: t, r => if r < s.tickets q then q else s.lotteryPick t (r - s.tickets q)

/-- R248: the lottery's winner among the ready requesters, in ascending order, for an LFSR value. -/
def State.lottery (s : State) (ready : List Nat) (lfsr : Nat) : Nat :=
  let sum := ready.foldl (fun t q => t + s.tickets q) 0
  if sum = 0 then ready.headD 0 else s.lotteryPick ready (lfsr * sum / 65536)

/-- R249: a requester's count restarts and it leaves the due queue. -/
def State.ageClear (s : State) (p q : Nat) : State := (s.wr (L.AGE p q) 0).setFf (L.DUE p) ((s.ff (L.DUE p)).filter fun x => x != q)

/-- R249: a ready ticketed requester that lost a draw; at the limit it becomes due. -/
def State.ageLose (s : State) (p q : Nat) : State :=
  if s.tickets q = 0 ∨ (s.ff (L.DUE p)).contains q then s
  else
    let n := s.rd (L.AGE p q) + 1
    let s1 := s.wr (L.AGE p q) n
    if s.rd R.ARB_AGE_CFG_LIMIT ≤ n then s1.pushFf (L.DUE p) q else s1

/-- R251: a filler draw grants one unit: the requester and the state after it. -/
def State.filler (s : State) (p : Nat) (ready : List Nat) : Nat × State :=
  let v := lfsrStep (s.rd (arbLfsr p))
  let w := s.lottery ready v
  (w, ((s.wr (arbLfsr p) v).sat (arbWins p w) 1).ageClear p w)

/-- R248, R249, R251: a draw for a new burst: its holder and the state after its first unit. -/
def State.drawNew (s : State) (p : Nat) (ready : List Nat) : Nat × State :=
  let v := lfsrStep (s.rd (arbLfsr p))
  let due := (s.ff (L.DUE p)).find? fun q => ready.contains q
  let w := due.getD (s.lottery ready v)
  let s1 := (s.wr (arbLfsr p) v).when due.isSome fun s => s.sat (arbAged p) 1
  let s2 := (s1.sat (arbWins p w) 1).ageClear p w
  let s3 := s2.each (ready.filter fun q => q != w) fun q s => s.ageLose p q
  let b := s3.rd (R.ARB_TKT_BURST w)
  (w, s3.wrs [(arbHolder p, w), (arbRemain p, b - 1), (L.ISSUED p, 1), (L.BREAK p, 0)])

/-- R252: the present burst of a draw point is over. -/
def State.burstOver (s : State) (p : Nat) : State := s.wrs [(arbHolder p, 7), (arbRemain p, 0), (L.BREAK p, 0)]

/-- R252: a requester's channel or access stream has no further unit, or its reset ends its burst, at once. -/
def State.burstDrop (s : State) (p q : Nat) : State := s.when (s.rd (arbHolder p) == q) fun s => s.burstOver p

/-- R252: whether the present burst ends at the boundary before a slot, in which the listed requesters have a unit. -/
def State.burstBreaks (s : State) (p : Nat) (ready : List Nat) (more : Nat → Bool) : Bool :=
  let h := s.rd (arbHolder p)
  h != 7 && ((!ready.contains h && !more h) || s.on (L.BREAK p) ||
    ((List.range 5).any (fun q => q != h && bit (s.rd (L.HINT p)) q) && decide (s.rd R.ARB_HINT_CFG_MIN_BLOCKS ≤ s.rd (L.ISSUED p))))

/-- R252: what ends a burst once a slot's unit has issued: its last unit, or a holder with no further unit. -/
def State.slotEnd (s : State) (p : Nat) (more : Nat → Bool) : State :=
  let h := s.rd (arbHolder p)
  s.when (h != 7 && (s.rd (arbRemain p) == 0 || !more h)) fun s => s.burstOver p

/-- R251, R254: the unit of a slot: the holder's without a draw; a slot the holder leaves, and every unheld one while a hint
lives, goes to a filler draw; else a new burst is drawn. None where nobody has a unit. -/
def State.slotGrant (s : State) (p : Nat) (ready : List Nat) : Option Nat × State :=
  let h := s.rd (arbHolder p)
  if h ≠ 7 ∧ ready.contains h then (some h, (s.wr (arbRemain p) (s.rd (arbRemain p) - 1)).inc (L.ISSUED p) 1)
  else if ready.isEmpty then (none, s)
  else
    let r := if h ≠ 7 ∨ s.on (L.HINT p) then s.filler p ready else s.drawNew p ready
    (some r.1, r.2)

/-- R248 to R254: one slot of a draw point. The listed requesters have a unit in it; `more` tells who has a further unit after it.
A hint ends when its requester is ready. -/
def State.slot (s : State) (p : Nat) (ready : List Nat) (more : Nat → Bool) : Option Nat × State :=
  let mask := ready.foldl setBit 0
  let s0 := s.wrs [(L.READY p, mask), (L.HINT p, clrMask (s.rd (L.HINT p)) mask)]
  let s1 := s0.when (s0.burstBreaks p ready more) fun s => s.burstOver p
  let s2 := s1.each ((List.range 5).filter fun q => !ready.contains q) fun q s => s.ageClear p q
  let r := s2.slotGrant p ready
  (r.1, (match r.1 with
    | some w => r.2.when (!more w) fun s => s.clrBitF (L.READY p) w
    | none => r.2).slotEnd p more)

/-- R246: requester q's accesses at the shared port of the packet buffers, n beats, one after another. DESIGN CHOICE: an access of a
row of its own meets no contender but the holder of a burst, since the rows come one at a time; DRAW commands the contended slots. -/
def State.portBeats (s : State) (q n : Nat) : State :=
  if s.domOn 7 then (List.range n).foldl (fun s i => (s.slot 1 [q] fun x => x != q || decide (i + 1 < n)).2) s else s

/-- R246: the requester a master's accesses at the shared port count as; the link cores have a port of their own. -/
def portReq : Master → Option Nat
  | .app | .dma | .debug => some 0
  | .host => some 1
  | .nfc => some 3
  | .cipher q => some q.val
  | .link => none

/-- R254, R255: a hint posted for requester q at a draw point: ignored from the holder, from a requester with no tickets, and while
barred; over at once where q has a unit ready. -/
def State.postHint (s : State) (p q : Nat) : State :=
  if s.rd (arbHolder p) = q ∨ s.tickets q = 0 ∨ bit (s.rd (L.BARRED p)) q then s
  else (s.when (!bit (s.rd (L.READY p)) q) fun s => s.setBitF (L.HINT p) q).sat R.ARB_HINT_CNT_POSTED 1

/-- R255: a hint posted to both draw points. -/
def State.postHints (s : State) (q : Nat) : State := (s.postHint 0 q).postHint 1 q

end Sys2Proof.Machine
end

