-- ==== Sys2Proof/Machine/RegsPorts.lean ====
section
/-!
DEFINITION. Machine/RegsPorts.lean: the HOSTP, CANFD, LIN, GPIO, ADC, I2C and SPIM registers (R452, R460, R463, R466, R469, R472, R473), one field a definition, written from the
spec's register tables: place, width, access code, Keep class, Reset value, stated range, writer.
-/
namespace Sys2Proof.Machine.R

open Sys2Proof

/-- R452 HOSTP.CTRL.IRQ_EN: 1 routes EV_HOSTP, raised by any EVT bit, to the event matrix. -/
def HOSTP_CTRL_IRQ_EN : Fld :=
  ⟨33, 0x0, 0, 1, .rwl, .w, 0, .any, .any⟩

/-- R452 HOSTP.CTRL.LOCK: LOCK bit of HOSTP, per R8. -/
def HOSTP_CTRL_LOCK : Fld :=
  ⟨33, 0x0, 31, 1, .w1s, .w, 0, .any, .any⟩

/-- R452 HOSTP.CFG.HP_MODE: FP.PINS.HP_MODE. -/
def HOSTP_CFG_HP_MODE : Fld :=
  ⟨33, 0x4, 0, 1, .rwf, .f, 0, .any, .any⟩

/-- R452 HOSTP.CFG.APP_TMO: APP_MSG limit in ms, 1 to 255. -/
def HOSTP_CFG_APP_TMO : Fld :=
  ⟨33, 0x4, 8, 8, .rwl, .w, 50, .between 1 255, .any⟩

/-- R452 HOSTP.UART.DIV: Bit time in PERIPH cycles, set by SET_BAUD. -/
def HOSTP_UART_DIV : Fld :=
  ⟨33, 0x8, 0, 16, .ro, .w, 96, .any, .any⟩

/-- R452 HOSTP.STAT.TXQ: Frames queued for the host. -/
def HOSTP_STAT_TXQ : Fld :=
  ⟨33, 0xc, 0, 7, .ro, .live, 0, .any, .any⟩

/-- R452 HOSTP.STAT.MSGQ: Open APP_MSG commands, 0 to 4. -/
def HOSTP_STAT_MSGQ : Fld :=
  ⟨33, 0xc, 8, 3, .ro, .live, 0, .any, .any⟩

/-- R452 HOSTP.EVT.MSG: An APP_MSG reached APP. -/
def HOSTP_EVT_MSG : Fld :=
  ⟨33, 0x10, 0, 1, .w1c, .w, 0, .any, .any⟩

/-- R452 HOSTP.EVT.HDR_ERR: Set under R445. -/
def HOSTP_EVT_HDR_ERR : Fld :=
  ⟨33, 0x10, 1, 1, .w1c, .w, 0, .any, .any⟩

/-- R452 HOSTP.EVT.TMO: Set under R449. -/
def HOSTP_EVT_TMO : Fld :=
  ⟨33, 0x10, 2, 1, .w1c, .w, 0, .any, .any⟩

/-- R452 HOSTP.MSG.HEAD: Head buffer of the oldest open APP_MSG. -/
def HOSTP_MSG_HEAD : Fld :=
  ⟨33, 0x14, 0, 11, .ro, .w, 0, .any, .any⟩

/-- R452 HOSTP.MSG.SEQ: Its SEQ. -/
def HOSTP_MSG_SEQ : Fld :=
  ⟨33, 0x14, 16, 8, .ro, .w, 0, .any, .any⟩

/-- R452 HOSTP.MSG_LEN: Its payload octets. -/
def HOSTP_MSG_LEN : Fld :=
  ⟨33, 0x18, 0, 11, .ro, .w, 0, .any, .any⟩

/-- R452 HOSTP.RSP.STATUS: Status, per R447. -/
def HOSTP_RSP_STATUS : Fld :=
  ⟨33, 0x20, 0, 3, .rw, .w, 0, .any, .any⟩

/-- R452 HOSTP.RSP_DETAIL: DETAIL of the answer. -/
def HOSTP_RSP_DETAIL : Fld :=
  ⟨33, 0x24, 0, 32, .rw, .w, 0, .any, .any⟩

/-- R452 HOSTP.RSP_DATA.HEAD: Result chain owned by APP. -/
def HOSTP_RSP_DATA_HEAD : Fld :=
  ⟨33, 0x28, 0, 11, .rw, .w, 0, .any, .any⟩

/-- R452 HOSTP.RSP_DATA.LEN: Result octets, 0 to 1016. -/
def HOSTP_RSP_DATA_LEN : Fld :=
  ⟨33, 0x28, 16, 11, .rw, .w, 0, .between 0 1016, .any⟩

/-- R452 HOSTP.RSP_GO: Answers the oldest APP_MSG. -/
def HOSTP_RSP_GO : Fld :=
  ⟨33, 0x2c, 0, 1, .wo, .w, 0, .any, .any⟩

/-- R452 HOSTP.POST.TYPE: Event type, 0x80 to 0xFF. -/
def HOSTP_POST_TYPE : Fld :=
  ⟨33, 0x30, 0, 8, .rw, .w, 128, .between 128 255, .any⟩

/-- R452 HOSTP.POST_DATA.HEAD: Event chain owned by APP. -/
def HOSTP_POST_DATA_HEAD : Fld :=
  ⟨33, 0x34, 0, 11, .rw, .w, 0, .any, .any⟩

/-- R452 HOSTP.POST_DATA.LEN: Event octets, 0 to 1024. -/
def HOSTP_POST_DATA_LEN : Fld :=
  ⟨33, 0x34, 16, 11, .rw, .w, 0, .between 0 1024, .any⟩

/-- R452 HOSTP.POST_GO: Queues the event. -/
def HOSTP_POST_GO : Fld :=
  ⟨33, 0x38, 0, 1, .wo, .w, 0, .any, .any⟩

/-- R452 HOSTP.CNT.HDR_ERR: Saturates at 0xFFFF. -/
def HOSTP_CNT_HDR_ERR : Fld :=
  ⟨33, 0x40, 0, 16, .ro, .c, 0, .any, .any⟩

/-- R452 HOSTP.CNT.NO_CREDIT: Saturates at 0xFFFF. -/
def HOSTP_CNT_NO_CREDIT : Fld :=
  ⟨33, 0x40, 16, 16, .ro, .c, 0, .any, .any⟩

/-- R452 HOSTP.CNT.Q_DROP: Saturates at 0xFFFF. -/
def HOSTP_CNT_Q_DROP : Fld :=
  ⟨33, 0x44, 0, 16, .ro, .c, 0, .any, .any⟩

/-- R460 CAN.CTRL.IRQ_EN: 1 routes EV_CANFD_n, raised by any EVT bit, to the event matrix. -/
def CAN_CTRL_IRQ_EN (t : Nat) : Fld :=
  ⟨(34 + t), 0x0, 0, 1, .rwl, .w, 0, .any, .any⟩

/-- R460 CAN.CTRL.INIT: Per R457. -/
def CAN_CTRL_INIT (t : Nat) : Fld :=
  ⟨(34 + t), 0x0, 1, 1, .rw, .w, 1, .any, .any⟩

/-- R460 CAN.CTRL.AUTO_RECOV: Per R457. -/
def CAN_CTRL_AUTO_RECOV (t : Nat) : Fld :=
  ⟨(34 + t), 0x0, 2, 1, .rw, .w, 1, .any, .any⟩

/-- R460 CAN.CTRL.STBY: Level on the CANn_STB function of R464. -/
def CAN_CTRL_STBY (t : Nat) : Fld :=
  ⟨(34 + t), 0x0, 3, 1, .rw, .w, 1, .any, .any⟩

/-- R460 CAN.CTRL.LOCK: LOCK bit of CANFD_n, per R8. -/
def CAN_CTRL_LOCK (t : Nat) : Fld :=
  ⟨(34 + t), 0x0, 31, 1, .w1s, .w, 0, .any, .any⟩

/-- R460 CAN.NBT.BRP: Per R454. -/
def CAN_NBT_BRP (t : Nat) : Fld :=
  ⟨(34 + t), 0x4, 0, 5, .rw, .w, 1, .any, .any⟩

/-- R460 CAN.NBT.TSEG1: Per R454. -/
def CAN_NBT_TSEG1 (t : Nat) : Fld :=
  ⟨(34 + t), 0x4, 8, 8, .rw, .w, 62, .any, .any⟩

/-- R460 CAN.NBT.TSEG2: Per R454. -/
def CAN_NBT_TSEG2 (t : Nat) : Fld :=
  ⟨(34 + t), 0x4, 16, 7, .rw, .w, 15, .any, .any⟩

/-- R460 CAN.NBT.SJW: Per R454; at most TSEG2. -/
def CAN_NBT_SJW (t : Nat) : Fld :=
  ⟨(34 + t), 0x4, 24, 7, .rw, .w, 15, .any, .any⟩

/-- R460 CAN.DBT.BRP: Per R454. -/
def CAN_DBT_BRP (t : Nat) : Fld :=
  ⟨(34 + t), 0x8, 0, 5, .rw, .w, 0, .any, .any⟩

/-- R460 CAN.DBT.TSEG1: Per R454. -/
def CAN_DBT_TSEG1 (t : Nat) : Fld :=
  ⟨(34 + t), 0x8, 8, 6, .rw, .w, 28, .any, .any⟩

/-- R460 CAN.DBT.TSEG2: Per R454. -/
def CAN_DBT_TSEG2 (t : Nat) : Fld :=
  ⟨(34 + t), 0x8, 16, 5, .rw, .w, 9, .any, .any⟩

/-- R460 CAN.DBT.SJW: Per R454. -/
def CAN_DBT_SJW (t : Nat) : Fld :=
  ⟨(34 + t), 0x8, 24, 5, .rw, .w, 9, .any, .any⟩

/-- R460 CAN.DBT.TDC: Transmitter delay compensation. -/
def CAN_DBT_TDC (t : Nat) : Fld :=
  ⟨(34 + t), 0x8, 31, 1, .rw, .w, 1, .any, .any⟩

/-- R460 CAN.STAT.STATE: Per R457. -/
def CAN_STAT_STATE (t : Nat) : Fld :=
  ⟨(34 + t), 0xc, 0, 3, .ro, .live, 0, .any, .any⟩

/-- R460 CAN.STAT.TEC: Transmit error count. -/
def CAN_STAT_TEC (t : Nat) : Fld :=
  ⟨(34 + t), 0xc, 8, 9, .ro, .w, 0, .any, .any⟩

/-- R460 CAN.STAT.REC: Receive error count. -/
def CAN_STAT_REC (t : Nat) : Fld :=
  ⟨(34 + t), 0xc, 24, 8, .ro, .w, 0, .any, .any⟩

/-- R460 CAN.EVT.TX_DONE: A transmission succeeded. -/
def CAN_EVT_TX_DONE (t : Nat) : Fld :=
  ⟨(34 + t), 0x10, 0, 1, .w1c, .w, 0, .any, .any⟩

/-- R460 CAN.EVT.RX: A frame entered the FIFO. -/
def CAN_EVT_RX (t : Nat) : Fld :=
  ⟨(34 + t), 0x10, 1, 1, .w1c, .w, 0, .any, .any⟩

/-- R460 CAN.EVT.RX_OVF: Set under R456. -/
def CAN_EVT_RX_OVF (t : Nat) : Fld :=
  ⟨(34 + t), 0x10, 2, 1, .w1c, .w, 0, .any, .any⟩

/-- R460 CAN.EVT.STATE: STATE changed. -/
def CAN_EVT_STATE (t : Nat) : Fld :=
  ⟨(34 + t), 0x10, 3, 1, .w1c, .w, 0, .any, .any⟩

/-- R460 CAN.EVT.PROTO_ERR: Protocol error seen. -/
def CAN_EVT_PROTO_ERR (t : Nat) : Fld :=
  ⟨(34 + t), 0x10, 4, 1, .w1c, .w, 0, .any, .any⟩

/-- R460 CAN.TX_REQ: Pending buffers, per R455. -/
def CAN_TX_REQ (t : Nat) : Fld :=
  ⟨(34 + t), 0x14, 0, 16, .w1s, .w, 0, .any, .any⟩

/-- R460 CAN.TX_CANCEL: Per R455. -/
def CAN_TX_CANCEL (t : Nat) : Fld :=
  ⟨(34 + t), 0x18, 0, 16, .wo, .w, 0, .any, .any⟩

/-- R460 CAN.TX_DONE: Buffers sent. -/
def CAN_TX_DONE (t : Nat) : Fld :=
  ⟨(34 + t), 0x1c, 0, 16, .w1c, .w, 0, .any, .any⟩

/-- R460 CAN.RX_STAT.LEVEL: FIFO entries, 0 to 24. -/
def CAN_RX_STAT_LEVEL (t : Nat) : Fld :=
  ⟨(34 + t), 0x20, 0, 5, .ro, .live, 0, .any, .any⟩

/-- R460 CAN.RX_STAT.GET: Oldest entry, as buffer index − 16. -/
def CAN_RX_STAT_GET (t : Nat) : Fld :=
  ⟨(34 + t), 0x20, 8, 5, .ro, .live, 0, .any, .any⟩

/-- R460 CAN.RX_POP: Releases the oldest entry. -/
def CAN_RX_POP (t : Nat) : Fld :=
  ⟨(34 + t), 0x24, 0, 1, .wo, .w, 0, .any, .any⟩

/-- R460 CAN.RX_LOST: Saturates at 0xFFFF. -/
def CAN_RX_LOST (t : Nat) : Fld :=
  ⟨(34 + t), 0x28, 0, 16, .ro, .w, 0, .any, .any⟩

/-- R460 CAN.FLT_k.ID: Filter identifier. -/
def CAN_FLT_ID (t : Nat) (n : Nat) : Fld :=
  ⟨(34 + t), (0x100 + n * 0x8), 0, 29, .rw, .w, 0, .any, .any⟩

/-- R460 CAN.FLT_k.XTD: 29-bit identifier. -/
def CAN_FLT_XTD (t : Nat) (n : Nat) : Fld :=
  ⟨(34 + t), (0x100 + n * 0x8), 29, 1, .rw, .w, 0, .any, .any⟩

/-- R460 CAN.FLT_k.EN: Filter enabled. -/
def CAN_FLT_EN (t : Nat) (n : Nat) : Fld :=
  ⟨(34 + t), (0x100 + n * 0x8), 31, 1, .rw, .w, 0, .any, .any⟩

/-- R460 CAN.FLTM_k: Filter mask. -/
def CAN_FLTM (t : Nat) (n : Nat) : Fld :=
  ⟨(34 + t), (0x104 + n * 0x8), 0, 29, .rw, .w, 0, .any, .any⟩

/-- R460 CAN.MSG_i: Per R459. -/
def CAN_MSG (t : Nat) (n : Nat) : Fld :=
  ⟨(34 + t), (0x400 + n * 0x4), 0, 32, .rw, .w, 0, .any, .any⟩

/-- R463 LIN.CTRL.IRQ_EN: 1 routes EV_LIN, raised by any EVT bit, to the event matrix. -/
def LIN_CTRL_IRQ_EN : Fld :=
  ⟨36, 0x0, 0, 1, .rwl, .w, 0, .any, .any⟩

/-- R463 LIN.CTRL.EN: Controller on; LIN_TX recessive while 0. -/
def LIN_CTRL_EN : Fld :=
  ⟨36, 0x0, 1, 1, .rw, .w, 0, .any, .any⟩

/-- R463 LIN.CTRL.LOCK: LOCK bit of LIN, per R8. -/
def LIN_CTRL_LOCK : Fld :=
  ⟨36, 0x0, 31, 1, .w1s, .w, 0, .any, .any⟩

/-- R463 LIN.CFG.ROLE: FP.VEHICLE.LIN_ROLE. -/
def LIN_CFG_ROLE : Fld :=
  ⟨36, 0x4, 0, 1, .rwf, .f, 1, .any, .any⟩

/-- R463 LIN.BAUD.BPS: Bit/s, 1000 to 20 000. -/
def LIN_BAUD_BPS : Fld :=
  ⟨36, 0x8, 0, 15, .rw, .w, 19200, .between 1000 20000, .any⟩

/-- R463 LIN.CMD.OP: OP of R462. -/
def LIN_CMD_OP : Fld :=
  ⟨36, 0xc, 0, 3, .wo, .w, 0, .any, .any⟩

/-- R463 LIN.FRAME.ID: Frame identifier. -/
def LIN_FRAME_ID : Fld :=
  ⟨36, 0x10, 0, 6, .rw, .w, 0, .any, .any⟩

/-- R463 LIN.FRAME.LEN: Data octets, 1 to 8. -/
def LIN_FRAME_LEN : Fld :=
  ⟨36, 0x10, 8, 4, .rw, .w, 8, .between 1 8, .any⟩

/-- R463 LIN.FRAME.ENH: Enhanced checksum. -/
def LIN_FRAME_ENH : Fld :=
  ⟨36, 0x10, 12, 1, .rw, .w, 1, .any, .any⟩

/-- R463 LIN.DATA_0: Octets 0 to 3, octet 0 in bits [7:0]. -/
def LIN_DATA_0 : Fld :=
  ⟨36, 0x14, 0, 32, .rw, .w, 0, .any, .any⟩

/-- R463 LIN.DATA_1: Octets 4 to 7. -/
def LIN_DATA_1 : Fld :=
  ⟨36, 0x18, 0, 32, .rw, .w, 0, .any, .any⟩

/-- R463 LIN.STAT.RESULT: Result of R462. -/
def LIN_STAT_RESULT : Fld :=
  ⟨36, 0x1c, 0, 4, .ro, .w, 0, .any, .any⟩

/-- R463 LIN.STAT.RX_ID: Identifier of the last header. -/
def LIN_STAT_RX_ID : Fld :=
  ⟨36, 0x1c, 8, 6, .ro, .w, 0, .any, .any⟩

/-- R463 LIN.EVT.HEADER: Header received. -/
def LIN_EVT_HEADER : Fld :=
  ⟨36, 0x20, 0, 1, .w1c, .w, 0, .any, .any⟩

/-- R463 LIN.EVT.DONE: Frame ended OK. -/
def LIN_EVT_DONE : Fld :=
  ⟨36, 0x20, 1, 1, .w1c, .w, 0, .any, .any⟩

/-- R463 LIN.EVT.ERR: Frame ended otherwise. -/
def LIN_EVT_ERR : Fld :=
  ⟨36, 0x20, 2, 1, .w1c, .w, 0, .any, .any⟩

/-- R463 LIN.WAKE.US: Wake pulse, 250 to 5000 µs. -/
def LIN_WAKE_US : Fld :=
  ⟨36, 0x24, 0, 13, .rw, .w, 1000, .between 250 5000, .any⟩

/-- R466 GPIO.CTRL.LOCK: LOCK bit of GPIO, per R8. -/
def GPIO_CTRL_LOCK : Fld :=
  ⟨37, 0x0, 31, 1, .w1s, .w, 0, .any, .any⟩

/-- R466 GPIO.DIR: 1 output. -/
def GPIO_DIR : Fld :=
  ⟨37, 0x4, 0, 32, .rw, .c, 0, .any, .any⟩

/-- R466 GPIO.OUT: Output levels. -/
def GPIO_OUT : Fld :=
  ⟨37, 0x8, 0, 32, .rw, .c, 0, .any, .any⟩

/-- R466 GPIO.OUT_SET: Per R465. -/
def GPIO_OUT_SET : Fld :=
  ⟨37, 0xc, 0, 32, .wo, .w, 0, .any, .any⟩

/-- R466 GPIO.OUT_CLR: Per R465. -/
def GPIO_OUT_CLR : Fld :=
  ⟨37, 0x10, 0, 32, .wo, .w, 0, .any, .any⟩

/-- R466 GPIO.IN: Pin levels. -/
def GPIO_IN : Fld :=
  ⟨37, 0x14, 0, 32, .ro, .live, 0, .any, .any⟩

/-- R466 GPIO.IRQ_MODE_0: Pins 0 to 15: 0 off, 1 rising, 2 falling, 3 both. -/
def GPIO_IRQ_MODE_0 : Fld :=
  ⟨37, 0x18, 0, 32, .rw, .w, 0, .any, .any⟩

/-- R466 GPIO.IRQ_MODE_1: Pins 16 to 31. -/
def GPIO_IRQ_MODE_1 : Fld :=
  ⟨37, 0x1c, 0, 32, .rw, .w, 0, .any, .any⟩

/-- R466 GPIO.IRQ_STAT: Per R465. -/
def GPIO_IRQ_STAT : Fld :=
  ⟨37, 0x20, 0, 32, .w1c, .w, 0, .any, .any⟩

/-- R466 GPIO.FUNC_k: FP.PINS.FUNC. -/
def GPIO_FUNC (n : Nat) : Fld :=
  ⟨37, (0x30 + n * 0x4), 0, 32, .rwf, .f, 0, .any, .any⟩

/-- R466 GPIO.PULL_j: FP.PINS.PULL. -/
def GPIO_PULL (n : Nat) : Fld :=
  ⟨37, (0x40 + n * 0x4), 0, 32, .rwf, .f, 0, .any, .any⟩

/-- R466 GPIO.EVOUT_SEL: Event driven by EVT_OUT. -/
def GPIO_EVOUT_SEL : Fld :=
  ⟨37, 0x48, 0, 6, .rw, .w, 0, .any, .any⟩

/-- R469 ADC.CTRL.IRQ_EN: 1 routes EV_ADC, raised by any EVT bit, to the event matrix. -/
def ADC_CTRL_IRQ_EN : Fld :=
  ⟨38, 0x0, 0, 1, .rwl, .w, 0, .any, .any⟩

/-- R469 ADC.CTRL.LOCK: LOCK bit of ADC, per R8. -/
def ADC_CTRL_LOCK : Fld :=
  ⟨38, 0x0, 31, 1, .w1s, .w, 0, .any, .any⟩

/-- R469 ADC.SEQ_CFG.LEN: Steps − 1. -/
def ADC_SEQ_CFG_LEN : Fld :=
  ⟨38, 0x4, 0, 3, .rw, .w, 0, .any, .any⟩

/-- R469 ADC.SEQ_CFG.CONT: Repeat the sequence. -/
def ADC_SEQ_CFG_CONT : Fld :=
  ⟨38, 0x4, 4, 1, .rw, .w, 0, .any, .any⟩

/-- R469 ADC.SEQ_CFG.TRIG: 0 CMD.START, 1 event trigger. -/
def ADC_SEQ_CFG_TRIG : Fld :=
  ⟨38, 0x4, 5, 1, .rw, .w, 0, .any, .any⟩

/-- R469 ADC.SEQ_CH: Channel of step s in bits [4s + 3:4s], 0 to 14. -/
def ADC_SEQ_CH : Fld :=
  ⟨38, 0x8, 0, 32, .rw, .w, 0, .any, .any⟩

/-- R469 ADC.CMD.START: Starts a sequence. -/
def ADC_CMD_START : Fld :=
  ⟨38, 0xc, 0, 1, .wo, .w, 0, .any, .any⟩

/-- R469 ADC.CMD.STOP: Stops after the present step. -/
def ADC_CMD_STOP : Fld :=
  ⟨38, 0xc, 1, 1, .wo, .w, 0, .any, .any⟩

/-- R469 ADC.FIFO.DATA: Result; a read pops the entry. -/
def ADC_FIFO_DATA : Fld :=
  ⟨38, 0x10, 0, 12, .ro, .w, 0, .any, .any⟩

/-- R469 ADC.FIFO.CH: Its channel. -/
def ADC_FIFO_CH : Fld :=
  ⟨38, 0x10, 12, 4, .ro, .w, 0, .any, .any⟩

/-- R469 ADC.FIFO.VALID: 0 when the FIFO was empty. -/
def ADC_FIFO_VALID : Fld :=
  ⟨38, 0x10, 31, 1, .ro, .w, 0, .any, .any⟩

/-- R469 ADC.STAT.BUSY: Sequence running. -/
def ADC_STAT_BUSY : Fld :=
  ⟨38, 0x14, 0, 1, .ro, .live, 0, .any, .any⟩

/-- R469 ADC.STAT.LEVEL: FIFO entries, 0 to 8. -/
def ADC_STAT_LEVEL : Fld :=
  ⟨38, 0x14, 8, 4, .ro, .live, 0, .any, .any⟩

/-- R469 ADC.EVT.SEQ_DONE: Sequence ended. -/
def ADC_EVT_SEQ_DONE : Fld :=
  ⟨38, 0x18, 0, 1, .w1c, .w, 0, .any, .any⟩

/-- R469 ADC.EVT.OVF: Per R467. -/
def ADC_EVT_OVF : Fld :=
  ⟨38, 0x18, 1, 1, .w1c, .w, 0, .any, .any⟩

/-- R469 ADC.EVT.TRIG_MISS: Per R467. -/
def ADC_EVT_TRIG_MISS : Fld :=
  ⟨38, 0x18, 2, 1, .w1c, .w, 0, .any, .any⟩

/-- R469 ADC.STOLEN: Per R468; saturates at 0xFFFF. -/
def ADC_STOLEN : Fld :=
  ⟨38, 0x1c, 0, 16, .ro, .w, 0, .any, .any⟩

/-- R472 I2C.CTRL.IRQ_EN: 1 routes EV_I2C, raised by any EVT bit, to the event matrix. -/
def I2C_CTRL_IRQ_EN : Fld :=
  ⟨39, 0x0, 0, 1, .rwl, .w, 0, .any, .any⟩

/-- R472 I2C.CTRL.LOCK: LOCK bit of I2C_0, per R8. -/
def I2C_CTRL_LOCK : Fld :=
  ⟨39, 0x0, 31, 1, .w1s, .w, 0, .any, .any⟩

/-- R472 I2C.TIMING.LO: SCL low, PERIPH cycles, 48 to 4095. -/
def I2C_TIMING_LO : Fld :=
  ⟨39, 0x4, 0, 12, .rw, .w, 480, .between 48 4095, .any⟩

/-- R472 I2C.TIMING.HI: SCL high, PERIPH cycles, 48 to 4095. -/
def I2C_TIMING_HI : Fld :=
  ⟨39, 0x4, 16, 12, .rw, .w, 480, .between 48 4095, .any⟩

/-- R472 I2C.CMD.ADDR: Target address. -/
def I2C_CMD_ADDR : Fld :=
  ⟨39, 0x8, 0, 7, .wo, .w, 0, .any, .any⟩

/-- R472 I2C.CMD.READ: 1 read. -/
def I2C_CMD_READ : Fld :=
  ⟨39, 0x8, 7, 1, .wo, .w, 0, .any, .any⟩

/-- R472 I2C.CMD.LEN: Octets, 0 to 255. -/
def I2C_CMD_LEN : Fld :=
  ⟨39, 0x8, 8, 8, .wo, .w, 0, .any, .any⟩

/-- R472 I2C.CMD.STOP: Per R470. -/
def I2C_CMD_STOP : Fld :=
  ⟨39, 0x8, 16, 1, .wo, .w, 0, .any, .any⟩

/-- R472 I2C.CMD.GO: Starts the transfer; ignored while BUSY. -/
def I2C_CMD_GO : Fld :=
  ⟨39, 0x8, 31, 1, .wo, .w, 0, .any, .any⟩

/-- R472 I2C.DATA: Write fills the TX FIFO; read empties the RX FIFO. -/
def I2C_DATA : Fld :=
  ⟨39, 0xc, 0, 8, .rw, .w, 0, .any, .any⟩

/-- R472 I2C.STAT.BUSY: Transfer in progress. -/
def I2C_STAT_BUSY : Fld :=
  ⟨39, 0x10, 0, 1, .ro, .live, 0, .any, .any⟩

/-- R472 I2C.STAT.TXL: TX FIFO octets. -/
def I2C_STAT_TXL : Fld :=
  ⟨39, 0x10, 8, 4, .ro, .live, 0, .any, .any⟩

/-- R472 I2C.STAT.RXL: RX FIFO octets. -/
def I2C_STAT_RXL : Fld :=
  ⟨39, 0x10, 16, 4, .ro, .live, 0, .any, .any⟩

/-- R472 I2C.EVT.DONE: Transfer ended without error. -/
def I2C_EVT_DONE : Fld :=
  ⟨39, 0x14, 0, 1, .w1c, .w, 0, .any, .any⟩

/-- R472 I2C.EVT.NACK: Per R470. -/
def I2C_EVT_NACK : Fld :=
  ⟨39, 0x14, 1, 1, .w1c, .w, 0, .any, .any⟩

/-- R472 I2C.EVT.ARB_LOST: Per R470. -/
def I2C_EVT_ARB_LOST : Fld :=
  ⟨39, 0x14, 2, 1, .w1c, .w, 0, .any, .any⟩

/-- R472 I2C.EVT.TIMEOUT: Per R470. -/
def I2C_EVT_TIMEOUT : Fld :=
  ⟨39, 0x14, 3, 1, .w1c, .w, 0, .any, .any⟩

/-- R473 SPIM.CTRL.IRQ_EN: 1 routes EV_SPIM, raised by EVT.DONE, to the event matrix. -/
def SPIM_CTRL_IRQ_EN : Fld :=
  ⟨40, 0x0, 0, 1, .rwl, .w, 0, .any, .any⟩

/-- R473 SPIM.CTRL.LOCK: LOCK bit of SPIM_0, per R8. -/
def SPIM_CTRL_LOCK : Fld :=
  ⟨40, 0x0, 31, 1, .w1s, .w, 0, .any, .any⟩

/-- R473 SPIM.CFG.MODE: Bit 1 CPOL, bit 0 CPHA. -/
def SPIM_CFG_MODE : Fld :=
  ⟨40, 0x4, 0, 2, .rw, .w, 0, .any, .any⟩

/-- R473 SPIM.CFG.LSB_FIRST: Octet bit order. -/
def SPIM_CFG_LSB_FIRST : Fld :=
  ⟨40, 0x4, 2, 1, .rw, .w, 0, .any, .any⟩

/-- R473 SPIM.CFG.CS: 0 SPIM_CS0, 1 SPIM_CS1. -/
def SPIM_CFG_CS : Fld :=
  ⟨40, 0x4, 3, 1, .rw, .w, 0, .any, .any⟩

/-- R473 SPIM.CFG.RX_EN: Per R471. -/
def SPIM_CFG_RX_EN : Fld :=
  ⟨40, 0x4, 4, 1, .rw, .w, 1, .any, .any⟩

/-- R473 SPIM.CFG.DIV: Per R471. -/
def SPIM_CFG_DIV : Fld :=
  ⟨40, 0x4, 8, 8, .rw, .w, 10, .any, .any⟩

/-- R473 SPIM.CMD.LEN: Octets, 1 to 65 535. -/
def SPIM_CMD_LEN : Fld :=
  ⟨40, 0x8, 0, 16, .wo, .w, 0, .between 1 65535, .any⟩

/-- R473 SPIM.CMD.GO: Starts; ignored while BUSY. -/
def SPIM_CMD_GO : Fld :=
  ⟨40, 0x8, 31, 1, .wo, .w, 0, .any, .any⟩

/-- R473 SPIM.DATA: As I2C_0.DATA. -/
def SPIM_DATA : Fld :=
  ⟨40, 0xc, 0, 8, .rw, .w, 0, .any, .any⟩

/-- R473 SPIM.STAT.BUSY: Transfer in progress. -/
def SPIM_STAT_BUSY : Fld :=
  ⟨40, 0x10, 0, 1, .ro, .live, 0, .any, .any⟩

/-- R473 SPIM.STAT.TXL: TX FIFO octets. -/
def SPIM_STAT_TXL : Fld :=
  ⟨40, 0x10, 8, 5, .ro, .live, 0, .any, .any⟩

/-- R473 SPIM.STAT.RXL: RX FIFO octets. -/
def SPIM_STAT_RXL : Fld :=
  ⟨40, 0x10, 16, 5, .ro, .live, 0, .any, .any⟩

/-- R473 SPIM.EVT.DONE: Transfer ended. -/
def SPIM_EVT_DONE : Fld :=
  ⟨40, 0x14, 0, 1, .w1c, .w, 0, .any, .any⟩

/-- The fields of HOSTP, by offset. -/
def rowsHOSTP : List Row :=
  [
  ⟨0x0, 4, 1, fun _ => HOSTP_CTRL_IRQ_EN⟩,
  ⟨0x0, 4, 1, fun _ => HOSTP_CTRL_LOCK⟩,
  ⟨0x4, 4, 1, fun _ => HOSTP_CFG_HP_MODE⟩,
  ⟨0x4, 4, 1, fun _ => HOSTP_CFG_APP_TMO⟩,
  ⟨0x8, 4, 1, fun _ => HOSTP_UART_DIV⟩,
  ⟨0xc, 4, 1, fun _ => HOSTP_STAT_TXQ⟩,
  ⟨0xc, 4, 1, fun _ => HOSTP_STAT_MSGQ⟩,
  ⟨0x10, 4, 1, fun _ => HOSTP_EVT_MSG⟩,
  ⟨0x10, 4, 1, fun _ => HOSTP_EVT_HDR_ERR⟩,
  ⟨0x10, 4, 1, fun _ => HOSTP_EVT_TMO⟩,
  ⟨0x14, 4, 1, fun _ => HOSTP_MSG_HEAD⟩,
  ⟨0x14, 4, 1, fun _ => HOSTP_MSG_SEQ⟩,
  ⟨0x18, 4, 1, fun _ => HOSTP_MSG_LEN⟩,
  ⟨0x20, 4, 1, fun _ => HOSTP_RSP_STATUS⟩,
  ⟨0x24, 4, 1, fun _ => HOSTP_RSP_DETAIL⟩,
  ⟨0x28, 4, 1, fun _ => HOSTP_RSP_DATA_HEAD⟩,
  ⟨0x28, 4, 1, fun _ => HOSTP_RSP_DATA_LEN⟩,
  ⟨0x2c, 4, 1, fun _ => HOSTP_RSP_GO⟩,
  ⟨0x30, 4, 1, fun _ => HOSTP_POST_TYPE⟩,
  ⟨0x34, 4, 1, fun _ => HOSTP_POST_DATA_HEAD⟩,
  ⟨0x34, 4, 1, fun _ => HOSTP_POST_DATA_LEN⟩,
  ⟨0x38, 4, 1, fun _ => HOSTP_POST_GO⟩,
  ⟨0x40, 4, 1, fun _ => HOSTP_CNT_HDR_ERR⟩,
  ⟨0x40, 4, 1, fun _ => HOSTP_CNT_NO_CREDIT⟩] ++ [
  ⟨0x44, 4, 1, fun _ => HOSTP_CNT_Q_DROP⟩]

/-- The fields of CAN, by offset. -/
def rowsCAN (t : Nat) : List Row :=
  [
  ⟨0x0, 4, 1, fun _ => CAN_CTRL_IRQ_EN t⟩,
  ⟨0x0, 4, 1, fun _ => CAN_CTRL_INIT t⟩,
  ⟨0x0, 4, 1, fun _ => CAN_CTRL_AUTO_RECOV t⟩,
  ⟨0x0, 4, 1, fun _ => CAN_CTRL_STBY t⟩,
  ⟨0x0, 4, 1, fun _ => CAN_CTRL_LOCK t⟩,
  ⟨0x4, 4, 1, fun _ => CAN_NBT_BRP t⟩,
  ⟨0x4, 4, 1, fun _ => CAN_NBT_TSEG1 t⟩,
  ⟨0x4, 4, 1, fun _ => CAN_NBT_TSEG2 t⟩,
  ⟨0x4, 4, 1, fun _ => CAN_NBT_SJW t⟩,
  ⟨0x8, 4, 1, fun _ => CAN_DBT_BRP t⟩,
  ⟨0x8, 4, 1, fun _ => CAN_DBT_TSEG1 t⟩,
  ⟨0x8, 4, 1, fun _ => CAN_DBT_TSEG2 t⟩,
  ⟨0x8, 4, 1, fun _ => CAN_DBT_SJW t⟩,
  ⟨0x8, 4, 1, fun _ => CAN_DBT_TDC t⟩,
  ⟨0xc, 4, 1, fun _ => CAN_STAT_STATE t⟩,
  ⟨0xc, 4, 1, fun _ => CAN_STAT_TEC t⟩,
  ⟨0xc, 4, 1, fun _ => CAN_STAT_REC t⟩,
  ⟨0x10, 4, 1, fun _ => CAN_EVT_TX_DONE t⟩,
  ⟨0x10, 4, 1, fun _ => CAN_EVT_RX t⟩,
  ⟨0x10, 4, 1, fun _ => CAN_EVT_RX_OVF t⟩,
  ⟨0x10, 4, 1, fun _ => CAN_EVT_STATE t⟩,
  ⟨0x10, 4, 1, fun _ => CAN_EVT_PROTO_ERR t⟩,
  ⟨0x14, 4, 1, fun _ => CAN_TX_REQ t⟩,
  ⟨0x18, 4, 1, fun _ => CAN_TX_CANCEL t⟩] ++ [
  ⟨0x1c, 4, 1, fun _ => CAN_TX_DONE t⟩,
  ⟨0x20, 4, 1, fun _ => CAN_RX_STAT_LEVEL t⟩,
  ⟨0x20, 4, 1, fun _ => CAN_RX_STAT_GET t⟩,
  ⟨0x24, 4, 1, fun _ => CAN_RX_POP t⟩,
  ⟨0x28, 4, 1, fun _ => CAN_RX_LOST t⟩,
  ⟨0x100, 8, 16, fun n => CAN_FLT_ID t n⟩,
  ⟨0x100, 8, 16, fun n => CAN_FLT_XTD t n⟩,
  ⟨0x100, 8, 16, fun n => CAN_FLT_EN t n⟩,
  ⟨0x104, 8, 16, fun n => CAN_FLTM t n⟩,
  ⟨0x400, 4, 720, fun n => CAN_MSG t n⟩]

/-- The fields of LIN, by offset. -/
def rowsLIN : List Row :=
  [
  ⟨0x0, 4, 1, fun _ => LIN_CTRL_IRQ_EN⟩,
  ⟨0x0, 4, 1, fun _ => LIN_CTRL_EN⟩,
  ⟨0x0, 4, 1, fun _ => LIN_CTRL_LOCK⟩,
  ⟨0x4, 4, 1, fun _ => LIN_CFG_ROLE⟩,
  ⟨0x8, 4, 1, fun _ => LIN_BAUD_BPS⟩,
  ⟨0xc, 4, 1, fun _ => LIN_CMD_OP⟩,
  ⟨0x10, 4, 1, fun _ => LIN_FRAME_ID⟩,
  ⟨0x10, 4, 1, fun _ => LIN_FRAME_LEN⟩,
  ⟨0x10, 4, 1, fun _ => LIN_FRAME_ENH⟩,
  ⟨0x14, 4, 1, fun _ => LIN_DATA_0⟩,
  ⟨0x18, 4, 1, fun _ => LIN_DATA_1⟩,
  ⟨0x1c, 4, 1, fun _ => LIN_STAT_RESULT⟩,
  ⟨0x1c, 4, 1, fun _ => LIN_STAT_RX_ID⟩,
  ⟨0x20, 4, 1, fun _ => LIN_EVT_HEADER⟩,
  ⟨0x20, 4, 1, fun _ => LIN_EVT_DONE⟩,
  ⟨0x20, 4, 1, fun _ => LIN_EVT_ERR⟩,
  ⟨0x24, 4, 1, fun _ => LIN_WAKE_US⟩]

/-- The fields of GPIO, by offset. -/
def rowsGPIO : List Row :=
  [
  ⟨0x0, 4, 1, fun _ => GPIO_CTRL_LOCK⟩,
  ⟨0x4, 4, 1, fun _ => GPIO_DIR⟩,
  ⟨0x8, 4, 1, fun _ => GPIO_OUT⟩,
  ⟨0xc, 4, 1, fun _ => GPIO_OUT_SET⟩,
  ⟨0x10, 4, 1, fun _ => GPIO_OUT_CLR⟩,
  ⟨0x14, 4, 1, fun _ => GPIO_IN⟩,
  ⟨0x18, 4, 1, fun _ => GPIO_IRQ_MODE_0⟩,
  ⟨0x1c, 4, 1, fun _ => GPIO_IRQ_MODE_1⟩,
  ⟨0x20, 4, 1, fun _ => GPIO_IRQ_STAT⟩,
  ⟨0x30, 4, 4, fun n => GPIO_FUNC n⟩,
  ⟨0x40, 4, 2, fun n => GPIO_PULL n⟩,
  ⟨0x48, 4, 1, fun _ => GPIO_EVOUT_SEL⟩]

/-- The fields of ADC, by offset. -/
def rowsADC : List Row :=
  [
  ⟨0x0, 4, 1, fun _ => ADC_CTRL_IRQ_EN⟩,
  ⟨0x0, 4, 1, fun _ => ADC_CTRL_LOCK⟩,
  ⟨0x4, 4, 1, fun _ => ADC_SEQ_CFG_LEN⟩,
  ⟨0x4, 4, 1, fun _ => ADC_SEQ_CFG_CONT⟩,
  ⟨0x4, 4, 1, fun _ => ADC_SEQ_CFG_TRIG⟩,
  ⟨0x8, 4, 1, fun _ => ADC_SEQ_CH⟩,
  ⟨0xc, 4, 1, fun _ => ADC_CMD_START⟩,
  ⟨0xc, 4, 1, fun _ => ADC_CMD_STOP⟩,
  ⟨0x10, 4, 1, fun _ => ADC_FIFO_DATA⟩,
  ⟨0x10, 4, 1, fun _ => ADC_FIFO_CH⟩,
  ⟨0x10, 4, 1, fun _ => ADC_FIFO_VALID⟩,
  ⟨0x14, 4, 1, fun _ => ADC_STAT_BUSY⟩,
  ⟨0x14, 4, 1, fun _ => ADC_STAT_LEVEL⟩,
  ⟨0x18, 4, 1, fun _ => ADC_EVT_SEQ_DONE⟩,
  ⟨0x18, 4, 1, fun _ => ADC_EVT_OVF⟩,
  ⟨0x18, 4, 1, fun _ => ADC_EVT_TRIG_MISS⟩,
  ⟨0x1c, 4, 1, fun _ => ADC_STOLEN⟩]

/-- The fields of I2C, by offset. -/
def rowsI2C : List Row :=
  [
  ⟨0x0, 4, 1, fun _ => I2C_CTRL_IRQ_EN⟩,
  ⟨0x0, 4, 1, fun _ => I2C_CTRL_LOCK⟩,
  ⟨0x4, 4, 1, fun _ => I2C_TIMING_LO⟩,
  ⟨0x4, 4, 1, fun _ => I2C_TIMING_HI⟩,
  ⟨0x8, 4, 1, fun _ => I2C_CMD_ADDR⟩,
  ⟨0x8, 4, 1, fun _ => I2C_CMD_READ⟩,
  ⟨0x8, 4, 1, fun _ => I2C_CMD_LEN⟩,
  ⟨0x8, 4, 1, fun _ => I2C_CMD_STOP⟩,
  ⟨0x8, 4, 1, fun _ => I2C_CMD_GO⟩,
  ⟨0xc, 4, 1, fun _ => I2C_DATA⟩,
  ⟨0x10, 4, 1, fun _ => I2C_STAT_BUSY⟩,
  ⟨0x10, 4, 1, fun _ => I2C_STAT_TXL⟩,
  ⟨0x10, 4, 1, fun _ => I2C_STAT_RXL⟩,
  ⟨0x14, 4, 1, fun _ => I2C_EVT_DONE⟩,
  ⟨0x14, 4, 1, fun _ => I2C_EVT_NACK⟩,
  ⟨0x14, 4, 1, fun _ => I2C_EVT_ARB_LOST⟩,
  ⟨0x14, 4, 1, fun _ => I2C_EVT_TIMEOUT⟩]

/-- The fields of SPIM, by offset. -/
def rowsSPIM : List Row :=
  [
  ⟨0x0, 4, 1, fun _ => SPIM_CTRL_IRQ_EN⟩,
  ⟨0x0, 4, 1, fun _ => SPIM_CTRL_LOCK⟩,
  ⟨0x4, 4, 1, fun _ => SPIM_CFG_MODE⟩,
  ⟨0x4, 4, 1, fun _ => SPIM_CFG_LSB_FIRST⟩,
  ⟨0x4, 4, 1, fun _ => SPIM_CFG_CS⟩,
  ⟨0x4, 4, 1, fun _ => SPIM_CFG_RX_EN⟩,
  ⟨0x4, 4, 1, fun _ => SPIM_CFG_DIV⟩,
  ⟨0x8, 4, 1, fun _ => SPIM_CMD_LEN⟩,
  ⟨0x8, 4, 1, fun _ => SPIM_CMD_GO⟩,
  ⟨0xc, 4, 1, fun _ => SPIM_DATA⟩,
  ⟨0x10, 4, 1, fun _ => SPIM_STAT_BUSY⟩,
  ⟨0x10, 4, 1, fun _ => SPIM_STAT_TXL⟩,
  ⟨0x10, 4, 1, fun _ => SPIM_STAT_RXL⟩,
  ⟨0x14, 4, 1, fun _ => SPIM_EVT_DONE⟩]

end Sys2Proof.Machine.R
end

