-- ==== Sys2Proof/Machine/HostOps.lean ====
section
/-!
DEFINITION. Machine/HostOps.lean: the frames the block sends the host, and its credits (R444 to R451), as shared operations.
-/
namespace Sys2Proof.Machine

open Sys2Proof

namespace L

/-- R451: credits returned for commands that a reset ended, and whether the next READY follows a cold reset. -/
def H_LOST : Fld := latch 33 0 7 .c 0
def H_COLD : Fld := latch 33 1 1 .c 1
/-- R444: the running SEQ of EVENT frames. -/
def H_EVSEQ : Fld := latch 33 2 8 .w 0
/-- R450: the head of the output chain of the CIPHER_JOB that runs on channel 1, plus one, and its octets. -/
def H_OUT : Fld := latch 33 3 12 .w 0
def H_OUTN : Fld := latch 33 4 25 .w 0
/-- R449: how many of the open APP_MSG commands firmware has been given, and the answers it may still give to commands that
have timed out, which are discarded. -/
def H_NMSG : Fld := latch 33 5 3 .w 0
def H_DISC : Fld := latch 33 6 16 .w 0

end L

/-! ### Host frames (R446, R447, R451) -/

/-- R447: a frame queued for the host; a non-final frame or an event that finds its 16 places full is dropped
and counted. -/
def State.hostSend (s : State) (f : HostFrame) : State :=
  let others := (s.htx.filter fun x => !(x.typ == 2 && x.fin)).length
  if !(f.typ == 2 && f.fin) && decide (16 ≤ others) then s.sat R.HOSTP_CNT_Q_DROP 1
  else { s with htx := s.htx ++ [f] }

/-- R444, R451: an EVENT frame. -/
def State.hostEvent (s : State) (typ detail : Nat) (data : List Byte) : State :=
  (s.hostSend ⟨3, s.rd L.H_EVSEQ, typ, 0, false, 0, detail, data⟩).inc L.H_EVSEQ 1

/-- R264, R446: credits moved back to the host, n of them, and the ledger's check. -/
def State.creditBack (s : State) (n : Nat) : State :=
  let s1 := s.wrs [(R.PBM_CREDITS_HOST, s.rd R.PBM_CREDITS_HOST + n), (R.PBM_CREDITS_DEV, s.rd R.PBM_CREDITS_DEV - n)]
  let sum := s1.rd R.PBM_CREDITS_HOST + s1.rd R.PBM_CREDITS_DEV
  if sum = 64 then s1 else s1.ledgerErr 3 0 64 sum false

/-- R446: a credit of the host taken by a command it sends. -/
def State.creditTake (s : State) : State :=
  let s1 := s.wrs [(R.PBM_CREDITS_HOST, s.rd R.PBM_CREDITS_HOST - 1), (R.PBM_CREDITS_DEV, s.rd R.PBM_CREDITS_DEV + 1)]
  let sum := s1.rd R.PBM_CREDITS_HOST + s1.rd R.PBM_CREDITS_DEV
  if sum = 64 then s1 else s1.ledgerErr 3 0 64 sum false

/-- R447: a command ends with its final frame, which returns its credit. -/
def State.hostFinal (s : State) (c : HostCmd) (status detail : Nat) (data : List Byte) : State :=
  let s1 := { s with hcmd := s.hcmd.erase c }
  (s1.when c.credit fun s => s.creditBack 1).hostSend ⟨2, c.seq, c.op, status, true, b2n c.credit, detail, data⟩

/-- R444 to R450: a command ends and its payload chain, where HOST holds it, returns to FREE. -/
def State.hostEnd (s : State) (c : HostCmd) (status detail : Nat) (data : List Byte) : State :=
  let l := if c.head = 0 then [] else (s.chain 2048 (c.head - 1)).filter fun b => s.owner b == ownHost
  (s.handBufs l ownHost ownFree).hostFinal c status detail data

/-- R450: the CIPHER_JOB on channel 1 has its STATUS: its output is returned, or the status of R235. -/
def State.hostJobEnd (s : State) (q status : Nat) : State :=
  if q ≠ 1 ∨ !s.on L.H_OUT then s
  else
    let b := (s.rd (R.CIPHER_Q_CUR 1) - 0x20100000) / 128
    let l := (s.chain 2048 (s.rd L.H_OUT - 1)).filter fun x => s.owner x == ownHost
    let out := (l.flatMap fun x => s.rdBs (bufAddr x) 128).take (s.rd L.H_OUTN)
    let s1 := ((s.portBeats 1 ((out.length + 15) / 16)).handBufs l ownHost ownFree).wrs [(L.H_OUT, 0), (L.H_OUTN, 0)]
    match s1.hcmd.find? fun c => c.op == 6 && c.head == b + 1 with
    | some c => if status = 1 then s1.hostEnd c 0 0 out else s1.hostEnd c 2 status []
    | none => s1

/-- R451: PD_PERIPH loses its commands: their credits are kept for the next READY. -/
def State.hostLost (s : State) : State :=
  let n := (s.hcmd.filter fun c => c.credit).length
  { (s.creditBack n).inc L.H_LOST n with hcmd := [], htx := [] }

/-- R451: PD_PERIPH is powered up or released: EVENT READY. -/
def State.hostReady (s : State) : State :=
  (s.hostEvent 1 (s.rd L.H_LOST + 256 * s.rd L.H_COLD) []).wrs [(L.H_LOST, 0), (L.H_COLD, 0)]

/-- R448: an open SET_POWER command ends. -/
def State.pwrFinal (s : State) (status detail : Nat) : State :=
  match s.hcmd.find? fun c => c.op == 2 with
  | some c => s.hostEnd c status detail []
  | none => s

end Sys2Proof.Machine
end

