-- ==== Sys2Proof/Machine/RegWrite.lean ====
section
/-!
DEFINITION. Machine/RegWrite.lean: what a bus write does to the fields of a register by their table rows
(R4 to R13), and what a read returns of them.
-/
namespace Sys2Proof.Machine

open Sys2Proof

/-- The field of a table row at an offset, if the row has one there. -/
def Row.at (r : Row) (off : Nat) : Option Fld :=
  if off < r.off then none
  else if r.count ≤ 1 ∨ r.stride = 0 then (if off = r.off then some (r.fld 0) else none)
  else if (off - r.off) % r.stride = 0 ∧ (off - r.off) / r.stride < r.count then some (r.fld ((off - r.off) / r.stride))
  else none

/-- The fields of a table at an offset. -/
def fldsAt (rows : List Row) (off : Nat) : List Fld := rows.filterMap fun r => r.at off

/-- The bits of a register's value that are a field's. -/
def Fld.of (f : Fld) (v : Nat) : Nat := v / 2 ^ f.lsb % 2 ^ f.wid

/-- R7, R8, R13: a field set to a value that a master writes: ignored from another writer or out of range. -/
def State.fldSet (s : State) (m : Master) (f : Fld) (x : Nat) : State :=
  if mayWrite m f.by_ && f.rng.ok f.wid x then s.wr f x else s

/-- R7, R8: a bus write of value v to the register that holds a field. A WO field triggers the action of its own
command and holds nothing. -/
def State.fldWrite (s : State) (m : Master) (locked : Bool) (v : Nat) (f : Fld) : State :=
  let x := f.of v
  match f.acc with
  | .rw => s.fldSet m f x
  | .ro | .rwf | .wo => s
  | .w1c => s.wr f (clrMask (s.rd f) x)
  | .w1s => s.wr f (s.rd f ||| x)
  | .rwl => if locked then s else s.fldSet m f x

/-- A bus write of value v at an offset of a block whose registers a table lists. -/
def State.tabWrite (s : State) (m : Master) (locked : Bool) (rows : List Row) (off v : Nat) : State :=
  s.each (fldsAt rows off) fun f s => s.fldWrite m locked v f

/-- R6, R7: what a read of an offset returns of the fields of a table, each at its stored value. -/
def State.tabRead (s : State) (rows : List Row) (off : Nat) : Nat :=
  (fldsAt rows off).foldl (fun a f => if f.acc = .wo then a else a + s.rd f * 2 ^ f.lsb) 0

end Sys2Proof.Machine
end

