-- ==== Sys2Proof/Machine/RegsNfc.lean ====
section
/-!
DEFINITION. Machine/RegsNfc.lean: the NFCR and PORCH registers (R325, R327), one field a definition, written from the
spec's register tables: place, width, access code, Keep class, Reset value, stated range, writer.
-/
namespace Sys2Proof.Machine.R

open Sys2Proof

/-- R325 NFCR.CTRL.IRQ_EN: 1 routes EV_NFCR, raised by any EVT bit, to the event matrix. -/
def NFCR_CTRL_IRQ_EN : Fld :=
  ⟨18, 0x0, 0, 1, .rwl, .w, 0, .any, .any⟩

/-- R325 NFCR.CTRL.AUTO_REFIELD: Field returns after a dip, per R303. -/
def NFCR_CTRL_AUTO_REFIELD : Fld :=
  ⟨18, 0x0, 1, 1, .rwl, .w, 1, .any, .any⟩

/-- R325 NFCR.CTRL.LOCK: LOCK bit of NFCR, per R8. -/
def NFCR_CTRL_LOCK : Fld :=
  ⟨18, 0x0, 31, 1, .w1s, .w, 0, .any, .any⟩

/-- R325 NFCR.CMD.OP: Per R295. -/
def NFCR_CMD_OP : Fld :=
  ⟨18, 0x4, 0, 3, .wo, .w, 0, .any, .any⟩

/-- R325 NFCR.STAT.STATE: 0 OFF, 1 SENSING, 2 GUARD, 3 ON_IDLE, 4 BUSY, 5 HALTED. -/
def NFCR_STAT_STATE : Fld :=
  ⟨18, 0x8, 0, 3, .ro, .live, 0, .any, .any⟩

/-- R325 NFCR.STAT.EXT_FIELD: External field above CA.THRESH. -/
def NFCR_STAT_EXT_FIELD : Fld :=
  ⟨18, 0x8, 4, 1, .ro, .live, 0, .any, .any⟩

/-- R325 NFCR.STAT.RESULT: Per R302. -/
def NFCR_STAT_RESULT : Fld :=
  ⟨18, 0x8, 8, 4, .ro, .w, 0, .any, .any⟩

/-- R325 NFCR.STAT.INV_N: Entries of the last inventory. -/
def NFCR_STAT_INV_N : Fld :=
  ⟨18, 0x8, 16, 4, .ro, .w, 0, .any, .any⟩

/-- R325 NFCR.EVT.DONE: A command ended. -/
def NFCR_EVT_DONE : Fld :=
  ⟨18, 0xc, 0, 1, .w1c, .w, 0, .any, .any⟩

/-- R325 NFCR.EVT.EXT_FIELD: Set under R294. -/
def NFCR_EVT_EXT_FIELD : Fld :=
  ⟨18, 0xc, 1, 1, .w1c, .w, 0, .any, .any⟩

/-- R325 NFCR.EVT.FIELD_DROP: Set under R303. -/
def NFCR_EVT_FIELD_DROP : Fld :=
  ⟨18, 0xc, 2, 1, .w1c, .w, 0, .any, .any⟩

/-- R325 NFCR.EVT.ILIM: Set under R292. -/
def NFCR_EVT_ILIM : Fld :=
  ⟨18, 0xc, 3, 1, .w1c, .w, 0, .any, .any⟩

/-- R325 NFCR.EVT.INV_FULL: Set under R301. -/
def NFCR_EVT_INV_FULL : Fld :=
  ⟨18, 0xc, 4, 1, .w1c, .w, 0, .any, .any⟩

/-- R325 NFCR.DRV.LEVEL: Driver amplitude step, 0 to 31. -/
def NFCR_DRV_LEVEL : Fld :=
  ⟨18, 0x10, 0, 5, .rw, .w, 31, .any, .any⟩

/-- R325 NFCR.DRV.ILIM_MA: Current limit in 10 mA units, 5 to 30. -/
def NFCR_DRV_ILIM_MA : Fld :=
  ⟨18, 0x10, 8, 6, .rw, .w, 25, .between 5 30, .any⟩

/-- R325 NFCR.DRV.B_MOD: Type B modulation index %, 8 to 14. -/
def NFCR_DRV_B_MOD : Fld :=
  ⟨18, 0x10, 16, 5, .rw, .w, 10, .between 8 14, .any⟩

/-- R325 NFCR.MODE.TYPE: 0 Type A, 1 Type B, for TRANSCEIVE. -/
def NFCR_MODE_TYPE : Fld :=
  ⟨18, 0x14, 0, 1, .rw, .w, 0, .any, .any⟩

/-- R325 NFCR.MODE.TX_RATE: 0 106, 1 212, 2 424, 3 848 kb/s. -/
def NFCR_MODE_TX_RATE : Fld :=
  ⟨18, 0x14, 4, 2, .rw, .w, 0, .any, .any⟩

/-- R325 NFCR.MODE.RX_RATE: As TX_RATE. -/
def NFCR_MODE_RX_RATE : Fld :=
  ⟨18, 0x14, 8, 2, .rw, .w, 0, .any, .any⟩

/-- R325 NFCR.MODE.CRC_TX: Per R291. -/
def NFCR_MODE_CRC_TX : Fld :=
  ⟨18, 0x14, 12, 1, .rw, .w, 1, .any, .any⟩

/-- R325 NFCR.MODE.CRC_RX: Per R291. -/
def NFCR_MODE_CRC_RX : Fld :=
  ⟨18, 0x14, 13, 1, .rw, .w, 1, .any, .any⟩

/-- R325 NFCR.MODE.PARITY: Per R291. -/
def NFCR_MODE_PARITY : Fld :=
  ⟨18, 0x14, 14, 1, .rw, .w, 1, .any, .any⟩

/-- R325 NFCR.MODE.TX_LAST_BITS: Per R291. -/
def NFCR_MODE_TX_LAST_BITS : Fld :=
  ⟨18, 0x14, 16, 3, .rw, .w, 0, .any, .any⟩

/-- R325 NFCR.GUARD_ON.CYC: Carrier cycles, 0 to 1 000 000, per R293. -/
def NFCR_GUARD_ON_CYC : Fld :=
  ⟨18, 0x18, 0, 20, .rw, .w, 69156, .between 0 1000000, .any⟩

/-- R325 NFCR.GUARD_SW.CYC: Carrier cycles, 0 to 1 000 000, per R293. -/
def NFCR_GUARD_SW_CYC : Fld :=
  ⟨18, 0x1c, 0, 20, .rw, .w, 69156, .between 0 1000000, .any⟩

/-- R325 NFCR.TMO.CYC: Response timeout, 1172 to 16 777 215 cycles. -/
def NFCR_TMO_CYC : Fld :=
  ⟨18, 0x20, 0, 24, .rw, .w, 4096, .between 1172 16777215, .any⟩

/-- R325 NFCR.FDT_MIN.CYC: Per R297, 1172 to 65 535. -/
def NFCR_FDT_MIN_CYC : Fld :=
  ⟨18, 0x24, 0, 16, .rw, .w, 1172, .between 1172 65535, .any⟩

/-- R325 NFCR.CA.T_IDT: Sensing cycles, 1024 to 65 535, per R294. -/
def NFCR_CA_T_IDT : Fld :=
  ⟨18, 0x28, 0, 16, .rw, .w, 4096, .between 1024 65535, .any⟩

/-- R325 NFCR.CA.THRESH: External field threshold, mV peak-to-peak at NFC_RX_P to NFC_RX_N, 1 to 255. -/
def NFCR_CA_THRESH : Fld :=
  ⟨18, 0x28, 16, 8, .rw, .w, 40, .between 1 255, .any⟩

/-- R325 NFCR.INV_CFG.A_EN: Type A part, per R299. -/
def NFCR_INV_CFG_A_EN : Fld :=
  ⟨18, 0x2c, 0, 1, .rw, .w, 1, .any, .any⟩

/-- R325 NFCR.INV_CFG.B_EN: Type B part, per R300. -/
def NFCR_INV_CFG_B_EN : Fld :=
  ⟨18, 0x2c, 1, 1, .rw, .w, 1, .any, .any⟩

/-- R325 NFCR.INV_CFG.WUP: WUPA and WUPB first. -/
def NFCR_INV_CFG_WUP : Fld :=
  ⟨18, 0x2c, 2, 1, .rw, .w, 1, .any, .any⟩

/-- R325 NFCR.INV_CFG.SKIP_OWN: Ignore the Porch's UID. -/
def NFCR_INV_CFG_SKIP_OWN : Fld :=
  ⟨18, 0x2c, 3, 1, .rw, .w, 1, .any, .any⟩

/-- R325 NFCR.INV_CFG.AUTO_OFF: Per R301. -/
def NFCR_INV_CFG_AUTO_OFF : Fld :=
  ⟨18, 0x2c, 4, 1, .rw, .w, 1, .any, .any⟩

/-- R325 NFCR.INV_CFG.B_N0: Starting slot exponent, 0 to 4. -/
def NFCR_INV_CFG_B_N0 : Fld :=
  ⟨18, 0x2c, 8, 3, .rw, .w, 2, .between 0 4, .any⟩

/-- R325 NFCR.INV_CFG.MAX_ROUNDS: 1 to 15. -/
def NFCR_INV_CFG_MAX_ROUNDS : Fld :=
  ⟨18, 0x2c, 12, 4, .rw, .w, 8, .between 1 15, .any⟩

/-- R325 NFCR.INV_CFG.MAX_CARDS: 1 to 8. -/
def NFCR_INV_CFG_MAX_CARDS : Fld :=
  ⟨18, 0x2c, 16, 4, .rw, .w, 8, .between 1 8, .any⟩

/-- R325 NFCR.INV_CFG.AFI: Type B AFI. -/
def NFCR_INV_CFG_AFI : Fld :=
  ⟨18, 0x2c, 24, 8, .rw, .w, 0, .any, .any⟩

/-- R325 NFCR.TX_HEAD: First buffer of the command, per R296. -/
def NFCR_TX_HEAD : Fld :=
  ⟨18, 0x30, 0, 11, .rw, .w, 0, .any, .any⟩

/-- R325 NFCR.TX_LEN: Command octets, 1 to 256. -/
def NFCR_TX_LEN : Fld :=
  ⟨18, 0x30, 16, 9, .rw, .w, 1, .between 1 256, .any⟩

/-- R325 NFCR.RX_HEAD: First buffer of the response. -/
def NFCR_RX_HEAD : Fld :=
  ⟨18, 0x34, 0, 11, .ro, .w, 0, .any, .any⟩

/-- R325 NFCR.RX_LEN: Response octets, CRC excluded. -/
def NFCR_RX_LEN : Fld :=
  ⟨18, 0x34, 16, 9, .ro, .w, 0, .any, .any⟩

/-- R325 NFCR.RX_INFO.COLL_POS: Per R297. -/
def NFCR_RX_INFO_COLL_POS : Fld :=
  ⟨18, 0x38, 0, 8, .ro, .w, 0, .any, .any⟩

/-- R325 NFCR.RX_INFO.LAST_BITS: Per R291. -/
def NFCR_RX_INFO_LAST_BITS : Fld :=
  ⟨18, 0x38, 8, 3, .ro, .w, 0, .any, .any⟩

/-- R325 NFCR.RX_INFO.CRC_ERR: Response CRC wrong. -/
def NFCR_RX_INFO_CRC_ERR : Fld :=
  ⟨18, 0x38, 12, 1, .ro, .w, 0, .any, .any⟩

/-- R325 NFCR.RX_INFO.PARITY_ERR: Parity wrong. -/
def NFCR_RX_INFO_PARITY_ERR : Fld :=
  ⟨18, 0x38, 13, 1, .ro, .w, 0, .any, .any⟩

/-- R325 NFCR.RX_INFO.COLL: Collision detected. -/
def NFCR_RX_INFO_COLL : Fld :=
  ⟨18, 0x38, 14, 1, .ro, .w, 0, .any, .any⟩

/-- R325 NFCR.JOB.EN: Per R298. -/
def NFCR_JOB_EN : Fld :=
  ⟨18, 0x3c, 0, 1, .rw, .w, 0, .any, .any⟩

/-- R325 NFCR.JOB.SKIP: Leading response octets excluded from the job. -/
def NFCR_JOB_SKIP : Fld :=
  ⟨18, 0x3c, 8, 8, .rw, .w, 0, .any, .any⟩

/-- R325 NFCR.JOB.DESC: Descriptor address in an NFC buffer. -/
def NFCR_JOB_DESC : Fld :=
  ⟨18, 0x40, 0, 32, .rw, .w, 0, .any, .any⟩

/-- R325 NFCR.EXT_CNT: Refusals under R294; saturates at 0xFFFF. -/
def NFCR_EXT_CNT : Fld :=
  ⟨18, 0x44, 0, 16, .ro, .w, 0, .any, .any⟩

/-- R325 NFCR.ILIM_CNT: Current-limit actions; saturates at 0xFFFF. -/
def NFCR_ILIM_CNT : Fld :=
  ⟨18, 0x44, 16, 16, .ro, .w, 0, .any, .any⟩

/-- R325 NFCR.INV_n.TYPE: 0 Type A, 1 Type B. -/
def NFCR_INV_TYPE (n : Nat) : Fld :=
  ⟨18, (0x80 + n * 0x10), 0, 1, .ro, .w, 0, .any, .any⟩

/-- R325 NFCR.INV_n.ID_LEN: Identifier octets: 4, 7 or 10. -/
def NFCR_INV_ID_LEN (n : Nat) : Fld :=
  ⟨18, (0x80 + n * 0x10), 1, 4, .ro, .w, 0, .any, .any⟩

/-- R325 NFCR.INV_n.INFO: SAK, or the ATQB protocol-info octet 1. -/
def NFCR_INV_INFO (n : Nat) : Fld :=
  ⟨18, (0x80 + n * 0x10), 8, 8, .ro, .w, 0, .any, .any⟩

/-- R325 NFCR.INV_n.VALID: Entry filled by the last inventory. -/
def NFCR_INV_VALID (n : Nat) : Fld :=
  ⟨18, (0x80 + n * 0x10), 31, 1, .ro, .w, 0, .any, .any⟩

/-- R325 NFCR.INV_n.ID_0: UID or PUPI octets 0 to 3, first octet in bits [7:0]. -/
def NFCR_INV_ID_0 (n : Nat) : Fld :=
  ⟨18, (0x84 + n * 0x10), 0, 32, .ro, .w, 0, .any, .any⟩

/-- R325 NFCR.INV_n.ID_1: Octets 4 to 7. -/
def NFCR_INV_ID_1 (n : Nat) : Fld :=
  ⟨18, (0x88 + n * 0x10), 0, 32, .ro, .w, 0, .any, .any⟩

/-- R325 NFCR.INV_n.ID_2: Octets 8 to 9. -/
def NFCR_INV_ID_2 (n : Nat) : Fld :=
  ⟨18, (0x8c + n * 0x10), 0, 16, .ro, .w, 0, .any, .any⟩

/-- R327 PORCH.CTRL.IRQ_EN: 1 routes EV_PORCH, raised by any EVT bit, to the event matrix. -/
def PORCH_CTRL_IRQ_EN : Fld :=
  ⟨19, 0x0, 0, 1, .rwl, .w, 0, .any, .any⟩

/-- R327 PORCH.CTRL.LOCK: LOCK bit of PORCH, per R8. -/
def PORCH_CTRL_LOCK : Fld :=
  ⟨19, 0x0, 31, 1, .w1s, .w, 0, .any, .any⟩

/-- R327 PORCH.CFG.ALM_EN: FP.PORCH.ALM_EN. -/
def PORCH_CFG_ALM_EN : Fld :=
  ⟨19, 0x4, 0, 1, .rwf, .f, 1, .any, .any⟩

/-- R327 PORCH.CFG.HOST_WRITE_EN: FP.PORCH.HOST_WRITE_EN. -/
def PORCH_CFG_HOST_WRITE_EN : Fld :=
  ⟨19, 0x4, 1, 1, .rwf, .f, 0, .any, .any⟩

/-- R327 PORCH.CFG.FWI: FWI in force, per R310. -/
def PORCH_CFG_FWI : Fld :=
  ⟨19, 0x4, 4, 4, .ro, .nv, 8, .any, .any⟩

/-- R327 PORCH.CFG.FDET_EN: Per R305. -/
def PORCH_CFG_FDET_EN : Fld :=
  ⟨19, 0x4, 8, 1, .rwl, .w, 1, .any, .any⟩

/-- R327 PORCH.STAT.PWR_SRC: 1 FIELD, 2 HOST, 3 both. -/
def PORCH_STAT_PWR_SRC : Fld :=
  ⟨19, 0x8, 0, 2, .ro, .live, 0, .any, .any⟩

/-- R327 PORCH.STAT.OWNER: 0 NONE, 1 FIELD, 2 HOST. -/
def PORCH_STAT_OWNER : Fld :=
  ⟨19, 0x8, 2, 2, .ro, .live, 0, .any, .any⟩

/-- R327 PORCH.STAT.LM: 0 passive, 1 active, per R306. -/
def PORCH_STAT_LM : Fld :=
  ⟨19, 0x8, 4, 1, .ro, .live, 0, .any, .any⟩

/-- R327 PORCH.STAT.GATE: Write gate open, per R316. -/
def PORCH_STAT_GATE : Fld :=
  ⟨19, 0x8, 5, 1, .ro, .live, 0, .any, .any⟩

/-- R327 PORCH.STAT.RESERVE: Capacitor reserve present. -/
def PORCH_STAT_RESERVE : Fld :=
  ⟨19, 0x8, 6, 1, .ro, .live, 0, .any, .any⟩

/-- R327 PORCH.STAT.SESSION: ISO-DEP session active. -/
def PORCH_STAT_SESSION : Fld :=
  ⟨19, 0x8, 7, 1, .ro, .live, 0, .any, .any⟩

/-- R327 PORCH.STAT.FIELD: Field present. -/
def PORCH_STAT_FIELD : Fld :=
  ⟨19, 0x8, 8, 1, .ro, .live, 0, .any, .any⟩

/-- R327 PORCH.EVT.FIELD_ON: Field arrived. -/
def PORCH_EVT_FIELD_ON : Fld :=
  ⟨19, 0xc, 0, 1, .w1c, .w, 0, .any, .any⟩

/-- R327 PORCH.EVT.FIELD_OFF: Field lost. -/
def PORCH_EVT_FIELD_OFF : Fld :=
  ⟨19, 0xc, 1, 1, .w1c, .w, 0, .any, .any⟩

/-- R327 PORCH.EVT.SESSION_END: Session ended, per R320. -/
def PORCH_EVT_SESSION_END : Fld :=
  ⟨19, 0xc, 2, 1, .w1c, .w, 0, .any, .any⟩

/-- R327 PORCH.EVT.HCMD_DONE: Host command ended, per R323. -/
def PORCH_EVT_HCMD_DONE : Fld :=
  ⟨19, 0xc, 3, 1, .w1c, .w, 0, .any, .any⟩

/-- R327 PORCH.EVT.REDO: A redo ran under R317. -/
def PORCH_EVT_REDO : Fld :=
  ⟨19, 0xc, 4, 1, .w1c, .w, 0, .any, .any⟩

/-- R327 PORCH.EVT.WRITE_BY_FIELD: Per R319. -/
def PORCH_EVT_WRITE_BY_FIELD : Fld :=
  ⟨19, 0xc, 5, 1, .w1c, .w, 0, .any, .any⟩

/-- R327 PORCH.HCMD.OP: 1 READ, 2 WRITE. -/
def PORCH_HCMD_OP : Fld :=
  ⟨19, 0x10, 0, 2, .wo, .w, 0, .any, .any⟩

/-- R327 PORCH.HCMD.PAGE: First page. -/
def PORCH_HCMD_PAGE : Fld :=
  ⟨19, 0x10, 8, 8, .wo, .w, 0, .any, .any⟩

/-- R327 PORCH.HCMD.NPAGES: Pages, 1 to 16. -/
def PORCH_HCMD_NPAGES : Fld :=
  ⟨19, 0x10, 16, 5, .wo, .w, 0, .between 1 16, .any⟩

/-- R327 PORCH.HCMD.GO: Starts the command, per R323. -/
def PORCH_HCMD_GO : Fld :=
  ⟨19, 0x10, 31, 1, .wo, .w, 0, .any, .any⟩

/-- R327 PORCH.HSTAT.BUSY: Command running. -/
def PORCH_HSTAT_BUSY : Fld :=
  ⟨19, 0x14, 0, 1, .ro, .live, 0, .any, .any⟩

/-- R327 PORCH.HSTAT.QUEUED: Command queued. -/
def PORCH_HSTAT_QUEUED : Fld :=
  ⟨19, 0x14, 1, 1, .ro, .live, 0, .any, .any⟩

/-- R327 PORCH.HSTAT.RESULT: Per R323. -/
def PORCH_HSTAT_RESULT : Fld :=
  ⟨19, 0x14, 4, 4, .ro, .w, 0, .any, .any⟩

/-- R327 PORCH.HSTAT.DONE_PAGES: Pages completed. -/
def PORCH_HSTAT_DONE_PAGES : Fld :=
  ⟨19, 0x14, 8, 5, .ro, .w, 0, .any, .any⟩

/-- R327 PORCH.UID_LO: UID octets 0 to 3. -/
def PORCH_UID_LO : Fld :=
  ⟨19, 0x18, 0, 32, .ro, .nv, 0, .any, .any⟩

/-- R327 PORCH.UID_HI: UID octets 4 to 6. -/
def PORCH_UID_HI : Fld :=
  ⟨19, 0x1c, 0, 24, .ro, .nv, 0, .any, .any⟩

/-- R327 PORCH.SEQ: SEQ of the last shadow write. -/
def PORCH_SEQ : Fld :=
  ⟨19, 0x20, 0, 32, .ro, .nv, 0, .any, .any⟩

/-- R327 PORCH.CNT.FIELD_WRITES: Pages written by the field; saturates at 0xFFFF. -/
def PORCH_CNT_FIELD_WRITES : Fld :=
  ⟨19, 0x24, 0, 16, .ro, .w, 0, .any, .any⟩

/-- R327 PORCH.CNT.REDO: Redos; saturates at 0xFFFF. -/
def PORCH_CNT_REDO : Fld :=
  ⟨19, 0x24, 16, 16, .ro, .w, 0, .any, .any⟩

/-- R327 PORCH.TEAR_LOG.OUTCOME: 0 NONE, 1 REDONE, 2 DISCARDED, at the last power-up. -/
def PORCH_TEAR_LOG_OUTCOME : Fld :=
  ⟨19, 0x28, 0, 2, .ro, .nv, 0, .any, .any⟩

/-- R327 PORCH.TEAR_LOG.PAGE: TARGET involved. -/
def PORCH_TEAR_LOG_PAGE : Fld :=
  ⟨19, 0x28, 8, 8, .ro, .nv, 0, .any, .any⟩

/-- R327 PORCH.KEY_CMD.SLOT: Key slot, per R323. -/
def PORCH_KEY_CMD_SLOT : Fld :=
  ⟨19, 0x2c, 0, 2, .wo, .w, 0, .any, .any⟩

/-- R327 PORCH.KEY_CMD.RIGHTS: Rights byte bits [3:0], per R314. -/
def PORCH_KEY_CMD_RIGHTS : Fld :=
  ⟨19, 0x2c, 8, 4, .wo, .w, 0, .any, .any⟩

/-- R327 PORCH.KEY_CMD.GO: Writes the key. -/
def PORCH_KEY_CMD_GO : Fld :=
  ⟨19, 0x2c, 31, 1, .wo, .w, 0, .any, .any⟩

/-- R327 PORCH.WTX.AFTER: Cycles before S(WTX), 4096 to 1 000 000. -/
def PORCH_WTX_AFTER : Fld :=
  ⟨19, 0x30, 0, 20, .rwl, .w, 32768, .between 4096 1000000, .any⟩

/-- R327 PORCH.KEYBUF_k: Key octets 4k to 4k + 3; read as 0. -/
def PORCH_KEYBUF (n : Nat) : Fld :=
  ⟨19, (0x60 + n * 0x4), 0, 32, .wo, .w, 0, .any, .any⟩

/-- R327 PORCH.HBUF_w: Host data, per R323. -/
def PORCH_HBUF (n : Nat) : Fld :=
  ⟨19, (0x400 + n * 0x4), 0, 32, .rw, .w, 0, .any, .any⟩

/-- The fields of NFCR, by offset. -/
def rowsNFCR : List Row :=
  [
  ⟨0x0, 4, 1, fun _ => NFCR_CTRL_IRQ_EN⟩,
  ⟨0x0, 4, 1, fun _ => NFCR_CTRL_AUTO_REFIELD⟩,
  ⟨0x0, 4, 1, fun _ => NFCR_CTRL_LOCK⟩,
  ⟨0x4, 4, 1, fun _ => NFCR_CMD_OP⟩,
  ⟨0x8, 4, 1, fun _ => NFCR_STAT_STATE⟩,
  ⟨0x8, 4, 1, fun _ => NFCR_STAT_EXT_FIELD⟩,
  ⟨0x8, 4, 1, fun _ => NFCR_STAT_RESULT⟩,
  ⟨0x8, 4, 1, fun _ => NFCR_STAT_INV_N⟩,
  ⟨0xc, 4, 1, fun _ => NFCR_EVT_DONE⟩,
  ⟨0xc, 4, 1, fun _ => NFCR_EVT_EXT_FIELD⟩,
  ⟨0xc, 4, 1, fun _ => NFCR_EVT_FIELD_DROP⟩,
  ⟨0xc, 4, 1, fun _ => NFCR_EVT_ILIM⟩,
  ⟨0xc, 4, 1, fun _ => NFCR_EVT_INV_FULL⟩,
  ⟨0x10, 4, 1, fun _ => NFCR_DRV_LEVEL⟩,
  ⟨0x10, 4, 1, fun _ => NFCR_DRV_ILIM_MA⟩,
  ⟨0x10, 4, 1, fun _ => NFCR_DRV_B_MOD⟩,
  ⟨0x14, 4, 1, fun _ => NFCR_MODE_TYPE⟩,
  ⟨0x14, 4, 1, fun _ => NFCR_MODE_TX_RATE⟩,
  ⟨0x14, 4, 1, fun _ => NFCR_MODE_RX_RATE⟩,
  ⟨0x14, 4, 1, fun _ => NFCR_MODE_CRC_TX⟩,
  ⟨0x14, 4, 1, fun _ => NFCR_MODE_CRC_RX⟩,
  ⟨0x14, 4, 1, fun _ => NFCR_MODE_PARITY⟩,
  ⟨0x14, 4, 1, fun _ => NFCR_MODE_TX_LAST_BITS⟩,
  ⟨0x18, 4, 1, fun _ => NFCR_GUARD_ON_CYC⟩] ++ [
  ⟨0x1c, 4, 1, fun _ => NFCR_GUARD_SW_CYC⟩,
  ⟨0x20, 4, 1, fun _ => NFCR_TMO_CYC⟩,
  ⟨0x24, 4, 1, fun _ => NFCR_FDT_MIN_CYC⟩,
  ⟨0x28, 4, 1, fun _ => NFCR_CA_T_IDT⟩,
  ⟨0x28, 4, 1, fun _ => NFCR_CA_THRESH⟩,
  ⟨0x2c, 4, 1, fun _ => NFCR_INV_CFG_A_EN⟩,
  ⟨0x2c, 4, 1, fun _ => NFCR_INV_CFG_B_EN⟩,
  ⟨0x2c, 4, 1, fun _ => NFCR_INV_CFG_WUP⟩,
  ⟨0x2c, 4, 1, fun _ => NFCR_INV_CFG_SKIP_OWN⟩,
  ⟨0x2c, 4, 1, fun _ => NFCR_INV_CFG_AUTO_OFF⟩,
  ⟨0x2c, 4, 1, fun _ => NFCR_INV_CFG_B_N0⟩,
  ⟨0x2c, 4, 1, fun _ => NFCR_INV_CFG_MAX_ROUNDS⟩,
  ⟨0x2c, 4, 1, fun _ => NFCR_INV_CFG_MAX_CARDS⟩,
  ⟨0x2c, 4, 1, fun _ => NFCR_INV_CFG_AFI⟩,
  ⟨0x30, 4, 1, fun _ => NFCR_TX_HEAD⟩,
  ⟨0x30, 4, 1, fun _ => NFCR_TX_LEN⟩,
  ⟨0x34, 4, 1, fun _ => NFCR_RX_HEAD⟩,
  ⟨0x34, 4, 1, fun _ => NFCR_RX_LEN⟩,
  ⟨0x38, 4, 1, fun _ => NFCR_RX_INFO_COLL_POS⟩,
  ⟨0x38, 4, 1, fun _ => NFCR_RX_INFO_LAST_BITS⟩,
  ⟨0x38, 4, 1, fun _ => NFCR_RX_INFO_CRC_ERR⟩,
  ⟨0x38, 4, 1, fun _ => NFCR_RX_INFO_PARITY_ERR⟩,
  ⟨0x38, 4, 1, fun _ => NFCR_RX_INFO_COLL⟩,
  ⟨0x3c, 4, 1, fun _ => NFCR_JOB_EN⟩] ++ [
  ⟨0x3c, 4, 1, fun _ => NFCR_JOB_SKIP⟩,
  ⟨0x40, 4, 1, fun _ => NFCR_JOB_DESC⟩,
  ⟨0x44, 4, 1, fun _ => NFCR_EXT_CNT⟩,
  ⟨0x44, 4, 1, fun _ => NFCR_ILIM_CNT⟩,
  ⟨0x80, 16, 8, fun n => NFCR_INV_TYPE n⟩,
  ⟨0x80, 16, 8, fun n => NFCR_INV_ID_LEN n⟩,
  ⟨0x80, 16, 8, fun n => NFCR_INV_INFO n⟩,
  ⟨0x80, 16, 8, fun n => NFCR_INV_VALID n⟩,
  ⟨0x84, 16, 8, fun n => NFCR_INV_ID_0 n⟩,
  ⟨0x88, 16, 8, fun n => NFCR_INV_ID_1 n⟩,
  ⟨0x8c, 16, 8, fun n => NFCR_INV_ID_2 n⟩]

/-- The fields of PORCH, by offset. -/
def rowsPORCH : List Row :=
  [
  ⟨0x0, 4, 1, fun _ => PORCH_CTRL_IRQ_EN⟩,
  ⟨0x0, 4, 1, fun _ => PORCH_CTRL_LOCK⟩,
  ⟨0x4, 4, 1, fun _ => PORCH_CFG_ALM_EN⟩,
  ⟨0x4, 4, 1, fun _ => PORCH_CFG_HOST_WRITE_EN⟩,
  ⟨0x4, 4, 1, fun _ => PORCH_CFG_FWI⟩,
  ⟨0x4, 4, 1, fun _ => PORCH_CFG_FDET_EN⟩,
  ⟨0x8, 4, 1, fun _ => PORCH_STAT_PWR_SRC⟩,
  ⟨0x8, 4, 1, fun _ => PORCH_STAT_OWNER⟩,
  ⟨0x8, 4, 1, fun _ => PORCH_STAT_LM⟩,
  ⟨0x8, 4, 1, fun _ => PORCH_STAT_GATE⟩,
  ⟨0x8, 4, 1, fun _ => PORCH_STAT_RESERVE⟩,
  ⟨0x8, 4, 1, fun _ => PORCH_STAT_SESSION⟩,
  ⟨0x8, 4, 1, fun _ => PORCH_STAT_FIELD⟩,
  ⟨0xc, 4, 1, fun _ => PORCH_EVT_FIELD_ON⟩,
  ⟨0xc, 4, 1, fun _ => PORCH_EVT_FIELD_OFF⟩,
  ⟨0xc, 4, 1, fun _ => PORCH_EVT_SESSION_END⟩,
  ⟨0xc, 4, 1, fun _ => PORCH_EVT_HCMD_DONE⟩,
  ⟨0xc, 4, 1, fun _ => PORCH_EVT_REDO⟩,
  ⟨0xc, 4, 1, fun _ => PORCH_EVT_WRITE_BY_FIELD⟩,
  ⟨0x10, 4, 1, fun _ => PORCH_HCMD_OP⟩,
  ⟨0x10, 4, 1, fun _ => PORCH_HCMD_PAGE⟩,
  ⟨0x10, 4, 1, fun _ => PORCH_HCMD_NPAGES⟩,
  ⟨0x10, 4, 1, fun _ => PORCH_HCMD_GO⟩,
  ⟨0x14, 4, 1, fun _ => PORCH_HSTAT_BUSY⟩] ++ [
  ⟨0x14, 4, 1, fun _ => PORCH_HSTAT_QUEUED⟩,
  ⟨0x14, 4, 1, fun _ => PORCH_HSTAT_RESULT⟩,
  ⟨0x14, 4, 1, fun _ => PORCH_HSTAT_DONE_PAGES⟩,
  ⟨0x18, 4, 1, fun _ => PORCH_UID_LO⟩,
  ⟨0x1c, 4, 1, fun _ => PORCH_UID_HI⟩,
  ⟨0x20, 4, 1, fun _ => PORCH_SEQ⟩,
  ⟨0x24, 4, 1, fun _ => PORCH_CNT_FIELD_WRITES⟩,
  ⟨0x24, 4, 1, fun _ => PORCH_CNT_REDO⟩,
  ⟨0x28, 4, 1, fun _ => PORCH_TEAR_LOG_OUTCOME⟩,
  ⟨0x28, 4, 1, fun _ => PORCH_TEAR_LOG_PAGE⟩,
  ⟨0x2c, 4, 1, fun _ => PORCH_KEY_CMD_SLOT⟩,
  ⟨0x2c, 4, 1, fun _ => PORCH_KEY_CMD_RIGHTS⟩,
  ⟨0x2c, 4, 1, fun _ => PORCH_KEY_CMD_GO⟩,
  ⟨0x30, 4, 1, fun _ => PORCH_WTX_AFTER⟩,
  ⟨0x60, 4, 4, fun n => PORCH_KEYBUF n⟩,
  ⟨0x400, 4, 256, fun n => PORCH_HBUF n⟩]

end Sys2Proof.Machine.R
end

