-- ==== Sys2Proof/Machine/NfcOps.lean ====
section
/-!
DEFINITION. Machine/NfcOps.lean: the contactless reader's commands as shared operations: how one starts, how its
field comes on, how it ends (R293 to R303).
-/
namespace Sys2Proof.Machine

open Sys2Proof

namespace L

/-- R295: the command in progress: 0 none, else its OP; 7 the return of the field after a dip (R303). -/
def NF_OP : Fld := latch 18 0 3 .w 0
/-- R296, R298: what a frame exchange is at: 1 transmitting, 2 awaiting the response, 3 its cipher job. -/
def NF_STG : Fld := latch 18 1 2 .w 0
/-- R386: a command held by a power state entry. -/
def NF_HELD : Fld := latch 18 2 3 .w 0
/-- R296: the head of a response chain kept with NFC, plus one. -/
def NF_KEPT : Fld := latch 18 3 12 .w 0
/-- R293: the field is on; the sensing interval runs; the amplitude steps by which the limit has lowered it. -/
def NF_ON : Fld := latch 18 4 1 .live 0
def NF_CA : Fld := latch 18 5 1 .live 0
def NF_LOW : Fld := latch 18 6 5 .live 0
/-- R303: the field was on before the dip. -/
def NF_REF : Fld := latch 18 7 1 .w 0
/-- R325: register writes made while BUSY: offset × 2^32 plus the value, in order. -/
def NF_WPEND : Fld := latch 18 8 64 .w 0
/-- R296: the head of the response chain of the command in progress, plus one. -/
def NF_RX : Fld := latch 18 9 12 .w 0
/-- R291: the frame the reader sends or sent last: its octets with their CRC, the parity bits of its whole octets where it has
them, and how many bits of its last octet it has (0: all). -/
def NF_FRM : Fld := latch 18 10 8 .w 0
def NF_PARB : Fld := latch 18 23 1 .w 0
def NF_LASTB : Fld := latch 18 24 3 .w 0
/-- R293: the guard after the field switched on runs. -/
def NF_GRD : Fld := latch 18 25 1 .live 0
/-- R294: the level at the receiver is at or above CA.THRESH. -/
def EXT_LVL : Fld := latch 41 114 1 .live 0
/-- R498: VNFC lies below 2.8 V. -/
def VNFC_LOW : Fld := latch 41 50 1 .live 0
/-- R299, R300: the part of an inventory: 0 none, 1 ATQA awaited, 2 anticollision, 3 SAK awaited, 4 HLTA on its way,
5 guard before Type B, 6 a Type B slot, 7 HLTB on its way, 8 the last REQB on its way. -/
def IV_PH : Fld := latch 18 11 4 .w 0
/-- R299: the cascade level, the identifier bits known of it and how many, the octets of the UID complete, and
whether a collision has shown more PICCs than the one resolved. -/
def IV_CL : Fld := latch 18 12 2 .w 0
def IV_BITS : Fld := latch 18 13 32 .w 0
def IV_NB : Fld := latch 18 14 6 .w 0
def IV_UID : Fld := latch 18 15 8 .w 0
def IV_MORE : Fld := latch 18 16 1 .w 0
/-- R300: the slot exponent, the round, the slot, the collisions and the empty slots of the round. -/
def IV_N : Fld := latch 18 17 3 .w 0
def IV_ROUND : Fld := latch 18 18 5 .w 0
def IV_S : Fld := latch 18 19 6 .w 0
def IV_C : Fld := latch 18 20 6 .w 0
def IV_E : Fld := latch 18 21 6 .w 0
/-- R301: the inventory ends with PARTIAL. -/
def IV_PART : Fld := latch 18 22 1 .w 0

/-- R386 step 2: DMA and reader commands are held. -/
def ENT_HOLD : Fld := latch 41 25 1 .c 0

end L

/-- The buffers of a chain that NFC owns. -/
def State.nfcChain (s : State) (b : Nat) : List Nat := (s.chain 2048 b).filter fun x => s.owner x == ownNfc

/-- R272, R291: CRC_A or CRC_B of a frame, low octet first; an octet's odd parity bit. -/
def nfCrc (typeB : Bool) (l : List Byte) : List Byte :=
  leBytes 2 ((l.foldl (crcByte 0x8408) (if typeB then 0xFFFF else 0x6363)) ^^^ if typeB then 0xFFFF else 0)
def oddParity (b : Byte) : Nat := (countBelow (bit b.toNat) 8 + 1) % 2

/-- R291: the frame that the reader sends next, and the exchange at its transmission: its type, whether it carries a CRC and parity, and
the bits of its last octet where that is incomplete (0: complete), which has no parity bit. -/
def State.nfSend (s : State) (typeB crc par : Bool) (last : Nat) (l : List Byte) : State :=
  let f := if crc then l ++ nfCrc typeB l else l
  let whole := if last = 0 then f else f.dropLast
  (((s.setFf L.NF_FRM (f.map BitVec.toNat)).setFf L.NF_PARB (if par && !typeB then whole.map oddParity else [])).wrs
    [(R.NFCR_STAT_STATE, 4), (L.NF_STG, 1), (L.NF_LASTB, last)]).ifStep 12 2 0 (s.rd R.NFCR_TX_HEAD) 0

/-- R293, R302: a command ends with a result. DEDUCED: one that ABORT ends in the guard leaves STATE at GUARD until the guard is over, so
that no frame starts before it. -/
def State.nfEnd (s : State) (result : Nat) : State :=
  let s1 := s.wrs [(R.NFCR_STAT_STATE, if !s.on L.NF_ON then 0 else if s.on L.NF_GRD then 2 else 3), (L.NF_STG, 0), (L.NF_CA, 0), (L.IV_PH, 0)]
  if s.rd L.NF_OP = 0 then s1
  else if s.rd L.NF_OP = 7 then s1.wr L.NF_OP 0
  else (s1.wrs [(L.NF_OP, 0), (R.NFCR_STAT_RESULT, result), (R.NFCR_EVT_DONE, 1)]).ifEnd 12

/-- R296 step 2: the command chain returned to FREE. -/
def State.nfFreeTx (s : State) : State :=
  if s.rd L.NF_OP = 4 then s.handBufs (s.nfcChain (s.rd R.NFCR_TX_HEAD)) ownNfc ownFree else s

/-- R296 step 4: the response chain handed to APP as the command ends, or kept with NFC. -/
def State.nfDeliver (s : State) (result : Nat) : State :=
  if !s.on L.NF_RX then s.nfEnd result
  else
    let h := s.rd L.NF_RX - 1
    let l := s.nfcChain h
    let s1 := s.wr L.NF_RX 0
    if s1.overShare ownApp l.length then (s1.wr L.NF_KEPT (h + 1)).nfEnd 10
    else (s1.handBufs l ownNfc ownApp).nfEnd result

/-- R298, R239: the cipher job of a TRANSCEIVE has its STATUS. -/
def State.nfJobEnd (s : State) (q status : Nat) : State :=
  if q = 3 ∧ s.rd L.NF_OP = 4 ∧ s.rd L.NF_STG = 3 then s.nfDeliver (if status = 1 then 1 else 12) else s

/-- R299 step 1, step 5: WUPA or REQA; R300: WUPB or REQB with the slot exponent in force. -/
def State.ivReqA (s : State) (wup : Bool) : State :=
  (s.nfSend false false false 7 [if wup then 0x52 else 0x26]).wrs [(L.IV_PH, 1), (L.IV_MORE, 0)]
def State.ivReqB (s : State) (wup : Bool) (ph : Nat) : State :=
  (s.nfSend true true false 0 [0x05, BitVec.ofNat 8 (s.rd R.NFCR_INV_CFG_AFI), BitVec.ofNat 8 (s.rd L.IV_N + if wup then 8 else 0)]).wr L.IV_PH ph

/-- R301: an inventory ends. -/
def State.ivEnd (s : State) : State :=
  let s1 := s.when (s.on R.NFCR_INV_CFG_AUTO_OFF && s.rd R.NFCR_STAT_INV_N == 0) fun s => s.wr L.NF_ON 0
  s1.nfEnd (if s.on L.IV_PART then 13 else 1)

/-- R301: as many entries as asked, while some PICC still answered. -/
def State.ivFull (s : State) : State := s.wrs [(L.IV_PART, 1), (R.NFCR_EVT_INV_FULL, 1)]

def State.ivFilled (s : State) : Bool := decide (s.rd R.NFCR_INV_CFG_MAX_CARDS ≤ s.rd R.NFCR_STAT_INV_N)

/-- R300: the Type B part begins. -/
def State.ivStartB (s : State) : State :=
  if s.on R.NFCR_INV_CFG_B_EN then
    (s.wrs [(L.IV_N, s.rd R.NFCR_INV_CFG_B_N0), (L.IV_ROUND, 0), (L.IV_S, 1), (L.IV_C, 0), (L.IV_E, 0)]).ivReqB
      (s.on R.NFCR_INV_CFG_WUP) (if s.ivFilled then 8 else 6)
  else s.ivEnd

/-- R299, R293: the Type A part ends; a Type B part follows after its guard. -/
def State.ivEndA (s : State) : State :=
  let s1 := s.when (s.ivFilled && s.on L.IV_MORE) State.ivFull
  if s.on R.NFCR_INV_CFG_B_EN then s1.wrs [(R.NFCR_STAT_STATE, 2), (L.NF_STG, 0), (L.IV_PH, 5)] else s1.ivEnd

/-- R30, R293: the field is on and its guard over: what the command in progress does next. DESIGN CHOICE: a TRANSCEIVE whose crossing
to the packet buffers is refused ends with NO_BUFFER. -/
def State.nfGo (s : State) : State :=
  match s.rd L.NF_OP with
  | 3 =>
    let s1 := s.wrs [(L.IV_PART, 0), (L.IV_MORE, 0)]
    if s.on R.NFCR_INV_CFG_A_EN then s1.ivReqA (s.on R.NFCR_INV_CFG_WUP) else s1.ivStartB
  | 4 =>
    let l := (s.chainBytes (s.nfcChain (s.rd R.NFCR_TX_HEAD))).take (s.rd R.NFCR_TX_LEN)
    let typeB := s.rd R.NFCR_MODE_TYPE == 1
    match s.unitOff .nfc (bufAddr (s.rd R.NFCR_TX_HEAD)) false with
    | some t => t.nfEnd 9
    | none => (s.portBeats 3 ((l.length + 15) / 16)).nfSend typeB (s.on R.NFCR_MODE_CRC_TX) (s.on R.NFCR_MODE_PARITY)
        (if typeB then 0 else s.rd R.NFCR_MODE_TX_LAST_BITS) l
  | _ => s.nfEnd 1

/-- R303, R498: the driver stops; a command that needs the field ends with FIELD_DROPPED. -/
def State.nfDrop (s : State) : State :=
  let s1 := s.wrs [(L.NF_ON, 0), (L.NF_LOW, 0), (L.NF_CA, 0), (L.NF_GRD, 0)]
  let s2 := s1.when (s.on L.NF_ON || s.on L.NF_OP) fun s => s.wr R.NFCR_EVT_FIELD_DROP 1
  if s.on L.NF_OP then (s2.when (s.rd L.NF_STG == 1) State.nfFreeTx).nfDeliver 7 else s2.wr R.NFCR_STAT_STATE 0

/-- R294: the level reaches CA.THRESH while the reader senses: the command ends, the field off. -/
def State.nfExt (s : State) : State :=
  ((s.sat R.NFCR_EXT_CNT 1).wr R.NFCR_EVT_EXT_FIELD 1).nfEnd 6

/-- R294: the sensing interval begins. -/
def State.nfSense (s : State) : State := (s.wr L.NF_CA 1).when (s.on L.EXT_LVL) State.nfExt

/-- R293: the field is asked for. -/
def State.nfField (s : State) : State :=
  if s.on L.VNFC_LOW || s.on R.SYSCTL_SUPPLY_STAT_WARN then s.nfDrop
  else if s.on L.NF_ON then s.nfGo
  else (s.wrs [(R.NFCR_STAT_STATE, 1), (L.NF_CA, 0)]).when (s.on R.HALL_CLK_STAT_NFC_SYN_LOCK) State.nfSense

/-- R325: the writes made while BUSY take effect. -/
def State.nfApply (s : State) : State :=
  (s.each (s.ff L.NF_WPEND) fun w s => s.tabWrite .app (s.on R.NFCR_CTRL_LOCK) R.rowsNFCR (w / 2 ^ 32) (w % 2 ^ 32)).setFf L.NF_WPEND []

/-- R296: a chain kept after APP_FULL returns to FREE at the start of the next command. -/
def State.nfKeptFree (s : State) : State :=
  s.when (s.on L.NF_KEPT) fun s => (s.handBufs (s.nfcChain (s.rd L.NF_KEPT - 1)) ownNfc ownFree).wr L.NF_KEPT 0

/-- R295, R296, R326: a command that needs the field starts: the writes that waited take effect, a kept chain
goes to FREE, an INVENTORY clears its entries. -/
def State.nfStart (s : State) (op : Nat) : State :=
  let s1 := s.nfApply.nfKeptFree
  let s2 := s1.when (op == 3) fun s => (s.each (List.range 8) fun n s =>
    s.wrs [(R.NFCR_INV_TYPE n, 0), (R.NFCR_INV_ID_LEN n, 0), (R.NFCR_INV_INFO n, 0), (R.NFCR_INV_VALID n, 0),
      (R.NFCR_INV_ID_0 n, 0), (R.NFCR_INV_ID_1 n, 0), (R.NFCR_INV_ID_2 n, 0)]).wr R.NFCR_STAT_INV_N 0
  ((s2.wrs [(L.NF_OP, op), (L.NF_RX, 0)]).ifStart 12 op 1 0 (s2.rd R.NFCR_TX_HEAD) 0).nfField

/-- R295: a command of CMD.OP. -/
def State.nfOp (s : State) (op : Nat) : State :=
  if op = 5 then
    if s.on L.NF_OP then (s.when (s.rd L.NF_STG ≤ 1) State.nfFreeTx).nfDeliver 11 else s
  else if op = 2 then
    let s1 := s.nfApply.nfKeptFree.wrs [(L.NF_ON, 0), (L.NF_LOW, 0), (L.NF_GRD, 0)]
    if s.on L.NF_OP then (s1.when (s.rd L.NF_STG ≤ 1) State.nfFreeTx).nfDeliver 11
    else s1.wrs [(R.NFCR_STAT_STATE, 0), (R.NFCR_STAT_RESULT, 1), (R.NFCR_EVT_DONE, 1)]
  else s.nfStart op

/-- R295, R386: whether a command is taken in the present state, and a command held by an entry. -/
def State.nfTakes (s : State) (op : Nat) : Bool :=
  op == 5 || [0, 3].contains (s.rd R.NFCR_STAT_STATE) || (op == 2 && s.rd R.NFCR_STAT_STATE == 4)

def State.nfCmd (s : State) (op : Nat) : State :=
  if !s.nfTakes op then s
  else if s.on L.ENT_HOLD && s.rd R.NFCR_STAT_STATE != 4 then s.wr L.NF_HELD op
  else s.nfOp op

/-- R388: an abandoned entry releases the command it held. -/
def State.nfRelease (s : State) : State :=
  if s.on L.NF_HELD then (s.wr L.NF_HELD 0).nfOp (s.rd L.NF_HELD) else s

end Sys2Proof.Machine
end

