-- ==== Sys2Proof/Machine/Wake.lean ====
section
/-!
DEFINITION. Machine/Wake.lean: what a wake source does: it wakes a state (R391, R392), aborts an entry
(R388, R389), or is latched or lost near its end.
-/
namespace Sys2Proof.Machine

open Sys2Proof

namespace L

/-- R386: the target of the entry in progress. -/
def ENT_TGT : Fld := latch 41 20 3 .c 0
/-- R386: how many of the points A0 to A5 the entry in progress has reached. -/
def ENT_PT : Fld := latch 41 21 3 .c 0
/-- R387: the application core has acknowledged, or is in WFI. -/
def ENT_ACK : Fld := latch 41 22 1 .c 0
/-- R388: an abort source has fired; entry ends at the next point. -/
def ENT_ABORT : Fld := latch 41 23 1 .c 0
/-- R386: the states of the two front ends before step 4, Cirrus in bits [3:0], Stratus in bits [7:4]. -/
def ENT_FE : Fld := latch 41 24 8 .c 0
/-- R386 step 5: retention is engaged and the wake detectors are armed. -/
def ENT_RET : Fld := latch 41 26 1 .c 0
/-- R392: a wake is in progress. -/
def WAKING : Fld := latch 41 27 1 .c 0
/-- R392, R386: a wake source fired during the last part of an entry and wakes once it completes. -/
def WAKE_LATCHED : Fld := latch 41 28 1 .c 0
/-- R392: HP_IRQ_N is driven low by the Cellar. -/
def HP_IRQ : Fld := latch 41 29 1 .c 0
/-- R392: the application core's clock stands still (IDLE). -/
def CORE_STOP : Fld := latch 41 30 1 .c 0
/-- R389: the filtered level of the WAKE pin. -/
def WAKE_PIN : Fld := latch 41 32 1 .live 0

end L

/-- R378: the power state. -/
def State.pwr (s : State) : Nat := s.rd R.SYSCTL_PWR_STAT_STATE

/-- R391: whether a source is enabled: its bit of WAKE_EN. -/
def State.wakeEn (s : State) (src : Nat) : Bool :=
  if src = 0 then s.on R.SYSCTL_WAKE_EN_WAKE else bit (s.rd R.SYSCTL_WAKE_EN_SRC) (src - 1)

/-- R391: whether a source wakes a state: IDLE all, SLEEP all, DEEP 0 to 5, OFF only the WAKE pin,
which always wakes OFF. -/
def State.wakes (s : State) (src st : Nat) : Bool :=
  match st with
  | 1 => s.wakeEn src
  | 2 => s.wakeEn src
  | 3 => decide (src ≤ 5) && s.wakeEn src
  | 4 => src == 0
  | _ => false

/-- R388, R390: the completed steps of an entry undone: holds released, clocks running, and from point A3 on
the front ends back in the states they held. -/
def State.entryUndo (s : State) : State :=
  let fe := 4 ≤ s.rd L.ENT_PT
  let s1 := s.wrs [(R.SYSCTL_PWR_STAT_ENTERING, 0), (R.SYSCTL_PWR_STAT_PENDING, 0), (L.ENT_PT, 0), (L.ENT_ACK, 0),
    (L.ENT_ABORT, 0), (L.ENT_HOLD, 0), (L.ENT_RET, 0)]
  let s2 := s1.when (s.on L.ENT_CLK) fun s => (((s.setIsl 2 true).setIsl 9 true).setIsl 10 true).wr L.ENT_CLK 0
  (if fe then s2.wrs [(R.FE_STAT_STATE .cirrus, s.rd L.ENT_FE % 16), (R.FE_STAT_STATE .stratus, s.rd L.ENT_FE / 16)] else s2).nfRelease


/-- R388: an entry abandoned before its commit: the completed steps are undone, the last point reached is
recorded, EVT.ABORTED is set, and a commanding host is told (R448). `priv` tells the WAKE pin or the alarm (R389). -/
def State.entryAbort (s : State) (priv : Bool) : State :=
  let s1 := s.entryUndo.wrs [(R.SYSCTL_PWR_STAT_ABORTED_AT, s.rd L.ENT_PT), (R.SYSCTL_PWR_STAT_ABORT_PRIV, b2n priv),
    (R.SYSCTL_EVT_ABORTED, 1)]
  if s.rd R.SYSCTL_PWR_CFG_AUTHORITY = 0 then (s1.pwrFinal 0 0).hostEvent 2 (s.rd L.ENT_PT) [] else s1

/-- R392: the first source of a wake starts it; a later one only sets its bit (R394). With AUTHORITY 0 a
wake in IDLE changes no state and only drives HP_IRQ_N. -/
def State.wakeStart (s : State) (src : Nat) : State :=
  let s1 := if src < 10 then s.setBitF R.SYSCTL_WAKE_STAT_SRC src else s
  if s.pwr = 1 ∧ s.rd R.SYSCTL_PWR_CFG_AUTHORITY = 0 then
    (if s1.on L.HP_IRQ then s1 else s1.wrs [(R.SYSCTL_WAKE_STAT_FIRST, src), (L.HP_IRQ, 1)])
  else if s1.on L.WAKING then s1 else s1.wrs [(R.SYSCTL_WAKE_STAT_FIRST, src), (L.WAKING, 1)]

/-- R386, R392: a source that fires near the end of an entry is latched; the first of them is noted. -/
def State.wakeLatch (s : State) (src : Nat) : State :=
  ((if s.on L.WAKE_LATCHED then s else s.wr R.SYSCTL_WAKE_STAT_FIRST src).setBitF R.SYSCTL_WAKE_STAT_SRC src).wr L.WAKE_LATCHED 1

/-- R388, R389, R391, R392: wake source `src` fires. During an entry before A5 the WAKE pin and the alarm
abandon it at once and the other sources at the next point; HOSTP does neither. From A5 on a source is
latched and wakes once entry completes. Otherwise it wakes the present state. -/
def State.wakeFire (s : State) (src : Nat) : State :=
  if s.on R.SYSCTL_PWR_STAT_ENTERING then
    let tgt := s.rd L.ENT_TGT
    if src = 0 ∨ src = 6 then
      if s.rd L.ENT_PT < 6 then
        if s.wakeEn src ∨ (src = 0 ∧ tgt = 4) then s.entryAbort true else s
      else if tgt = 2 ∧ s.wakes src tgt then s.wakeLatch src
      else s
    else if !s.wakes src tgt then s
    else if s.rd L.ENT_PT < 6 then (if src = 1 then s else s.wr L.ENT_ABORT 1)
    else s.wakeLatch src
  else if s.wakes src s.pwr then s.wakeStart src
  else s

end Sys2Proof.Machine
end

