-- ==== Sys2Proof/Machine/Evq.lean ====
section
/-!
DEFINITION. Machine/Evq.lean: the event queue (R171 to R174), the armed radio events and their
cancellation (R186), and the context store as memory (R153 to R164).
-/
namespace Sys2Proof.Machine

open Sys2Proof

namespace L

/-- R150, R173: event queue entries reserved by frames between their sync instant and their verdict. -/
def EVQ_RSV : Fld := latch 10 0 7 .w 0
/-- R173: events lost and not yet told by an EVQ_LOST entry. -/
def EVQ_LOST : Fld := latch 10 1 16 .w 0
/-- R151, R226: the frame key of a radio's reception: 0 not asked, 1 asked, 2 ready, 3 refused, 4 lane mismatch. -/
def RX_KEYST (r : Radio) : Fld := latch 10 (10 + r.idx) 3 .w 0
/-- R151: the derived frame key of a radio's reception, and the root slot it came from. -/
def RX_KEY (r : Radio) : Fld := latch 10 (12 + r.idx) 128 .w 0
def RX_SLOT (r : Radio) : Fld := latch 10 (14 + r.idx) 4 .w 0
/-- R151: the context whose key was asked for, plus one. -/
def RX_KCTX (r : Radio) : Fld := latch 10 (62 + r.idx) 9 .w 0
/-- R162: the 64-bit words of a context in which an uncorrectable error stands. -/
def CTX_BAD (k : Nat) : Fld := latch 11 (1000 + k) 16 .t 0
/-- R161, R182: the context, plus one, of a snapshot that waits for a commit pending on it; and the soft errors that its read meets, each
as twice its word plus whether it is uncorrectable. -/
def SNAP_WAIT : Fld := latch 10 64 9 .w 0
def SNAP_ERR : Fld := latch 10 65 5 .w 0
/-- R149: the context a radio's reception was matched to, plus one (0 none), and whether it was identified. -/
def RX_CTX (r : Radio) : Fld := latch 10 (16 + r.idx) 9 .w 0
def RX_IDED (r : Radio) : Fld := latch 10 (18 + r.idx) 1 .w 0
/-- R148, R150: a frame lies between its sync instant and its verdict: 1 header awaited, 2 length known,
3 last bit decided; its sync timestamp (R129), its length and the buffers reserved for it. -/
def RX_ST (r : Radio) : Fld := latch 10 (20 + r.idx) 2 .w 0
def RX_TS (r : Radio) : Fld := latch 10 (22 + r.idx) 64 .w 0
def RX_LEN (r : Radio) : Fld := latch 10 (24 + r.idx) 11 .w 0
def RX_BUFS (r : Radio) : Fld := latch 10 (26 + r.idx) 11 .w 0
/-- R145: the frame receives REJECT_LANE for a lockstep mismatch. -/
def RX_LOCKSTEP (r : Radio) : Fld := latch 10 (28 + r.idx) 1 .w 0
/-- R145, R146: from the detection of a lockstep mismatch to the restart of the pair. -/
def LS_HOLD : Fld := latch 10 61 1 .w 0
/-- R162: an uncorrectable word was met in the frame's context. -/
def RX_FAULT (r : Radio) : Fld := latch 10 (30 + r.idx) 1 .w 0
/-- R135: the receive report of the frame: CRC or FCS right, RSSI, LQI. -/
def RX_CRC (r : Radio) : Fld := latch 10 (32 + r.idx) 1 .w 0
def RX_RSSI (r : Radio) : Fld := latch 10 (34 + r.idx) 8 .w 0
def RX_LQI (r : Radio) : Fld := latch 10 (36 + r.idx) 8 .w 0
/-- R148: the handle of the event whose window the frame came in, plus one (0 none). -/
def RX_EV (r : Radio) : Fld := latch 10 (38 + r.idx) 5 .w 0
/-- R192: the buffer an acknowledgement of a radio holds, plus one (0 none). -/
def ACK_BUF (r : Radio) : Fld := latch 12 (r.idx) 12 .w 0
/-- R159: the context being freed, plus one (0 none). -/
def FREEING : Fld := latch 11 300 9 .w 0
/-- R197: the sequence bits of an LE connection: bit 0 NESN, bit 1 SN; and the last unmapped channel of
channel selection algorithm 1. -/
def LE_SEQ (k : Nat) : Fld := latch 11 (400 + k) 2 .t 0
def LE_UNMAPPED (k : Nat) : Fld := latch 11 (700 + k) 6 .t 0
/-- R209: LINK_TIME at which band n last restarted, and its 65 buckets, the current one first (R208). -/
def DUTY_T0 (n : Nat) : Fld := latch 12 (20 + n) 64 .c 0
def DUTY_BKT (n : Nat) : Fld := latch 12 (30 + n) 32 .c 0
/-- R208: the reservations in flight of band n, µs. -/
def DUTY_RSV (n : Nat) : Fld := latch 12 (40 + n) 32 .w 0
/-- R192, R207: the duty band, plus one, and the airtime of a radio's prepared acknowledgement. -/
def ACK_BAND (r : Radio) : Fld := latch 12 (54 + r.idx) 4 .w 0
def ACK_AIR (r : Radio) : Fld := latch 12 (56 + r.idx) 32 .w 0
/-- R162: the next context the scrubber reads. -/
def SCRUB : Fld := latch 11 301 8 .w 0

end L

/-- R171: an entry from its fields; the event instant is LINK_TIME unless a frame's sync instant is given. -/
def mkEntry (typ ctx verdict radio hasBuf buf ts len rssi info : Nat) : EvqEntry :=
  ⟨typ % 256 + ctx % 256 * 2 ^ 8 + verdict % 8 * 2 ^ 16 + radio % 2 * 2 ^ 19 + hasBuf % 2 * 2 ^ 20 + buf % 2048 * 2 ^ 21,
   ts % 2 ^ 32, ts / 2 ^ 32 % 2 ^ 32, len % 2048 + rssi % 256 * 2 ^ 16 + info % 256 * 2 ^ 24⟩

/-- R172: an entry's type. -/
def EvqEntry.typ (e : EvqEntry) : Nat := e.w0 % 256

/-- R173: RX_FRAME, RX_REJECT and ABANDONED are frame events. -/
def isFrameEvt (t : Nat) : Bool := t == 1 || t == 2 || t == 8

/-- Entries in the queue or reserved, and those of them that belong to frames. -/
def State.evqUsed (s : State) : Nat := s.evq.length + s.rd L.EVQ_RSV
def State.evqFrames (s : State) : Nat := (s.evq.filter fun e => isFrameEvt e.typ).length + s.rd L.EVQ_RSV

/-- R385: an entry posted in a listen window wakes when its type's bit of WAKE_EVQ is set. -/
def State.evqWake (s : State) (typ : Nat) : State :=
  if s.on R.SYSCTL_PWR_STAT_LISTEN && bit (s.rd R.SYSCTL_WAKE_EVQ) (if typ < 128 then typ else 15) then s.wakeFire 9 else s

/-- An entry put at the end of the queue. -/
def State.evqPush (s : State) (e : EvqEntry) : State := ({ s with evq := s.evq ++ [e] }).evqWake e.typ

/-- R173: an entry posted at a free place, or lost and counted. -/
def State.post (s : State) (e : EvqEntry) : State :=
  if s.evqUsed < 64 then s.evqPush e
  else ((s.sat R.LINK_EVQ_STAT_DROP_CNT 1).sat L.EVQ_LOST 1).wr R.LINK_EVT_EVQ_DROP 1

/-- R173: at the next free entry, the lost events are told by an EVQ_LOST entry. -/
def State.postLost (s : State) : State :=
  if s.on L.EVQ_LOST && decide (s.evqUsed < 64) then
    (s.evqPush (mkEntry 9 0 0 0 0 0 s.lt 0 0 (min (s.rd L.EVQ_LOST) 255))).wr L.EVQ_LOST 0
  else s

/-- R150, R173: a frame's reservation of one entry, at most 56 for frames. -/
def State.evqReserve (s : State) : Option State :=
  if s.evqUsed < 64 ∧ s.evqFrames < 56 then some (s.inc L.EVQ_RSV 1) else none

/-- R173: a reserved entry released, and one filled. -/
def State.evqRelease (s : State) : State := (s.wr L.EVQ_RSV (s.rd L.EVQ_RSV - 1)).postLost
def State.evqFill (s : State) (e : EvqEntry) : State := (s.wr L.EVQ_RSV (s.rd L.EVQ_RSV - 1)).evqPush e

/-- An event of the link controller itself, at the present LINK_TIME. -/
def State.postSimple (s : State) (typ ctx info : Nat) : State := s.post (mkEntry typ ctx 0 0 0 0 s.lt 0 0 info)

/-! ### The context store -/

/-- R153, R154: the address of a context's byte, and its little-endian fields. -/
def ctxAddr (k off : Nat) : Nat := 0x20160000 + k % 256 * 0x80 + off
def State.ctxRd (s : State) (k off n : Nat) : Nat := s.rdLe (ctxAddr k off) n
def State.ctxWr (s : State) (k off n v : Nat) : State := s.wrLe (ctxAddr k off) n v

def State.ctxType (s : State) (k : Nat) : Nat := s.ctxRd k 0 1
def State.ctxState (s : State) (k : Nat) : Nat := s.ctxRd k 1 1
def State.ctxFlag (s : State) (k i : Nat) : Bool := bit (s.ctxRd k 2 1) i

/-- R156: whether a context is marked FAULTED, and whether frames are matched to it. -/
def State.ctxFaulted (s : State) (k : Nat) : Bool := bit (s.rd (R.CTX_FAULTED (k / 32))) (k % 32)
def State.ctxLive (s : State) (k : Nat) : Bool :=
  s.ctxState k == 2 && !s.ctxFaulted k && s.rd L.FREEING != k + 1

/-- A count in a context raised by one, saturating at its width. -/
def State.ctxSat (s : State) (k off n : Nat) : State :=
  s.ctxWr k off n (min (s.ctxRd k off n + 1) (256 ^ n - 1))

/-- R154: the statistics MISSED. -/
def State.ctxMissed (s : State) (k : Nat) : State := s.ctxSat k 0x70 2

/-- R155: whether a context is an LE one. -/
def State.leCtx (s : State) (k : Nat) : Bool := s.ctxType k == 1 || s.ctxType k == 2

/-- R151: the key of a context asked for, for a radio's reception. -/
def State.askKey (s : State) (r : Radio) (k : Nat) : State := s.wrs [(L.RX_KEYST r, 1), (L.RX_KCTX r, k + 1)]

/-- R164: a context's INFLIGHT record. -/
def State.ctxInflight (s : State) (k op step prog detail : Nat) : State :=
  ((s.ctxWr k 0x74 1 op).ctxWr k 0x75 1 step).ctxWr k 0x76 2 prog |>.ctxWr k 0x78 4 detail

/-- All 128 bytes of a context zero, its FAULTED bit clear (R158, R159, R163). -/
def State.ctxZero (s : State) (k : Nat) : State :=
  ((s.dropMem (ctxAddr k 0) (ctxAddr k 0x80)).clrBitF (R.CTX_FAULTED (k / 32)) (k % 32)).wrs
    [(L.LE_SEQ k, 0), (L.LE_UNMAPPED k, 0), (L.CTX_BAD k, 0)]

/-- R155: the radio of a context type. -/
def typeRadio (t : Nat) : Nat := if t = 3 ∨ t = 4 then 1 else 0

/-- R157: a context type's cap and how many of its contexts are not FREE. -/
def State.typeCap (s : State) (t : Nat) : Nat :=
  match t with
  | 1 => s.rd R.CTX_CAP_0_LE_ADV_MAX
  | 2 => s.rd R.CTX_CAP_0_LE_CONN_MAX
  | 3 => s.rd R.CTX_CAP_1_MESH_NBR_MAX
  | 4 => s.rd R.CTX_CAP_2_MESH_GRP_MAX
  | 5 => s.rd R.CTX_CAP_1_OQPSK_MAX
  | _ => 0
def State.typeUse (s : State) (t : Nat) : Nat := countBelow (fun k => s.ctxType k == t && s.ctxState k != 0) 256

/-- R157: whether a context lies in a radio's partition. -/
def State.inPart (s : State) (radio k : Nat) : Bool :=
  let c := s.rd R.CTX_PART_CIRRUS_N
  if radio = 0 then decide (k < c) else decide (c ≤ k) && decide (k < c + s.rd R.CTX_PART_STRATUS_N)

/-! ### Events and their cancellation -/

/-- R184: the transmitting kinds. -/
def txKind (kind : Nat) : Bool := [2, 3, 4, 6, 8].contains kind

/-- R188: a TX_DONE entry for an event. -/
def State.txDone (s : State) (e : Armed) (result : Nat) : State :=
  s.post (mkEntry 3 e.ctx 0 (e.handle / 8) 0 0 s.lt e.txLen 0 result)

/-- R186: an event cancelled: it leaves the list, and a transmitting kind ends with CANCELLED. -/
def State.cancelEv (s : State) (e : Armed) : State :=
  let s1 := { s with armed := s.armed.filter fun x => x.handle != e.handle }
  if txKind e.kind then s1.txDone e 12 else s1

def State.cancelWhere (s : State) (p : Armed → Bool) : State :=
  s.each (s.armed.filter p) fun e s => s.cancelEv e

/-- R186: every armed event of a context cancelled. -/
def State.cancelCtx (s : State) (k : Nat) : State := s.cancelWhere fun e => e.ctx == k

/-- R162: an error found in a context word: corrected and counted, or the context made FAULTED, with the
log, the fault monitor and the event. -/
def State.ctxEcc (s : State) (k w : Nat) (uncorr inj : Bool) : State :=
  let log (s : State) : State := s.wrs [(R.CTX_ECC_LOG_INDEX, k), (R.CTX_ECC_LOG_WORD, w),
    (R.CTX_ECC_LOG_UNCORR, b2n uncorr), (R.CTX_ECC_LOG_VALID, 1)]
  if uncorr then
    let s1 := ((s.setBitF (R.CTX_FAULTED (k / 32)) (k % 32)).sat R.CTX_ECC_CNT_UNCORR 1).setBitF (L.CTX_BAD k) w
    let s2 := s1.when (!s1.on R.CTX_ECC_LOG_VALID || !s1.on R.CTX_ECC_LOG_UNCORR) log
    let s3 := ((s2.fire 0x20 (k * 16 + w) inj).postSimple 5 k 0).cancelCtx k
    s3.each [Radio.cirrus, Radio.stratus] fun r s => s.when (s.rd (L.RX_CTX r) == k + 1) fun s => s.wr (L.RX_FAULT r) 1
  else
    let s1 := s.sat R.CTX_ECC_CNT_CORR 1
    (s1.when (!s1.on R.CTX_ECC_LOG_VALID) log).fire 0x21 (k * 16 + w) inj

/-- R162, R477: context words read, with the soft errors met, those an injection makes and those that stand: the state, and whether a word
was uncorrectable. -/
def State.ctxReadWords (s : State) (k : Nat) (words : List Nat) (errs : List (Nat × Bool)) : State × Bool :=
  let at_ := s.rd L.INJ_A % 4096
  let hitU := s.injHits 0x20 && at_ / 16 == k && words.contains (at_ % 16)
  let hitC := s.injHits 0x21 && at_ / 16 == k && words.contains (at_ % 16)
  let s1 := s.when hitU fun s => s.injActed.ctxEcc k (at_ % 16) true true
  let s2 := s1.when hitC fun s => s.injActed.ctxEcc k (at_ % 16) false true
  let es := (errs ++ ((List.range 16).filter fun w => bit (s.rd (L.CTX_BAD k)) w).map fun w => (w, true)).filter fun e => words.contains e.1
  (s2.each es fun e s => s.ctxEcc k e.1 e.2 false, hitU || es.any fun e => e.2)

end Sys2Proof.Machine
end

