-- ==== Sys2Proof/Machine/Keys.lean ====
section
/-!
DEFINITION. Machine/Keys.lean: the key store (R225 to R231), the verdict lane's two copies (R219 to R221)
and the cipher lock (R237), as shared operations.
-/
namespace Sys2Proof.Machine

open Sys2Proof

namespace L

/-- R225: a root slot in OTP: its key, first octet in the low bits, its size, its policy of R226 and its state. -/
def OTP_KEY (s : Nat) : Fld := latch 42 s 256 .nv 0
def OTP_KSIZE (s : Nat) : Fld := latch 42 (16 + s) 1 .nv 0
def OTP_POLICY (s : Nat) : Fld := latch 42 (32 + s) 5 .nv 0
def OTP_STATE (s : Nat) : Fld := latch 42 (48 + s) 2 .nv 0
/-- R228: the four redundant revocation bits of a slot. -/
def OTP_REV (s : Nat) : Fld := latch 42 (64 + s) 4 .nv 0
/-- R223: entry k of the IV table, octet 0 in bits [7:0]; in PD_CTX. -/
def IV (k : Nat) : Fld := latch 11 k 64 .t 0
/-- R245: how much of the KEYSEQ sequence stands: 0, 1 after 0x0D6E, 2 after 0x0B71. -/
def KEYSEQ : Fld := latch 14 0 2 .w 0
/-- R227: the slot, size and policy of the provisioning in progress. -/
def PROG_SLOT : Fld := latch 14 1 4 .w 0
def PROG_KSIZE : Fld := latch 14 2 1 .w 0
def PROG_POLICY : Fld := latch 14 3 5 .w 0
/-- R228: the slot whose revocation bits are being programmed. -/
def REV_SLOT : Fld := latch 14 4 4 .w 0
/-- R221: a LANE reset runs, from the mismatch that reached the limit to READY. -/
def LANE_RST : Fld := latch 41 40 1 .c 0
/-- R221: a LANE reset is due at the end of this step. -/
def DUE_LANE : Fld := latch 41 41 1 .c 0
/-- R236: the present job of channel q: 0 none, 1 waits for its key, 2 runs. -/
def JOB_ST (q : Nat) : Fld := latch 13 q 2 .w 0
/-- R232: the key of channel q's job, derived or software, first octet in the low bits. -/
def JOB_KEY (q : Nat) : Fld := latch 13 (8 + q) 256 .w 0
/-- R235: a status the job of channel q is bound to end with (0 none so far). -/
def JOB_BAD (q : Nat) : Fld := latch 13 (16 + q) 4 .w 0
/-- R236: ABORT was written, or a reset reached the requester. -/
def JOB_ABORT (q : Nat) : Fld := latch 13 (24 + q) 1 .w 0
/-- R240: the octets of its data that channel q's job has taken in, oldest first; Q_PROG counts them. -/
def JOB_IN (q : Nat) : Fld := latch 13 (40 + q) 8 .w 0
/-- R241: the quarantine buffer a single-buffer job holds, plus one. -/
def JOB_QBUF (q : Nat) : Fld := latch 13 (32 + q) 12 .w 0

end L

/-- R226: users of a derivation: 0 LINK, 1 APP, 2 HOST, 3 ATTIC, 4 NFC, as their policy bit. -/
def chanUser (q : Nat) : Nat := if q = 4 then 0 else q + 1

/-- R226: whether a derivation from a slot is allowed to a user. -/
def State.slotAllowed (s : State) (slot user : Nat) : Bool :=
  s.rd (R.KEYS_SLOT_STATE slot) == 1 && bit (s.rd (R.KEYS_SLOT_POLICY slot)) user &&
    bit (s.rd (if user = 0 then R.KEYS_FP_SLOTS_LINK else R.KEYS_FP_SLOTS_SW)) slot

/-- R226: what a refusal does. -/
def State.keyRefused (s : State) : State := (s.wr R.KEYS_EVT_REFUSED 1).sat R.KEYS_REFUSE_CNT 1

/-- The root key of a slot as octets (R225). -/
def State.rootKey (s : State) (slot : Nat) : List Byte :=
  leBytes (if s.on (R.KEYS_SLOT_KSIZE slot) then 32 else 16) (s.rd (L.OTP_KEY slot))

/-- R154, R230: the frame key of a context. Stage 2 of LE_CONN is e(LTK, SKD), which takes SKD most significant octet first. -/
def State.linkKey (s : State) (k : Nat) : List Byte :=
  let sel := s.ctxRd k 0x30 1
  let k1 := kdfStage (s.rootKey (sel % 16)) 1 (s.rdBs (ctxAddr k 0x10) 16) false
  let div := s.rdBs (ctxAddr k 0x20) 16
  if !bit sel 4 then k1
  else if s.ctxType k = 2 then aesEnc k1 div.reverse
  else kdfStage k1 2 div false

/-- R230: an LE_CONN context with DEPTH 0 has no key. -/
def State.linkKeyOk (s : State) (k : Nat) : Bool :=
  s.slotAllowed (s.ctxRd k 0x30 1 % 16) 0 && !(s.ctxType k == 2 && !bit (s.ctxRd k 0x30 1) 4)

/-- R229: the key of a software job from its descriptor's label and diversifier. -/
def State.jobKey (s : State) (slot : Nat) (label div : List Byte) (depth k256 : Bool) : List Byte :=
  if depth then kdfStage (kdfStage (s.rootKey slot) 1 label false) 2 div k256
  else kdfStage (s.rootKey slot) 1 label k256

/-- R220, R221: a lane mismatch of an operation (LANE_LOG.OP code) on a context or channel. -/
def State.laneMismatch (s : State) (op ctx : Nat) (inj : Bool) : State :=
  let s1 := (s.wr R.CIPHER_EVT_LANE_MISMATCH 1).sat R.CIPHER_LANE_TOTAL 1
  let s2 := s1.when (!s1.on R.CIPHER_LANE_LOG_VALID) fun s =>
    s.wrs [(R.CIPHER_LANE_LOG_OP, op), (R.CIPHER_LANE_LOG_CTX, ctx), (R.CIPHER_LANE_LOG_VALID, 1)]
  let word := s2.rd R.CIPHER_LANE_LOG_OP + s2.rd R.CIPHER_LANE_LOG_CTX * 256 + 2 ^ 31
  let s3 := s2.fire 0x12 word inj
  let p := s3.rd R.CIPHER_LANE_CFG_PERSIST
  let o := s3.occasion 0x13
  let s4 := if o.1 then o.2.wr R.CIPHER_LANE_CONSEC p else s3.wr R.CIPHER_LANE_CONSEC (min (s3.rd R.CIPHER_LANE_CONSEC + 1) 31)
  if p ≤ s4.rd R.CIPHER_LANE_CONSEC ∧ !s4.on L.LANE_RST then
    (s4.wrs [(L.LANE_RST, 1), (L.DUE_LANE, 1)]).fire 0x13 p o.1
  else s4

/-- R221: a clean verdict-lane operation clears CONSEC. -/
def State.laneClean (s : State) : State := s.wr R.CIPHER_LANE_CONSEC 0

/-- R219, R477: one verdict-lane operation whose copies differ when told so or when injection 0x12 acts:
whether it mismatched, and the state after. -/
def State.laneOp (s : State) (op ctx : Nat) (differs : Bool) : Bool × State :=
  let o := s.occasion 0x12
  if o.1 || differs then (true, o.2.laneMismatch op ctx o.1) else (false, o.2.laneClean)

/-- R237: the lock's holder set, mirrored in PBM.TOKENS (R270); SWKEY is zeroed as it returns to FREE (R238). -/
def State.setLock (s : State) (owner : Nat) : State :=
  let s1 := s.wrs [(R.CIPHER_LOCK_OWNER, owner), (R.PBM_TOKENS_CIPHER, owner), (R.CIPHER_LOCK_RELEASING, 0)]
  if owner = 0 then s1.each (List.range 8) fun k s => s.wr (R.CIPHER_SWKEY k) 0 else s1

/-- R237: whether a master may name a channel in LOCK_CMD. -/
def lockMaster (m : Master) (q : Nat) : Bool :=
  match m with
  | .app => q == 0 || q == 2
  | .link => q == 4
  | .host => q == 1
  | _ => false

end Sys2Proof.Machine
end

