-- ==== Sys2Proof/Machine/Jobs.lean ====
section
/-!
DEFINITION. Machine/Jobs.lean: the software jobs of the cipher channels: descriptors (R233, R234), the
areas a channel reaches (R232), what a job computes, and how it starts and ends (R235 to R241).
-/
namespace Sys2Proof.Machine

open Sys2Proof

/-! ### Areas -/

/-- R232: which master writes a channel's Q registers. -/
def chanMaster (m : Master) (q : Nat) : Bool :=
  match m with
  | .app => q == 0 || q == 2
  | .dma | .debug => q == 0
  | .link => q == 4
  | _ => false

/-- R232: whether a channel may use a buffer of an owner. -/
def chanOwner (q o : Nat) : Bool :=
  match q with
  | 0 | 2 => o == 5
  | 1 => o == 6
  | 3 => o == 7
  | _ => decide (1 ≤ o) && decide (o ≤ 4)

/-- Segments (address, length) cut to n octets in all; none where they hold fewer. -/
def cutSegs : Nat → List (Nat × Nat) → Option (List (Nat × Nat))
  | 0, _ => some []
  | _, [] => none
  | n, (a, k) :: t => if n ≤ k then some [(a, n)] else (cutSegs (n - k) t).map ((a, k) :: ·)

/-- Segments without their first n octets. -/
def dropSegs : Nat → List (Nat × Nat) → List (Nat × Nat)
  | _, [] => []
  | n, (a, k) :: t => if n < k then (a + n, k - n) :: t else dropSegs (n - k) t

/-- R232: the segments of n octets at an address, whoever owns them. A chain offers the LEN octets of each buffer to a reader and
all 128 to a writer. -/
def State.areaSegs (s : State) (q : Nat) (dst : Bool) (a n : Nat) : Option (List (Nat × Nat)) :=
  if n = 0 then some []
  else if regionOf a = .pbm then
    let b := (a - 0x20100000) / 128
    let o := (a - 0x20100000) % 128
    if !s.chainEnds 2048 b then none
    else
      let size (x : Nat) : Nat := if dst then 128 else dLen (s.desc x)
      match s.chain 2048 b with
      | [] => none
      | h :: t => cutSegs n ((bufAddr h + o, size h - o) :: t.map fun x => (bufAddr x, size x))
  else if (q = 0 ∨ q = 2) ∧ regionOf a = regionOf (a + n - 1) ∧
      (regionOf a = .sram ∨ (regionOf a = .flash ∧ dst = false)) then some [(a, n)]
  else none

/-- R232, R258: whether channel q owns what an address names: the whole chain, in packet buffer memory. -/
def State.areaOwned (s : State) (q a : Nat) : Bool :=
  regionOf a != .pbm || (s.chain 2048 ((a - 0x20100000) / 128)).all fun x => chanOwner q (s.owner x)

/-- R232: the segments of n octets at an address, as channel q reaches them; none where any of them lies
outside the channel's areas. -/
def State.jobSegs (s : State) (q : Nat) (dst : Bool) (a n : Nat) : Option (List (Nat × Nat)) :=
  if n = 0 ∨ s.areaOwned q a then s.areaSegs q dst a n else none

/-- The octets of segments, and octets written into segments. -/
def State.readSegs (s : State) (l : List (Nat × Nat)) : List Byte := l.flatMap fun p => s.rdBs p.1 p.2
def State.writeSegs (s : State) : List (Nat × Nat) → List Byte → State
  | [], _ => s
  | (a, n) :: t, data => (s.wrBs a (data.take n)).writeSegs t (data.drop n)

/-- Whether two lists of segments share an octet. -/
def segsMeet (x y : List (Nat × Nat)) : Bool :=
  x.any fun p => y.any fun r => decide (p.1 < r.1 + r.2) && decide (r.1 < p.1 + p.2)

/-! ### Descriptors -/

/-- R233: the fields of a descriptor, from its 96 octets. -/
def dscWord (d : List Byte) (off : Nat) : Nat := ofLe ((d.drop off).take 4)
def dscMode (d : List Byte) : Nat := bits (dscWord d 0) 3 0
def dscK256 (d : List Byte) : Bool := bit (dscWord d 0) 4
def dscKsrc (d : List Byte) : Nat := bits (dscWord d 0) 6 5
def dscDepth (d : List Byte) : Bool := bit (dscWord d 0) 7
def dscSlot (d : List Byte) : Nat := bits (dscWord d 0) 11 8
def dscTagLen (d : List Byte) : Nat := bits (dscWord d 0) 16 12
def dscNonceLen (d : List Byte) : Nat := bits (dscWord d 0) 20 17
def dscVerify (d : List Byte) : Bool := bit (dscWord d 0) 21
def dscLast (d : List Byte) : Bool := bit (dscWord d 0) 31
def dscAadLen (d : List Byte) : Nat := dscWord d 4
def dscDataLen (d : List Byte) : Nat := dscWord d 8
def dscNonce (d : List Byte) (n : Nat) : List Byte := (d.drop 0x20).take n
def dscLabel (d : List Byte) : List Byte := (d.drop 0x30).take 16
def dscDiv (d : List Byte) : List Byte := (d.drop 0x40).take 16

/-- R234: whether a mode authenticates, decrypts, writes data octets, and uses a tag. -/
def modeAead (m : Nat) : Bool := m == 4 || m == 5 || m == 6 || m == 7
def modeDec (m : Nat) : Bool := m == 5 || m == 7
def modeOut (m : Nat) : Bool := m != 2 && m != 3
def modeTag (m : Nat) : Bool := decide (2 ≤ m)

/-- R234: whether a descriptor's lengths keep to its mode's row. -/
def dscLens (d : List Byte) : Bool :=
  let n := dscDataLen d
  let t := dscTagLen d
  decide (n ≤ 16777216) && decide (dscKsrc d ≤ 1) &&
  match dscMode d with
  | 0 => n % 16 == 0 && decide (16 ≤ n)
  | 1 => decide (1 ≤ n) && decide (ofBe ((dscNonce d 16).drop 12) + (n + 15) / 16 ≤ 2 ^ 32)
  | 2 => decide (1 ≤ n) && decide (4 ≤ t) && decide (t ≤ 16)
  | 3 => decide (4 ≤ t) && decide (t ≤ 16)
  | 4 | 5 => decide (7 ≤ dscNonceLen d) && decide (dscNonceLen d ≤ 13) && [4, 6, 8, 10, 12, 14, 16].contains t &&
      decide (n < 2 ^ (8 * (15 - dscNonceLen d)))
  | 6 | 7 => [4, 8, 12, 13, 14, 15, 16].contains t
  | _ => false

/-- R239: whether a job decrypts within one buffer: SRC and DST chains of one buffer each. -/
def State.oneBuffer (s : State) (a : Nat) : Bool :=
  decide (regionOf a = .pbm) && dLast (s.desc ((a - 0x20100000) / 128))
def State.dscSingle (s : State) (d : List Byte) : Bool :=
  modeDec (dscMode d) && decide (dscDataLen d ≤ 128) && s.oneBuffer (dscWord d 0x10) && s.oneBuffer (dscWord d 0x14)

/-- R232, R233: the descriptor at an address: along its chain in packet buffer memory, else 96 consecutive octets. -/
def State.dscAt (s : State) (a : Nat) : List Byte :=
  if regionOf a = .pbm then
    fit 0 96 ((s.chainBytes (s.chain 2048 ((a - 0x20100000) / 128))).drop ((a - 0x20100000) % 128))
  else s.rdBs a 96

/-- The segments of a job's additional data, input, output and tag. -/
def State.dscSegs (s : State) (q : Nat) (d : List Byte) :
    Option (List (Nat × Nat)) × Option (List (Nat × Nat)) × Option (List (Nat × Nat)) × Option (List (Nat × Nat)) :=
  let m := dscMode d
  (s.jobSegs q false (dscWord d 0x0C) (if modeAead m then dscAadLen d else 0),
   s.jobSegs q false (dscWord d 0x10) (dscDataLen d),
   s.jobSegs q true (dscWord d 0x14) (if modeOut m then dscDataLen d else 0),
   s.jobSegs q (!(modeDec m || ((m == 2 || m == 3) && dscVerify d))) (dscWord d 0x18) (if modeTag m then dscTagLen d else 0))

/-- Whether the output area overlaps the descriptor, the additional data or the tag (R234). -/
def dscOverlap (own : List (Nat × Nat)) (sg : Option (List (Nat × Nat)) × Option (List (Nat × Nat)) × Option (List (Nat × Nat)) ×
    Option (List (Nat × Nat))) : Bool :=
  let out := sg.2.2.1.getD []
  segsMeet out own || segsMeet out (sg.1.getD []) || segsMeet out (sg.2.2.2.getD [])

/-- R29, R30: the crossings of channel q's data port to the regions of some segments: none refused, or the address where one is, its
domain or its clock being off. -/
def State.portOff (s : State) (l : List (Nat × Nat)) : Option Nat :=
  (l.find? fun x => !(s.domOn (regionDom (regionOf x.1)) && s.islOn (regionIsl (regionOf x.1)))).map Prod.fst

/-- R28, R31: a crossing of channel q's data port that waits: for a clock, or for a stalled write to let the crossing go. -/
def State.portWaits (s : State) (q : Fin 5) (l : List (Nat × Nat)) : Bool :=
  l.any fun x => s.clockWait (regionDom (regionOf x.1)) (regionIsl (regionOf x.1)) || s.crossHeld (.cipher q) (regionIsl (regionOf x.1))

/-- R30: refused crossings of channel q's data port, counted and logged. -/
def State.portLog (s : State) (q : Nat) (write : Bool) (l : List (Nat × Nat)) : State :=
  match s.portOff l with
  | some a => s.logStall (.cipher (Fin.ofNat 5 q)) a (regionIsl (regionOf a)) 2 write
  | none => s

/-- The status a job at address a is bound to at its start: 0 when it may run. -/
def State.jobCheck (s : State) (q a : Nat) : Nat :=
  if a % 16 != 0 then 3
  else if (s.jobSegs q false a 96).isNone then 4
  else if (s.portOff ((s.jobSegs q false a 96).getD [])).isSome then 11
  else
    let d := s.dscAt a
    let sg := s.dscSegs q d
    if !dscLens d || dscOverlap ((s.jobSegs q false a 96).getD []) sg then 3
    else if sg.1.isNone || sg.2.1.isNone || sg.2.2.1.isNone || sg.2.2.2.isNone then 4
    else if dscKsrc d = 0 ∧ (s.rd R.CIPHER_LOCK_OWNER ≠ q + 1 ∨ s.on R.CIPHER_LOCK_RELEASING) then 6
    else if dscKsrc d = 0 ∧ b2n (dscK256 d) ≠ s.rd R.CIPHER_SWKEY_CFG_KSIZE then 3
    else if s.dscSingle d && (s.freeBufs 1 false).isEmpty then 7
    else 0

/-- R232, R236: a job of channel q begins at the descriptor in Q_CUR_q. A derived key is asked for; a
software key is taken as it stands; a single-buffer decryption takes its quarantine buffer (R241). -/
def State.jobBegin (s : State) (q : Nat) : State :=
  let a := s.rd (R.CIPHER_Q_CUR q)
  let bad := s.jobCheck q a
  let d := s.dscAt a
  let s0 := s.wrs [(R.CIPHER_Q_PROG q, 0), (L.JOB_BAD q, bad), (L.JOB_ABORT q, 0), (L.JOB_QBUF q, 0),
    (R.CIPHER_Q_STAT_STATE q, 1), (R.CIPHER_STAT_CH_RUN, setBit (s.rd R.CIPHER_STAT_CH_RUN) q)] |>.setFf (L.JOB_IN q) []
  if bad ≠ 0 then (s0.when (bad == 11) fun s => s.portLog q false ((s.jobSegs q false a 96).getD [])).wr (L.JOB_ST q) 2
  else
    let s1 := s0.ifStart (q + 2) (dscMode d + 1) (if dscKsrc d = 1 then 1 else 2) 0 a (dscDataLen d)
    let s2 := s1.when (s1.dscSingle d) fun s =>
      match s.freeBufs 1 false with
      | b :: _ => ((s.zeroNow [b]).takeBufs ownQuar [b]).wr (L.JOB_QBUF q) (b + 1)
      | [] => s
    if dscKsrc d = 1 then s2.wr (L.JOB_ST q) 1
    else
      let key := (List.range 8).foldl (fun k i => k + s2.rd (R.CIPHER_SWKEY i) * 2 ^ (32 * i)) 0
      s2.wrs [(L.JOB_ST q, 2), (L.JOB_KEY q, key)]

/-- Whether channel q runs. -/
def State.chRun (s : State) (q : Nat) : Bool := bit (s.rd R.CIPHER_STAT_CH_RUN) q

/-- R237: whether a job of channel q under way uses SWKEY. -/
def State.jobUsesSw (s : State) (q : Nat) : Bool :=
  s.chRun q && s.rd (L.JOB_BAD q) == 0 && dscKsrc (s.dscAt (s.rd (R.CIPHER_Q_CUR q))) == 0

/-! ### What a job computes -/

/-- The output octets and the computed tag of a mode (R234). -/
def jobOut (mode : Nat) (key nonce : List Byte) (aad data : List Byte) (tagLen : Nat) : List Byte × List Byte :=
  match mode with
  | 0 => (ecbEnc key data, [])
  | 1 => (ctrMode key (ofBe nonce) data, [])
  | 2 => ([], (cbcMac key (zeros 16) (blocks16 (pad16 data))).take tagLen)
  | 3 => ([], (cmac key data).take tagLen)
  | 4 => (ccmCrypt key nonce data, ccmTag key nonce aad data tagLen)
  | 5 => let p := ccmCrypt key nonce data
         (p, ccmTag key nonce aad p tagLen)
  | 6 => let c := gcmCrypt key nonce data
         (c, gcmTag key nonce aad c tagLen)
  | _ => (gcmCrypt key nonce data, gcmTag key nonce aad data tagLen)

/-- The nonce octets a mode uses. -/
def dscIv (d : List Byte) : List Byte :=
  dscNonce d (match dscMode d with | 4 | 5 => dscNonceLen d | 6 | 7 => 12 | _ => 16)

/-- The key octets of channel q's job. -/
def State.jobKeyBytes (s : State) (q : Nat) (d : List Byte) : List Byte :=
  leBytes (if dscK256 d then 32 else 16) (s.rd (L.JOB_KEY q))

/-- A job's input as the engine has it: the octets it has taken, and the rest of the input area. -/
def State.jobInput (s : State) (q : Nat) (src : List (Nat × Nat)) : List Byte :=
  (s.ff (L.JOB_IN q)).map (BitVec.ofNat 8) ++ (s.readSegs src).drop (s.ff (L.JOB_IN q)).length

/-- The segments of a job's descriptor and of its four areas. -/
def State.jobAll (s : State) (q : Nat) : List (Nat × Nat) :=
  let a := s.rd (R.CIPHER_Q_CUR q)
  let sg := s.dscSegs q (s.dscAt a)
  [s.jobSegs q false a 96, sg.1, sg.2.1, sg.2.2.1, sg.2.2.2].flatMap fun x => x.getD []

/-- R30, R232, R258: the status that channel q's present accesses are answered with: 0 where all reach. -/
def State.jobGate (s : State) (q : Nat) : Nat :=
  let a := s.rd (R.CIPHER_Q_CUR q)
  let sg := s.dscSegs q (s.dscAt a)
  if (s.jobSegs q false a 96).isNone || sg.1.isNone || sg.2.1.isNone || sg.2.2.1.isNone || sg.2.2.2.isNone then 4
  else if (s.portOff (s.jobAll q)).isSome then 11 else 0

/-- How far a job has come when it stops: at the end, or at a 16-octet boundary that it has reached (R236). -/
def jobReached (n prog done : Nat) : Nat := if n ≤ done then n else min n (max prog (done / 16 * 16))

/-- R239, R240: the first k octets of a streaming decryption's output overwritten with zeros, but for those whose buffer or crossing
the channel no longer reaches and `unz` more, which keep the plaintext: the state, the status and PROGRESS. DESIGN CHOICE: they are the last of the k. -/
def State.jobZero (s : State) (q k unz status : Nat) (plain : List Byte) : State × Nat × Nat :=
  let d := s.dscAt (s.rd (R.CIPHER_Q_CUR q))
  let l := ((s.areaSegs q true (dscWord d 0x14) (dscDataLen d)).bind (cutSegs k)).getD []
  let off := l.filter fun x => !s.areaOwned q (dscWord d 0x14) || (s.portOff [x]).isSome
  let here := l.filter fun x => !off.contains x
  let room := here.foldl (fun t x => t + x.2) 0
  let u := min k (off.foldl (fun t x => t + x.2) 0 + unz + (k - l.foldl (fun t x => t + x.2) 0))
  let good := min room (k - u)
  let s1 := (s.writeSegs ((cutSegs good here).getD []) (zeros good)).writeSegs (dropSegs good here) ((plain.take k).drop good)
  let s2 := s1.portLog q true off
  if u ≠ 0 then (s2, 11, u) else (s2, status, if status = 11 then 0 else k)

/-- R235, R239, R240: a job's octets settled: the state after its output, the status it ends with and its
PROGRESS. `bad` is a status it is bound to (0 none), `done` how far it had come when that status, or the
failure, stopped it, and `unz` the octets that a zero fill could not reach. -/
def State.jobSettle (s : State) (q bad done unz : Nat) : State × Nat × Nat :=
  let d := s.dscAt (s.rd (R.CIPHER_Q_CUR q))
  let sg := s.dscSegs q d
  let out := sg.2.2.1.getD []
  let mode := dscMode d
  let n := dscDataLen d
  let prog := min (s.rd (R.CIPHER_Q_PROG q)) n
  let sngl := s.rd (L.JOB_QBUF q) != 0 || ((mode == 2 || mode == 3) && dscVerify d)
  let k := if s.jobGate q = 0 then jobReached n prog done else prog
  let started := s.rd (L.JOB_ST q) == 2 && s.rd (L.JOB_BAD q) == 0
  let r := jobOut mode (s.jobKeyBytes q d) (dscIv d) (s.readSegs (sg.1.getD [])) (s.jobInput q (sg.2.1.getD [])) (dscTagLen d)
  if bad ≠ 0 then
    if !started || sngl then (s, bad, 0)
    else if modeDec mode then s.jobZero q k unz bad r.1
    else (s.writeSegs (dropSegs prog ((cutSegs k out).getD [])) ((r.1.take k).drop prog), bad, k)
  else
    let put (s : State) : State := s.writeSegs (dropSegs prog out) (r.1.drop prog)
    let tagSeg := sg.2.2.2.getD []
    if modeDec mode || ((mode == 2 || mode == 3) && dscVerify d) then
      if r.2 = s.readSegs tagSeg then (put s, 1, n)
      else if sngl then (s, 2, 0)
      else s.jobZero q n unz 2 r.1
    else ((put s).writeSegs tagSeg r.2, 1, n)

/-- R236, R240: a block of channel q's job issues: its input taken and, where the job has an output area, its output written. -/
def State.laneUnit (s : State) (q : Nat) : State :=
  let a := s.rd (R.CIPHER_Q_CUR q)
  let d := s.dscAt a
  let n := dscDataLen d
  let k := s.rd (R.CIPHER_Q_PROG q)
  if !(bit (s.rd R.CIPHER_STAT_CH_RUN) q && s.rd (L.JOB_ST q) == 2 && s.rd (L.JOB_BAD q) == 0 && s.rd (L.JOB_QBUF q) == 0) ∨ n ≤ k ∨
      s.jobGate q ≠ 0 ∨ s.portWaits (Fin.ofNat 5 q) (s.jobAll q) then s
  else
    let sg := s.dscSegs q d
    let data := s.jobInput q (sg.2.1.getD [])
    let e := min n (k + 16)
    let r := jobOut (dscMode d) (s.jobKeyBytes q d) (dscIv d) [] (data.take e) (dscTagLen d)
    let s1 := s.writeSegs (dropSegs k ((cutSegs e (sg.2.2.1.getD [])).getD [])) ((r.1.take e).drop k)
    let s2 := (s1.setFf (L.JOB_IN q) ((data.take e).map BitVec.toNat)).wr (R.CIPHER_Q_PROG q) e
    (s2.when ((sg.2.1.getD [] ++ sg.2.2.1.getD []).any fun x => decide (regionOf x.1 = .pbm)) fun s => s.portBeats q 1).ifStep (q + 2) 2 e a n

/-- R252: channel q stops: its burst is over at LANE, and at PORT too where the requester has no other access stream there. -/
def State.chanStops (s : State) (q : Nat) : State := (s.burstDrop 0 q).when (q == 2 || q == 4) fun s => s.burstDrop 1 q

/-- R236, R241, R263, R298: a job's end: the quarantine buffer back to FREE, PROGRESS and STATUS written, the
event bit, the counts; the channel goes on at NEXT after OK and stops otherwise. -/
def State.jobFinish (s : State) (q status prog : Nat) : State :=
  let a := s.rd (R.CIPHER_Q_CUR q)
  let d := s.dscAt a
  let b := s.rd (L.JOB_QBUF q)
  let s1 := s.when (b != 0) fun s => s.handBufs [b - 1] ownQuar ownFree
  let s2 := s1.when (a % 16 == 0 && regionOf a != .flash) fun s =>
    match s.jobSegs q false a 96 with
    | some l =>
      if (s.portOff l).isSome then s.portLog q true l
      else s.writeSegs l (d.take 0x50 ++ leBytes 4 (status + 2 ^ 31) ++ leBytes 4 prog ++ d.drop 0x58)
    | none => s
  let s3 := ((s2.wrs [(R.CIPHER_Q_STAT_LAST q, status), (R.CIPHER_Q_PROG q, prog), (L.JOB_ST q, 0), (L.JOB_KEY q, 0),
    (L.JOB_BAD q, 0), (L.JOB_ABORT q, 0), (L.JOB_QBUF q, 0)] |>.setFf (L.JOB_IN q) []).sat (R.CIPHER_Q_STAT_JOBS q) 1).ifEnd (q + 2)
  let s4 := if status = 1 then s3.setBitF R.CIPHER_EVT_JOB_DONE q else s3.setBitF R.CIPHER_EVT_JOB_ERR q
  let s5 :=
    if status = 1 ∧ !dscLast d then (s4.wr (R.CIPHER_Q_CUR q) (dscWord d 0x1C)).jobBegin q
    else (s4.wrs [(R.CIPHER_Q_STAT_STATE q, 0), (R.CIPHER_STAT_CH_RUN, clrBit (s4.rd R.CIPHER_STAT_CH_RUN) q)]).chanStops q
  (s5.nfJobEnd q status).hostJobEnd q status

/-- R237: a pending release takes place once the holder's SWKEY jobs have ended. -/
def State.lockSettle (s : State) : State :=
  if s.on R.CIPHER_LOCK_RELEASING && !s.jobUsesSw (s.rd R.CIPHER_LOCK_OWNER - 1) then s.setLock 0 else s

/-- R220, R235, R236: a channel's running job ended with a status, `done` octets in. -/
def State.jobStop (s : State) (q status done unz : Nat) : State :=
  if s.chRun q then
    let r := s.jobSettle q status done unz
    r.1.jobFinish q r.2.1 r.2.2
  else s

/-- R236: the 16-octet boundary, a free one of those ahead, at which something from outside stops channel q's job. -/
def State.jobBoundary (s : State) (q : Nat) : Nat :=
  let n := dscDataLen (s.dscAt (s.rd (R.CIPHER_Q_CUR q)))
  let k := s.rd (R.CIPHER_Q_PROG q) / 16
  16 * (k + s.freeVal 25 % ((n + 15) / 16 - k + 1))

/-- A job ended from outside, at a block boundary that the spec leaves open. -/
def State.jobKill (s : State) (q status : Nat) : State :=
  if s.chRun q then (s.freeStep).jobStop q status (s.jobBoundary q) 0 else s

end Sys2Proof.Machine
end

