-- ==== Sys2Proof/Machine/FloorPlan.lean ====
section
/-!
DEFINITION. Machine/FloorPlan.lean: the Floor Plan: the image format (R50 to R53), the choice of a copy
(R54), clamping and its report (R57 to R59), and the values a load applies.
-/
namespace Sys2Proof.Machine

open Sys2Proof

namespace L

/-- R59: Floor Plan values that no register shows: ISLANDS.LF_SRC, VEHICLE.CAN_WAKE, CAN_WAKE_FILT,
LIN_WAKE and PORCH.FWI, as applied. -/
def FP_LF_SRC : Fld := latch 41 100 1 .f 0
def FP_CAN_WAKE (n : Nat) : Fld := latch 41 (101 + n) 2 .f 0
def FP_CAN_FILT (n : Nat) : Fld := latch 41 (103 + n) 4 .f 5
def FP_LIN_WAKE : Fld := latch 41 105 1 .f 0
def FP_FWI : Fld := latch 41 106 4 .f 8
/-- R332: word addresses whose stored code word cannot be decoded. -/
def FL_BAD : Fld := latch 20 0 32 .nv 0
/-- R55, R65: a reset load has not yet ended. -/
def FP_LOADING : Fld := latch 1 1 1 .c 1
/-- R210: the load in progress follows a PIN or SYS reset. -/
def FP_WARM : Fld := latch 41 107 1 .c 0
/-- R502: TEST_MODE as the last release found it. -/
def TEST_HOLD : Fld := latch 41 109 1 .nv 0

end L

/-! ### CRC-32C -/

/-- R51: CRC-32C of octets. -/
def crc32c (l : List Byte) : Nat := (l.foldl (crcByte 0x82F63B78) 0xFFFFFFFF) ^^^ 0xFFFFFFFF

/-! ### Images -/

/-- R49: the address of copy A (0) and of copy B (1). -/
def fpCopy (c : Nat) : Nat := 0x08010000 + c * 0x2000

/-- Whether a read of n octets of flash meets an uncorrectable word. -/
def State.flashBad (s : State) (a n : Nat) : Bool :=
  (s.ff L.FL_BAD).any fun w => decide (a < w + 16) && decide (w < a + n)

/-- R52: the sections from offset `off` of an image of `len` octets: type, SVER and value octets; none where
they do not end at its length. -/
def fpSections (img : List Byte) (len : Nat) : Nat → Nat → Option (List (Nat × Nat × List Byte))
  | 0, _ => none
  | n + 1, off =>
      if off = len then some []
      else if len < off + 8 then none
      else
        let h := img.drop off
        let vl := ofLe ((h.drop 2).take 2)
        if vl % 8 ≠ 0 ∨ len < off + 8 + vl then none
        else (fpSections img len n (off + 8 + vl)).map
          ((ofLe (h.take 1), ofLe ((h.drop 1).take 1), (h.drop 8).take vl) :: ·)

/-- R53: a copy's error code. -/
def State.fpErr (s : State) (c : Nat) : Nat :=
  let a := fpCopy c
  let len := s.rdLe (a + 0x0C) 4
  let img := s.rdBs a len
  if s.flashBad a 32 then 1
  else if s.rdLe a 4 ≠ 0x4E504C46 then 2
  else if s.rdLe (a + 4) 2 ≠ 1 ∨ s.rdLe (a + 6) 2 ≠ 32 then 3
  else if s.rdLe (a + 8) 4 = 0xFFFFFFFF then 4
  else if len < 32 ∨ 8192 < len ∨ len % 8 ≠ 0 then 5
  else if s.flashBad a len then 1
  else if crc32c (img.take 16 ++ zeros 4 ++ img.drop 20) ≠ s.rdLe (a + 0x10) 4 then 6
  else if (fpSections img len 1024 32).isNone then 7
  else 0

/-- R54: the copy to apply: 1 A, 2 B, 0 neither; `crcA` and `crcB` are the codes found. -/
def State.fpUsed (s : State) (eA eB : Nat) : Nat :=
  if eA = 0 ∧ (eB ≠ 0 ∨ s.rdLe (fpCopy 1 + 8) 4 ≤ s.rdLe (fpCopy 0 + 8) 4) then 1
  else if eB = 0 then 2
  else 0

/-- R52: the records of a value: FIELD_ID, INDEX, VALUE. -/
def fpRecords (v : List Byte) : List (Nat × Nat × Nat) :=
  (pieces 8 (v.length / 8) v).map fun r => (ofLe (r.take 2), ofLe ((r.drop 2).take 1), ofLe (r.drop 4))

/-! ### Fields -/

/-- R59: how many instances the fields of a type have, in field-number order; 0 for none. -/
def fpInst (typ : Nat) : List Nat :=
  match typ with
  | 1 => [0, 0] | 2 => [0] | 3 => [32, 32, 0] | 4 => [0, 0, 0, 0, 0, 0, 0] | 5 => [8] | 6 => [5, 5, 0]
  | 7 => [0, 0] | 8 => [8, 8, 8, 8, 8] | 9 => [0, 0, 0, 0, 0, 0, 0, 0] | 10 => [2, 2, 0, 0] | 11 => [0, 0]
  | 12 => [0, 0, 0, 0, 0, 0] | 13 => [0, 0, 0] | 14 => [0] | _ => []

/-- Whether a field number exists in a type, and whether an INDEX is one of its instances. -/
def fpKnown (typ num : Nat) : Bool := decide (1 ≤ num) && decide (num ≤ (fpInst typ).length)
def fpIndexOk (typ num idx : Nat) : Bool :=
  let n := (fpInst typ).getD (num - 1) 0
  if typ = 5 then decide (1 ≤ idx) && decide (idx ≤ 8)
  else if n = 0 then idx == 0
  else decide (idx < n)

/-- R57, R59: the place of (field number, INDEX) in its section's processing order. -/
def fpRank (typ num idx : Nat) : Nat :=
  match typ with
  | 5 => num * 1024 + (if idx = 8 then 0 else idx)
  | 8 => idx * 1024 + num
  | 9 => (if num = 1 then 2 else if num = 2 then 1 else num) * 1024 + idx
  | _ => num * 1024 + idx

/-- Every (field number, INDEX) of a type, in processing order. -/
def fpOrder (typ : Nat) : List (Nat × Nat) :=
  let all := (List.range (fpInst typ).length).flatMap fun k =>
    let n := (fpInst typ).getD k 0
    (List.range (max n 1)).map fun i => (k + 1, if typ = 5 then i + 1 else i)
  match typ with
  | 5 => (1, 8) :: all.filter fun p => p.2 != 8
  | 8 => (List.range 8).flatMap fun i => (List.range 5).map fun k => (k + 1, i)
  | 9 => [(2, 0), (1, 0)] ++ all.filter fun p => decide (3 ≤ p.1)
  | _ => all

/-- R59: the fields whose VALUE is signed. -/
def fpSigned (typ num : Nat) : Bool := (typ == 8 && num == 5) || (typ == 12 && [3, 4, 5].contains num)

/-- R59, R61: the Safe column. -/
def fpSafe (typ num idx : Nat) : Int :=
  match typ, num with
  | 1, 1 => 8 | 2, 1 => 0xFF | 4, 1 => 128 | 4, 2 => 128 | 4, 3 => 4 | 4, 4 => 64 | 4, 5 => 60 | 4, 6 => 112
  | 4, 7 => 16 | 5, _ => safeShare idx | 6, 1 => 64 | 6, 2 => 16 | 6, 3 => 0xACE1 | 7, _ => 0xFFFF
  | 8, 3 => 3600 | 9, 1 => 2 | 9, 5 => 1 | 9, 8 => 3300 | 10, 2 => 5 | 10, 3 => 1 | 11, 2 => 4 | 13, 1 => 1
  | 13, 3 => 8 | _, _ => 0

/-- R59: the range of a field that is numeric, and its list and UNLISTED rule for one that is listed. DESIGN CHOICE: an enumerated
field whose row gives no UNLISTED rule (MOVING_SRC, LOWBAT_SRC, CAN_WAKE, LIN_WAKE, CIR_FEM, STR_FEM, ALM_EN, HOST_WRITE_EN) counts as
numeric and is clamped to the nearer bound under RANGE. -/
def fpRange (typ num idx : Nat) : Int × Int :=
  match typ, num with
  | 3, 1 => (0, 15) | 4, 4 => (0, 64) | 4, _ => (0, 256) | 5, _ => if idx = 8 then (16, 128) else (0, 2048)
  | 6, 1 => (0, 255) | 6, 2 => (1, 64) | 6, 3 => (1, 0xFFFF) | 8, 3 => (1, 3600)
  | 8, 5 => (-40, 27) | 9, 1 => (0, 3) | 9, 4 => (0, 63) | 9, 5 => (0, 65535) | 9, 6 => (0, 1) | 9, 7 => (0, 11)
  | 10, 1 => (0, 2) | 10, 2 => (1, 10) | 10, 4 => (0, 1) | 11, 2 => (2, 16) | 12, 3 => (-20, 10)
  | 12, 4 => (-10, 14) | 12, 5 => (-10, 27) | 12, _ => (0, 1) | 13, 3 => (0, 14) | 13, _ => (0, 1)
  | _, _ => (0, 0xFFFFFFFF)

def fpListed (typ num : Nat) : Option (List Int) :=
  match typ, num with
  | 1, 1 => some [4, 6, 8, 12, 16, 24]
  | 1, 2 | 3, 3 | 9, 2 | 10, 3 | 11, 1 | 12, 6 | 14, 1 => some [0, 1]
  | 3, 2 => some [0, 1, 2]
  | _, _ => none

def fpUnlisted (typ num : Nat) (v : Int) : Int :=
  match typ, num with
  | 1, 1 => ([4, 6, 8, 12, 16, 24].find? fun d => decide (v ≤ d)).getD 24
  | 1, 2 => 1
  | 10, 3 => 1
  | _, _ => 0

/-- R59 DUTY: an allowed kHz (0, or in a sub-range), else the nearest edge of the two sub-ranges; the lower of two equally near. -/
def fpKhz (v : Int) : Int :=
  if v = 0 ∨ (863000 ≤ v ∧ v ≤ 928000) ∨ (2400000 ≤ v ∧ v ≤ 2483500) then v
  else [(863000 : Int), 928000, 2400000, 2483500].foldl
    (fun best e => if (e - v).natAbs < (best - v).natAbs then e else best) 863000

/-- Applied values by type, field number and INDEX, the latest first. -/
abbrev FpVals := List (Nat × Int)
def fpKey (typ num idx : Nat) : Nat := (typ * 256 + num) * 256 + idx
def fpGet (a : FpVals) (typ num idx : Nat) : Int := (Cells.get (fpKey typ num idx) a).getD 0
def fpPut (a : FpVals) (typ num idx : Nat) (v : Int) : FpVals := (fpKey typ num idx, v) :: a

/-- R59: whether PRESENT as applied includes a block by its bit. -/
def fpHas (a : FpVals) (b : Nat) : Bool := bit (fpGet a 2 1 0).toNat b

/-- R464, R59: the PRESENT bit a pin function needs. -/
def funcNeeds (v : Int) : Option Nat :=
  if v = 9 then some 7 else if v = 12 then some 4 else if v = 13 then some 5 else if v = 14 then some 6 else none

/-- R464: a function that one pin only may have. -/
def funcSingle (v : Int) : Bool := [2, 3, 4, 5, 6, 7, 8, 11, 12, 13, 14].contains v

/-- R57 ABSENT: whether the block a value refers to is left out. -/
def fpAbsent (a : FpVals) (typ num idx : Nat) (v : Int) : Bool :=
  match typ, num with
  | 3, 1 => match funcNeeds v with | some b => !fpHas a b | none => false
  | 4, 1 => !fpHas a 0
  | 4, 2 => !fpHas a 1
  | 5, _ => if idx = 1 ∨ idx = 3 then !fpHas a 0 else if idx = 2 ∨ idx = 4 then !fpHas a 1
            else idx == 7 && !fpHas a 2 && !fpHas a 3
  | 9, 6 => !fpHas a 7
  | 10, 1 => !fpHas a (4 + idx)
  | 10, 4 => !fpHas a 6
  | 12, 1 => !fpHas a 0
  | 12, 2 => !fpHas a 1
  | 13, 1 | 13, 2 => !fpHas a 3
  | _, _ => false

/-- R57 CONFLICT: the largest value the fields applied earlier allow. -/
def fpCap (a : FpVals) (typ num idx : Nat) : Option Int :=
  match typ, num with
  | 4, 2 => some (256 - fpGet a 4 1 0)
  | 4, 3 => some (fpGet a 4 1 0)
  | 4, 4 => some (fpGet a 4 1 0 - fpGet a 4 3 0)
  | 4, 5 => some (fpGet a 4 1 0 - fpGet a 4 3 0 - fpGet a 4 4 0)
  | 4, 6 => some (fpGet a 4 2 0)
  | 4, 7 => some (fpGet a 4 2 0 - fpGet a 4 6 0)
  | 5, _ => some (2048 - (List.range 9).foldl (fun t o => t + fpGet a 5 1 o) 0)
  | 8, 4 => some (fpGet a 8 3 idx * 1000000)
  | 12, 5 => if fpGet a 12 2 0 = 0 then some (fpGet a 12 4 0) else none
  | _, _ => none

/-- R59 DUTY.BAND_HI: whether a value breaks one of its four conditions. -/
def fpBandBad (a : FpVals) (idx : Nat) (hi : Int) : Bool :=
  let lo := fpGet a 8 1 idx
  if lo = 0 then hi != 0
  else
    decide (hi ≤ lo) || (decide (lo ≤ 928000) && decide (928000 < hi)) ||
      (List.range idx).any fun j =>
        fpGet a 8 1 j != 0 && decide (lo ≤ fpGet a 8 2 j) && decide (fpGet a 8 1 j ≤ hi)

/-- R57, R226: the slots whose OTP policy allows one of the users of a mask. -/
def State.otpAllow (s : State) (users : Nat) : Nat :=
  (List.range 16).foldl (fun t k => if s.rd (L.OTP_POLICY k) &&& users = 0 then t else setBit t k) 0

/-- R57, R59: a value clamped: the applied value, its reason (0 none), and whether BAND_LO falls with it. The first rule that matches
gives both, but a value clamped under RANGE may still be clamped under CONFLICT. -/
def State.fpClamp (s : State) (a : FpVals) (typ num idx : Nat) (v : Int) : Int × Nat × Bool :=
  let one : Int × Nat :=
    match typ, num with
    | 2, 1 => let w := v % 256; (w, if w = v then 0 else 1)
    | 9, 3 => let w : Int := if 2 ^ 31 ≤ v then 2 ^ 31 + (v % 2 ^ 29) else v % 2048
              (w, if w = v then 0 else 1)
    | 8, 1 | 8, 2 => let w := fpKhz v; (w, if w = v then 0 else 1)
    | 9, 8 => let r : Int × Int := if fpGet a 9 6 0 = 0 then (2800, 5500) else (0, 4095)
              let w := max r.1 (min r.2 v); (w, if w = v then 0 else 1)
    | _, _ =>
      match fpListed typ num with
      | some l => if l.contains v then (v, 0) else (fpUnlisted typ num v, 2)
      | none => let r := fpRange typ num idx
                let w := max r.1 (min r.2 v); (w, if w = v then 0 else 1)
  let two : Int × Nat :=
    match fpCap a typ num idx with
    | some c => if c < one.1 then (c, 3) else one
    | none => one
  let three : Int × Nat :=
    if typ = 3 ∧ num = 1 ∧ funcSingle two.1 ∧ (List.range idx).any (fun j => fpGet a 3 1 j == two.1) then (0, 3)
    else two
  let band := typ == 8 && num == 2 && fpBandBad a idx three.1
  let four : Int × Nat := if band then (0, 3) else three
  let five : Int × Nat := if four.2 = 0 ∧ fpAbsent a typ num idx four.1 ∧ four.1 ≠ 0 then (0, 4) else four
  let six : Int × Nat :=
    if typ = 9 ∧ num = 1 ∧ five.2 = 0 ∧ five.1 % 2 = 1 ∧ !fpHas a (4 + (fpGet a 9 2 0).toNat) then (five.1 - 1, 4)
    else if typ = 7 then
      let w : Int := (five.1.toNat &&& s.otpAllow (if num = 1 then 1 else 30) : Nat)
      (w, if w = five.1 then five.2 else 5)
    else five
  (six.1, six.2, band && fpGet a 8 1 idx != 0)

/-! ### A load -/

/-- A clamp report entry: FIELD_ID, INDEX, REASON, REQ, APPLIED. -/
abbrev FpEntry := Nat × Nat × Nat × Nat × Nat

/-- What a load has worked out so far: the applied values, the requested ones, the report and DEFAULT_CNT. -/
structure FpWork where
  vals  : FpVals
  reqs  : FpVals
  rep   : List FpEntry
  deflt : Nat

/-- One field instance of a section (DESIGN CHOICE: DEFAULT_CNT counts each field and INDEX without a record): its first record or its safe value checked and applied; at a reload a deferred
section keeps its present value (R63); later records are DUPLICATE. -/
def State.fpField (s : State) (typ : Nat) (recs : List (Nat × Nat × Nat)) (keep : Option (Nat → Nat → Int))
    (p : Nat × Nat) (w : FpWork) : FpWork :=
  let num := p.1
  let idx := p.2
  let fid := typ * 256 + num
  let mine := recs.filter fun r => r.1 == fid && r.2.1 == idx
  let dec (v : Nat) : Int := if fpSigned typ num then sx 32 v else v
  let w1 : FpWork :=
    match keep with
    | some f =>
      let cur := f num idx
      let rep := match mine with
        | r :: _ => if dec r.2.2 = cur then w.rep else w.rep ++ [(fid, idx, 7, r.2.2, ux 32 cur)]
        | [] => w.rep
      ⟨fpPut w.vals typ num idx cur, w.reqs, rep, w.deflt⟩
    | none =>
      let v := match mine with | r :: _ => dec r.2.2 | [] => fpSafe typ num idx
      let c := s.fpClamp w.vals typ num idx v
      let a1 := fpPut w.vals typ num idx c.1
      let q1 := fpPut w.reqs typ num idx v
      let rep1 := if c.2.1 = 0 then w.rep else w.rep ++ [(fid, idx, c.2.1, ux 32 v, ux 32 c.1)]
      let d := if mine.isEmpty then w.deflt + 1 else w.deflt
      if c.2.2 then ⟨fpPut a1 8 1 idx 0, q1, rep1 ++ [(0x0801, idx, 3, ux 32 (fpGet q1 8 1 idx), 0)], d⟩
      else ⟨a1, q1, rep1, d⟩
  ⟨w1.vals, w1.reqs,
   w1.rep ++ (mine.drop 1).map fun r => (fid, idx, 9, r.2.2, ux 32 (fpGet w1.vals typ num idx)), w1.deflt⟩

/-- The records of a section that name no field or no instance (R57 UNKNOWN, DUPLICATE, BAD_INDEX, in this order), with their rank;
`seen` holds the FIELD_ID and INDEX of the records before. -/
def fpStray (typ : Nat) (seen : List (Nat × Nat)) : List (Nat × Nat × Nat) → List (Nat × FpEntry)
  | [] => []
  | r :: t =>
    let num := r.1 % 256
    let e (reason : Nat) : Nat × FpEntry := (fpRank typ num r.2.1, (r.1, r.2.1, reason, r.2.2, 0))
    let rest := fpStray typ ((r.1, r.2.1) :: seen) t
    if r.1 / 256 ≠ typ ∨ !fpKnown typ num then e 8 :: rest
    else if fpIndexOk typ num r.2.1 then rest
    else e (if seen.contains (r.1, r.2.1) then 9 else 10) :: rest

/-- The stray entries whose rank lies from `lo` to below `hi`, in rank order. -/
def strayRun (l : List (Nat × FpEntry)) (lo hi : Nat) : List FpEntry :=
  ((l.filter fun e => decide (lo ≤ e.1) && decide (e.1 < hi)).mergeSort fun x y => decide (x.1 ≤ y.1)).map (·.2)

/-- The fields of a section in processing order, each followed by the stray records up to the next one. -/
def State.fpWalk (s : State) (typ : Nat) (recs : List (Nat × Nat × Nat)) (stray : List (Nat × FpEntry))
    (keep : Option (Nat → Nat → Int)) : List (Nat × Nat) → FpWork → FpWork
  | [], w => w
  | p :: t, w =>
      let w1 := s.fpField typ recs keep p w
      let hi := match t with | r :: _ => fpRank typ r.1 r.2 | [] => 2 ^ 64
      let w2 : FpWork := ⟨w1.vals, w1.reqs, w1.rep ++ strayRun stray (fpRank typ p.1 p.2) hi, w1.deflt⟩
      s.fpWalk typ recs stray keep t w2

/-- R59 FILL: the shares' shortfall goes to APP; five zero ticket counts leave APP with one. -/
def fpFill (typ : Nat) (w : FpWork) : FpWork :=
  if typ = 5 then
    let sum := (List.range 9).foldl (fun t o => t + fpGet w.vals 5 1 o) 0
    if sum < 2048 then
      let v := fpGet w.vals 5 1 5 + (2048 - sum)
      ⟨fpPut w.vals 5 1 5 v, w.reqs, w.rep ++ [(0x0501, 5, 6, ux 32 (fpGet w.reqs 5 1 5), ux 32 v)], w.deflt⟩
    else w
  else if typ = 6 then
    if (List.range 5).all fun i => fpGet w.vals 6 1 i == 0 then
      ⟨fpPut w.vals 6 1 0 1, w.reqs, w.rep ++ [(0x0601, 0, 6, ux 32 (fpGet w.reqs 6 1 0), 1)], w.deflt⟩
    else w
  else w

/-- R63: the sections a reload leaves alone. -/
def fpDeferred (typ : Nat) : Bool := [1, 2, 3, 4, 5, 14].contains typ

/-- R57: one type: its sections' records together; a section of an unknown type or SVER makes one entry. -/
def State.fpType (s : State) (secs : List (Nat × Nat × List Byte)) (keep : Option (Nat → Nat → Nat → Int))
    (w : FpWork) (typ : Nat) : FpWork :=
  let mine := secs.filter fun x => x.1 == typ
  let known := decide (1 ≤ typ) && decide (typ ≤ 14)
  let bad := mine.filter fun x => !known || x.2.1 != 1
  let recs := (mine.filter fun x => known && x.2.1 == 1).flatMap fun x => fpRecords x.2.2
  let w1 : FpWork := ⟨w.vals, w.reqs, w.rep ++ bad.map fun _ => (typ * 256, 0, 8, typ, 0), w.deflt⟩
  if !known then w1
  else
    let stray := fpStray typ [] recs
    let first := match fpOrder typ with | p :: _ => fpRank typ p.1 p.2 | [] => 0
    let w2 : FpWork := ⟨w1.vals, w1.reqs, w1.rep ++ strayRun stray 0 first, w1.deflt⟩
    let k := if fpDeferred typ then keep.map fun f => f typ else none
    let w3 := s.fpWalk typ recs stray k (fpOrder typ) w2
    if k.isSome then w3 else fpFill typ w3

/-- R57: all types in ascending order. -/
def State.fpBuild (s : State) (secs : List (Nat × Nat × List Byte)) (keep : Option (Nat → Nat → Nat → Int)) : FpWork :=
  (List.range 256).foldl (s.fpType secs keep) ⟨[], [], [], 0⟩

/-! ### Applying -/

/-- Where an applied value reads back; none for the packed pin fields. -/
def fpPlace (typ num idx : Nat) : Option Fld :=
  match typ, num with
  | 1, 1 => some R.HALL_APP_CLK_DIV | 1, 2 => some L.FP_LF_SRC | 2, 1 => some presentLatch
  | 3, 3 => some R.HOSTP_CFG_HP_MODE
  | 4, 1 => some R.CTX_PART_CIRRUS_N | 4, 2 => some R.CTX_PART_STRATUS_N | 4, 3 => some R.CTX_CAP_0_LE_ADV_MAX
  | 4, 4 => some R.CTX_CAP_0_LE_CONN_MAX | 4, 5 => some R.CTX_CAP_1_OQPSK_MAX | 4, 6 => some R.CTX_CAP_1_MESH_NBR_MAX
  | 4, 7 => some R.CTX_CAP_2_MESH_GRP_MAX
  | 5, 1 => some (R.PBM_SHARE idx)
  | 6, 1 => some (R.ARB_TKT_TICKETS idx) | 6, 2 => some (R.ARB_TKT_BURST idx) | 6, 3 => some R.ARB_SEED
  | 7, 1 => some R.KEYS_FP_SLOTS_LINK | 7, 2 => some R.KEYS_FP_SLOTS_SW
  | 8, 1 => some (R.MAC_DUTY_BAND_LO_KHZ idx) | 8, 2 => some (R.MAC_DUTY_BAND_HI_HI_KHZ idx)
  | 8, 3 => some (R.MAC_DUTY_WINDOW_S idx) | 8, 4 => some (R.MAC_DUTY_BUDGET idx)
  | 8, 5 => some (R.MAC_DUTY_BAND_HI_MAX_DBM idx)
  | 9, 1 => some R.ATTIC_UPD_CFG_MOVING_SRC | 9, 2 => some R.ATTIC_UPD_CFG_SPEED_CAN | 9, 3 => some R.ATTIC_SPEED_ID
  | 9, 4 => some R.ATTIC_UPD_CFG_SPEED_BYTE | 9, 5 => some R.ATTIC_LIMITS_SPEED_THRESH
  | 9, 6 => some R.ATTIC_UPD_CFG_LOWBAT_SRC | 9, 7 => some R.ATTIC_UPD_CFG_LOWBAT_CH
  | 9, 8 => some R.ATTIC_LIMITS_LOWBAT_LEVEL
  | 10, 1 => some (L.FP_CAN_WAKE idx) | 10, 2 => some (L.FP_CAN_FILT idx) | 10, 3 => some R.LIN_CFG_ROLE
  | 10, 4 => some L.FP_LIN_WAKE
  | 11, 1 => some R.FAULT_CFG_INJ_L1 | 11, 2 => some R.CIPHER_LANE_CFG_PERSIST
  | 12, 1 => some R.FEMCTL_CFG_CIR_FEM | 12, 2 => some R.FEMCTL_CFG_STR_FEM | 12, 3 => some R.FEMCTL_LIMITS_CIR_PA_MAX
  | 12, 4 => some R.FEMCTL_LIMITS_STR_PA_MAX | 12, 5 => some R.FEMCTL_LIMITS_STR_ANT_MAX | 12, 6 => some R.FEMCTL_CFG_COEX_EN
  | 13, 1 => some R.PORCH_CFG_ALM_EN | 13, 2 => some R.PORCH_CFG_HOST_WRITE_EN | 13, 3 => some L.FP_FWI
  | 14, 1 => some R.SYSCTL_PWR_CFG_AUTHORITY
  | _, _ => none

/-- The present applied value of a field. -/
def State.fpNow (s : State) (typ num idx : Nat) : Int :=
  match fpPlace typ num idx with
  | some f => if fpSigned typ num then s.rdS f else (s.rd f : Nat)
  | none =>
    if num = 1 then (bits (s.rd (R.GPIO_FUNC (idx / 8))) (4 * (idx % 8) + 3) (4 * (idx % 8)) : Nat)
    else (bits (s.rd (R.GPIO_PULL (idx / 16))) (2 * (idx % 16) + 1) (2 * (idx % 16)) : Nat)

/-- A store of the applied values by register key; both LFSRs take the seed (R247). -/
def fpStore (a : FpVals) : List (Nat × Nat) :=
  let put (f : Fld) (v : Nat) (l : List (Nat × Nat)) : List (Nat × Nat) := Cells.put f.key (v % 2 ^ f.wid) (some f.rst) l
  let plain := (List.range 15).foldl (fun l typ =>
    (fpOrder typ).foldl (fun l p =>
      match fpPlace typ p.1 p.2 with
      | some f => put f (ux 32 (fpGet a typ p.1 p.2)) l
      | none => l) l) []
  let funcs := (List.range 4).foldl (fun l k =>
    put (R.GPIO_FUNC k) ((List.range 8).foldl (fun t j => t + (fpGet a 3 1 (8 * k + j)).toNat * 16 ^ j) 0) l) plain
  let pulls := (List.range 2).foldl (fun l k =>
    put (R.GPIO_PULL k) ((List.range 16).foldl (fun t j => t + (fpGet a 3 2 (16 * k + j)).toNat * 4 ^ j) 0) l) funcs
  put R.ARB_LFSR_PORT (fpGet a 6 3 0).toNat (put R.ARB_LFSR_LANE (fpGet a 6 3 0).toNat pulls)

/-- Every class F field back to the applied values (R12, R253). -/
def State.dropPlanned (s : State) : State := { s with regs := Cells.keep (fun k => keyKeep k != 4) s.regs }

/-- R58: the clamp report published. -/
def State.fpReport (s : State) (rep : List FpEntry) (deflt : Nat) : State :=
  let s1 := s.wrs [(R.FLOOR_CLAMP_CNT, min rep.length 0xFFFF), (R.FLOOR_DEFAULT_CNT, min deflt 0xFFFF),
    (R.FLOOR_STATUS_REPORT_OVF, b2n (decide (64 < rep.length)))]
  s1.each (List.range 64) fun n s =>
    match rep[n]? with
    | some e => s.wrs [(R.FLOOR_REPORT_FIELD_ID n, e.1), (R.FLOOR_REPORT_INDEX n, e.2.1), (R.FLOOR_REPORT_REASON n, e.2.2.1),
        (R.FLOOR_REPORT_VALID n, 1), (R.FLOOR_REPORT_REQ n, e.2.2.2.1), (R.FLOOR_REPORT_APPLIED n, e.2.2.2.2)]
    | none => s.wrs [(R.FLOOR_REPORT_FIELD_ID n, 0), (R.FLOOR_REPORT_INDEX n, 0), (R.FLOOR_REPORT_REASON n, 0),
        (R.FLOOR_REPORT_VALID n, 0), (R.FLOOR_REPORT_REQ n, 0), (R.FLOOR_REPORT_APPLIED n, 0)]

/-- The sections of the copy in use; none under the safe plan. -/
def State.fpImage (s : State) (used : Nat) : List (Nat × Nat × List Byte) :=
  if used = 0 then []
  else
    let a := fpCopy (used - 1)
    let len := s.rdLe (a + 0x0C) 4
    (fpSections (s.rdBs a len) len 1024 32).getD []

/-- R53, R54: the identity of the copy in use and both error codes published. -/
def State.fpIdentity (s : State) (used eA eB : Nat) : State :=
  s.wrs [(R.FLOOR_STATUS_USED, used), (R.FLOOR_STATUS_A_ERR, eA), (R.FLOOR_STATUS_B_ERR, eB),
    (R.FLOOR_SEQ, if used = 0 then 0 else s.rdLe (fpCopy (used - 1) + 8) 4),
    (R.FLOOR_APPLIED_CRC, if used = 0 then 0 else s.rdLe (fpCopy (used - 1) + 0x10) 4)]

end Sys2Proof.Machine
end

