-- ==== Sys2Proof/Machine/FlashOps.lean ====
section
/-!
DEFINITION. Machine/FlashOps.lean: the flash array (R329 to R342) as shared operations: the key sequence,
the checks of a command, pulses, suspension, and what an abandoned operation leaves.
-/
namespace Sys2Proof.Machine

open Sys2Proof

namespace L

/-- R335: how far the command sequence has come: 0 nothing, 1 first key, 2 unlocked, 3 CMD written, 4 ADDR
written, 5 to 7 DATA_0 to DATA_2 written; its master and its command. -/
def FL_SEQ : Fld := latch 20 1 3 .w 0
def FL_SEQM : Fld := latch 20 2 3 .w 0
def FL_CMD : Fld := latch 20 3 3 .w 0
/-- R339: an erase in progress or suspended (its command code, 0 none), its address, pulses on the present
area or group, groups done, and the largest count of a group. -/
def FL_E_OP : Fld := latch 20 4 3 .w 0
def FL_E_ADDR : Fld := latch 20 5 32 .w 0
def FL_E_PULSES : Fld := latch 20 6 5 .w 0
def FL_E_GROUP : Fld := latch 20 7 3 .w 0
def FL_E_MAX : Fld := latch 20 8 5 .w 0
/-- R340: a SUSPEND waits for the pulse to be cut. -/
def FL_E_CUT : Fld := latch 20 9 1 .w 0
/-- R339: a program in progress: whether there is one, its address, data and pulses. -/
def FL_P_ON : Fld := latch 20 10 1 .w 0
def FL_P_ADDR : Fld := latch 20 11 32 .w 0
def FL_P_DATA : Fld := latch 20 12 128 .w 0
def FL_P_PULSES : Fld := latch 20 13 4 .w 0
/-- R341: a program has finished its pulse in a dip and pauses. -/
def FL_P_PAUSE : Fld := latch 20 14 1 .w 0
/-- R477 0x24: every verify of the present operation reads failed. -/
def FL_FAIL : Fld := latch 20 15 1 .w 0
/-- R347: the level a SET_RDP in progress writes, plus one; 0 none. -/
def FL_RDP : Fld := latch 20 16 2 .w 0
/-- R348: the steps of the lowering sequence that have completed since it last started. -/
def FL_LSTEP : Fld := latch 20 17 3 .w 0
/-- R367: the ATTIC engine erases and programs an APP IMAGE page, at the address of FL_ENGA. -/
def FL_ENG : Fld := latch 21 4 1 .w 0
def FL_ENGA : Fld := latch 21 5 32 .w 0
/-- R284, R359, R364: a write of the loader's calls or the engine under way in the array: 0 none, 1 attic_begin, 2 attic_stage,
3 attic_abandon, 4 attic_owner_lock, 5 APPEND_J, 6 APPEND_S; whether it will verify; its page or address; its octets. -/
def AC_ON : Fld := latch 21 15 3 .w 0
def AC_OK : Fld := latch 21 16 1 .w 0
def AC_ARG : Fld := latch 21 17 32 .w 0
def AC_BUF : Fld := latch 21 18 8 .w 0

end L

/-- The bank of a flash address, and the fields that show it busy. -/
def flBank (a : Nat) : Nat := if a < 0x08200000 then 0 else 1
def flBusy (b : Nat) : Fld := if b = 0 then R.FLASHC_STAT_BUSY0 else R.FLASHC_STAT_BUSY1
def flBase (b : Nat) : Nat := 0x08000000 + b * 0x200000

/-- R329, R335: the octets an erase covers: its first address and its length. -/
def flArea (op a : Nat) : Nat × Nat :=
  match op with
  | 2 => (a / 0x1000 * 0x1000, 0x1000)
  | 3 => (a / 0x10000 * 0x10000, 0x10000)
  | 4 => (flBase (flBank a), 0x200000)
  | _ => (a / 16 * 16, 16)

/-- R340: the region a suspended erase withholds. -/
def flRegion (op a : Nat) : Nat × Nat := if op = 4 then flArea 4 a else flArea 3 a

def inArea (r : Nat × Nat) (a : Nat) : Bool := decide (r.1 ≤ a) && decide (a < r.1 + r.2)

/-- R331, R334: words no longer uncorrectable once their area is written or erased. -/
def State.flMend (s : State) (r : Nat × Nat) : State := s.setFf L.FL_BAD ((s.ff L.FL_BAD).filter fun w => !inArea r w)

/-- An area erased: every octet reads 0xFF (R331). -/
def State.flErase (s : State) (r : Nat × Nat) : State := (s.dropMem r.1 (r.1 + r.2)).flMend r

/-- R339, R342: an area left undefined: every octet a free value, every word uncorrectable or not by a free
value. -/
def State.flUndef (s : State) (r : Nat × Nat) : State :=
  let n := s.free
  let s2 := (s.flMend r).wrRun r.1 ((List.range r.2).map fun i => Config.freeByte n (r.1 + i))
  let bad := ((List.range (r.2 / 16)).map fun i => r.1 + 16 * i).filter fun w => Config.freeValue (n * 2 ^ 32 + w) % 2 == 1
  (s2.setFf L.FL_BAD (s2.ff L.FL_BAD ++ bad)).freeStep

/-- R337 check 5: whether every raw cell of a word is erased. -/
def State.flErased (s : State) (a : Nat) : Bool :=
  (s.rdBs a 16).all (fun b => b == 0xFF#8) && !(s.ff L.FL_BAD).contains a

/-- Whether a program, an erase that is not suspended, or a level change runs. -/
def State.flRunning (s : State) : Bool :=
  s.on L.FL_P_ON || (s.on L.FL_E_OP && !s.on R.FLASHC_STAT_SUSPENDED) || s.on L.FL_RDP || s.on R.FLASHC_RDP_LOWERING ||
    s.on L.FL_ENG

/-- R335, R337: a command ends with a result. -/
def State.flResult (s : State) (r : Nat) : State :=
  (s.wr R.FLASHC_STAT_RESULT r).wr (if r = 1 then R.FLASHC_EVT_DONE else R.FLASHC_EVT_ERR) 1

/-- R335: the sequence is discarded. -/
def State.flDiscard (s : State) : State :=
  s.wrs [(L.FL_SEQ, 0), (R.FLASHC_STAT_KEY_OK, 0), (R.FLASHC_EVT_SEQ_ERR, 1), (R.FLASHC_STAT_RESULT, 3)]

def flMaster : Master → Nat
  | .app => 1 | .dma => 2 | .debug => 3 | .link => 4 | .host => 5 | .cipher _ => 6 | .nfc => 7

/-- R343: whether a command touches a write-protected block. -/
def State.flWrp (s : State) (r : Nat × Nat) : Bool :=
  (List.range 64).any fun k =>
    bit (s.rd (if k < 32 then R.FLASHC_WRP_0 else R.FLASHC_WRP_1)) (k % 32) &&
      decide (flBase (k / 32) + k % 32 * 0x10000 < r.1 + r.2) && decide (r.1 < flBase (k / 32) + (k % 32 + 1) * 0x10000)

/-- R336, R337, R340, R341: the result a PROGRAM or erase is refused with, 0 where it may start. `raw` tells
that one or two raw cells of the word are programmed although it reads as erased. -/
def State.flCheck (s : State) (m : Master) (op a : Nat) (raw : Bool) : Nat :=
  let r := flArea op a
  if m = .debug ∧ s.rd R.FLASHC_RDP_LEVEL ≠ 0 then 13
  else if s.flRunning || s.on R.SYSCTL_SUPPLY_STAT_WARN then 2
  else if regionOf a ≠ .flash ∨ (op = 1 ∧ a % 16 ≠ 0) then 4
  else if inArea (0x08018000, 0x8000) a && (op == 1 || op == 2) then 5
  else if s.flWrp r then 6
  else if s.on R.FLASHC_STAT_SUSPENDED &&
      !(op == 1 && !inArea (flRegion (s.rd L.FL_E_OP) (s.rd L.FL_E_ADDR)) a) then 7
  else if op = 1 ∧ (raw ∨ !s.flErased a) then 8
  else 0

/-- R477 0x24: an operation starts: whether its verifies are made to fail. -/
def State.flOccasion (s : State) : State :=
  let o := s.occasion 0x24
  o.2.wr L.FL_FAIL (b2n o.1)

/-- R339: a checked PROGRAM or erase starts, or ends with its refusal. -/
def State.flStart (s : State) (m : Master) (op a data : Nat) (raw : Bool) : State :=
  let bad := s.flCheck m op a raw
  if bad ≠ 0 then s.flResult bad
  else
    let s1 := (s.flOccasion.wr (flBusy (flBank a)) 1)
    if op = 1 then
      let s2 := s1.wrs [(L.FL_P_ON, 1), (L.FL_P_ADDR, a), (L.FL_P_DATA, data), (L.FL_P_PULSES, 0), (L.FL_P_PAUSE, 0)]
      let s3 := s2.when (!s2.on L.FL_E_OP) fun s => s.wr R.FLASHC_STAT_OP 1
      s3.ifStart 0 1 0 0 a 0
    else
      (s1.wrs [(L.FL_E_OP, op), (L.FL_E_ADDR, a), (L.FL_E_PULSES, 0), (L.FL_E_GROUP, 0), (L.FL_E_MAX, 0), (L.FL_E_CUT, 0),
        (R.FLASHC_STAT_OP, op)]).ifStart 0 op 0 0 a 0

/-- R339: the pulses of a program that has ended. -/
def State.flPgmEnd (s : State) (n : Nat) : State :=
  let s1 := s.wrs [(R.FLASHC_PGM_PULSES_LAST, n), (R.FLASHC_PGM_PULSES_MAX, max n (s.rd R.FLASHC_PGM_PULSES_MAX)),
    (L.FL_P_ON, 0), (L.FL_P_PAUSE, 0), (flBusy (flBank (s.rd L.FL_P_ADDR)), 0)]
  if s1.on L.FL_E_OP then s1.wr R.FLASHC_STAT_OP (s1.rd L.FL_E_OP)
  else (s1.wr R.FLASHC_STAT_OP 0).ifEnd 0

/-- R339: the pulses of an erase that has ended. -/
def State.flErsEnd (s : State) (n : Nat) : State :=
  (s.wrs [(R.FLASHC_ERS_PULSES_LAST, n), (R.FLASHC_ERS_PULSES_MAX, max n (s.rd R.FLASHC_ERS_PULSES_MAX)), (L.FL_E_OP, 0),
    (L.FL_E_CUT, 0), (R.FLASHC_STAT_OP, 0), (flBusy (flBank (s.rd L.FL_E_ADDR)), 0)]).ifEnd 0

/-- R339: a program pulse ends with its verify: the word stands, the next pulse starts, or it fails after 8. -/
def State.flPgmPulse (s : State) (ok : Bool) : State :=
  let a := s.rd L.FL_P_ADDR
  let n := s.rd L.FL_P_PULSES + 1
  if ok && !s.on L.FL_FAIL then
    (((s.wrBs a (leBytes 16 (s.rd L.FL_P_DATA))).flMend (a, 16)).flPgmEnd n).flResult 1
  else if n < 8 then
    let w := s.rd R.SYSCTL_SUPPLY_STAT_WARN
    ((s.wrs [(L.FL_P_PULSES, n), (L.FL_P_PAUSE, w)]).when (w != 0) fun s => s.setBitF R.FLASHC_STAT_SUSP_BY 1).ifStep 0 n 0 a (2 * w)
  else (((s.flUndef (a, 16)).flPgmEnd n).flResult 9).fire 0x24 a (s.on L.FL_FAIL)

/-- R339: an erase pulse ends with its verify: the area or group is erased, the next pulse starts, or the
erase fails after 16. -/
def State.flErsPulse (s : State) (ok : Bool) : State :=
  let op := s.rd L.FL_E_OP
  let a := s.rd L.FL_E_ADDR
  let n := s.rd L.FL_E_PULSES + 1
  let g := s.rd L.FL_E_GROUP
  let r : Nat × Nat := if op = 4 then (flBase (flBank a) + g * 0x80000, 0x80000) else flArea op a
  let mx := max n (s.rd L.FL_E_MAX)
  if ok && !s.on L.FL_FAIL then
    let s1 := s.flErase r
    if op = 4 ∧ g < 3 then
      (s1.wrs [(L.FL_E_GROUP, g + 1), (L.FL_E_PULSES, 0), (L.FL_E_MAX, mx)]).ifStep 0 0 (g + 1) a 0
    else (s1.flErsEnd mx).flResult 1
  else if n < 16 then (s.wr L.FL_E_PULSES n).ifStep 0 n g a 0
  else (((s.flUndef r).flErsEnd mx).flResult 10).fire 0x24 a (s.on L.FL_FAIL)

/-- R340: an erase in progress is cut: SUSPENDED reads 1 and its bank's BUSY 0; bit 0 of SUSP_BY for a command, bit 1
for a dip. -/
def State.flSuspend (s : State) (by_ : Nat) : State :=
  let s1 := (s.setBitF R.FLASHC_STAT_SUSP_BY by_).wrs [(R.FLASHC_STAT_SUSPENDED, 1), (L.FL_E_CUT, 0),
    (flBusy (flBank (s.rd L.FL_E_ADDR)), 0)]
  s1.ifStep 0 (s.rd L.FL_E_PULSES) (s.rd L.FL_E_GROUP) (s.rd L.FL_E_ADDR) (s1.rd R.FLASHC_STAT_SUSP_BY)

/-- R340, R341: a cause of suspension ends; with none left the erase resumes, its cut pulse in full. -/
def State.flUnsuspend (s : State) (by_ : Nat) : State :=
  let s1 := s.clrBitF R.FLASHC_STAT_SUSP_BY by_
  if s1.on L.FL_E_OP && s1.on R.FLASHC_STAT_SUSPENDED && !s1.on R.FLASHC_STAT_SUSP_BY then
    (s1.wrs [(R.FLASHC_STAT_SUSPENDED, 0), (flBusy (flBank (s.rd L.FL_E_ADDR)), 1)]).ifStep 0 (s.rd L.FL_E_PULSES)
      (s.rd L.FL_E_GROUP) (s.rd L.FL_E_ADDR) 0
  else s1

/-- R341: a supply dip starts: an erase is suspended; a program pauses at the end of its pulse (flPgmPulse). -/
def State.flDip (s : State) : State :=
  if s.on L.FL_E_OP then (s.when (s.on L.FL_E_CUT) fun s => (s.flResult 1).setBitF R.FLASHC_STAT_SUSP_BY 0).flSuspend 1 else s

/-- R341: the dip ends. -/
def State.flRecover (s : State) : State := (s.wr L.FL_P_PAUSE 0).flUnsuspend 1

/-- The areas that a write of the engine or of a call of the loader is erasing and programming. -/
def State.engAreas (s : State) : List (Nat × Nat) :=
  match s.rd L.AC_ON with
  | 1 => [(0x08200000, 0x1000), (0x083FC000, 0x4000)]
  | 3 => [(0x083FC000, 0x4000)]
  | 4 => [(0x083F1000, 0x2000)]
  | 5 | 6 => [(s.rd L.AC_ARG, 16)]
  | _ => [(s.rd L.FL_ENGA, 0x1000)]

/-- R342: what the engine or a call was writing is left undefined. -/
def State.engAbandon (s : State) : State :=
  if s.on L.FL_ENG then (s.each s.engAreas fun r s => s.flUndef r).wrs [(L.FL_ENG, 0), (L.AC_ON, 0), (R.FLASHC_STAT_BUSY0, 0), (R.FLASHC_STAT_BUSY1, 0)]
  else s

/-- R342: a reset of PD_FLASH or a loss of its power abandons what the array was doing. A level 2 change whose OTP bits
may be partly programmed loads as either level (R347). -/
def State.flAbandon (s : State) : State :=
  let s0 := s.when (s.rd L.FL_RDP == 3) fun s => (s.wr R.FLASHC_RDP_LEVEL (if s.freeVal 1 = 1 then 2 else s.rd R.FLASHC_RDP_LEVEL)).freeStep
  let s1 := s0.when (s0.on L.FL_P_ON) fun s => s.flUndef (s.rd L.FL_P_ADDR, 16)
  let s2 := s1.when (s1.on L.FL_E_OP) fun s => s.flUndef (flArea (s.rd L.FL_E_OP) (s.rd L.FL_E_ADDR))
  s2.engAbandon

/-- R333, R334, R350: what a read of a word with `bits` wrong bits records: `m` is the reader's code in
ECC_LOG.MASTER. -/
def State.flEcc (s : State) (m w bits : Nat) (inj : Bool) : State :=
  let log (s : State) (u : Nat) : State :=
    if s.on R.FLASHC_ECC_LOG_VALID then s
    else s.wrs [(R.FLASHC_ECC_LOG_ADDR, w), (R.FLASHC_ECC_LOG_ERRCNT, if u = 1 then 0 else bits),
      (R.FLASHC_ECC_LOG_UNCORR, u), (R.FLASHC_ECC_LOG_MASTER, m), (R.FLASHC_ECC_LOG_VALID, 1)]
  if bits = 0 then s
  else if 2 < bits then (log (s.wr R.FLASHC_EVT_UNCORR 1) 1).fire 0x22 w inj
  else
    let s1 := s.sat (if bits = 1 then R.FLASHC_CORR_CNT_ONE else R.FLASHC_CORR_CNT_TWO) 1
    let s2 := s1.when (decide (s1.rd R.FLASHC_ERR_THRESH ≤ bits)) fun s => log (s.wr R.FLASHC_EVT_WEAR 1) 0
    if bits = 2 then s2.fire 0x23 w inj else s2

/-! ### The command sequence (R335) -/

/-- R335: a write of KEY. Writes of DMA are ignored (R336). -/
def State.flKey (s : State) (m : Master) (v : Nat) : State :=
  if m = .dma then s
  else if s.rd L.FL_SEQ = 0 ∧ v = 0x5A17 then s.wrs [(L.FL_SEQ, 1), (L.FL_SEQM, flMaster m)]
  else if s.rd L.FL_SEQ = 1 ∧ s.rd L.FL_SEQM = flMaster m ∧ v = 0xC3E8 then s.wrs [(L.FL_SEQ, 2), (R.FLASHC_STAT_KEY_OK, 1)]
  else s.flDiscard

/-- R340, R341: SUSPEND and RESUME. -/
def State.flSuspendCmd (s : State) : State :=
  if s.on R.SYSCTL_SUPPLY_STAT_WARN || s.on L.FL_E_CUT then s.flResult 2
  else if s.on L.FL_P_ON || !s.on L.FL_E_OP || s.on R.FLASHC_STAT_SUSPENDED then s.flResult 11
  else s.wr L.FL_E_CUT 1

def State.flResumeCmd (s : State) : State :=
  if s.on R.SYSCTL_SUPPLY_STAT_WARN || s.on L.FL_P_ON then s.flResult 2
  else if s.on L.FL_E_OP && s.on R.FLASHC_STAT_SUSPENDED then (s.flUnsuspend 0).flResult 1
  else s.flResult 11

/-- R347: a SET_RDP with its ADDR value: refused, nothing to do, or started; a lowering starts with its first step. -/
def State.flSetRdp (s : State) (m : Master) (v : Nat) : State :=
  let lv := s.rd R.FLASHC_RDP_LEVEL
  let lvl := v % 16
  if m = .debug ∧ lv = 2 then s.flResult 13
  else if s.flRunning || s.on R.SYSCTL_SUPPLY_STAT_WARN then s.flResult 2
  else if v / 16 ≠ 0x52D0000 ∨ 2 < lvl then s.flResult 4
  else if s.on R.FLASHC_STAT_SUSPENDED then s.flResult 7
  else if lv = 2 then s.flResult 12
  else if lvl = lv then s.flResult 1
  else
    let s1 := (s.wrs [(R.FLASHC_STAT_OP, 7), (R.FLASHC_STAT_BUSY0, 1), (R.FLASHC_STAT_BUSY1, 1)]).ifStart 0 7 0 0 v 0
    if lvl = 0 then s1.wrs [(R.FLASHC_RDP_LOWERING, 1), (L.FL_LSTEP, 1)] else s1.wr L.FL_RDP (lvl + 1)

/-- R335: a write of CMD.OP. -/
def State.flCmd (s : State) (m : Master) (op : Nat) : State :=
  if m = .dma then s
  else if s.rd L.FL_SEQ ≠ 2 ∨ s.rd L.FL_SEQM ≠ flMaster m ∨ op = 0 then s.flDiscard
  else if op = 5 ∨ op = 6 then
    let s1 := s.wrs [(L.FL_SEQ, 0), (R.FLASHC_STAT_KEY_OK, 0)]
    if m = .debug ∧ s.rd R.FLASHC_RDP_LEVEL ≠ 0 then s1.flResult 13
    else if op = 5 then s1.flSuspendCmd else s1.flResumeCmd
  else s.wrs [(L.FL_SEQ, 3), (L.FL_CMD, op)]

/-- R335: a write of ADDR, which starts an erase or SET_RDP. -/
def State.flAddr (s : State) (m : Master) (v : Nat) : State :=
  if m = .dma then s
  else
    let s0 := s.wr R.FLASHC_ADDR v
    if s.rd L.FL_SEQ ≠ 3 ∨ s.rd L.FL_SEQM ≠ flMaster m then s0.flDiscard
    else
      let s1 := s0.wrs [(L.FL_SEQ, 0), (R.FLASHC_STAT_KEY_OK, 0)]
      match s.rd L.FL_CMD with
      | 1 => s0.wr L.FL_SEQ 4
      | 7 => s1.flSetRdp m v
      | op => s1.flStart m op v 0 false

/-- R335: a write of DATA_i; that of DATA_3 starts the program. -/
def State.flData (s : State) (m : Master) (i v : Nat) (raw : Bool) : State :=
  if m = .dma then s
  else
    let f := [R.FLASHC_DATA_0, R.FLASHC_DATA_1, R.FLASHC_DATA_2, R.FLASHC_DATA_3].getD i R.FLASHC_DATA_3
    let s0 := s.wr f v
    if s.rd L.FL_SEQ ≠ 4 + i ∨ s.rd L.FL_SEQM ≠ flMaster m then s0.flDiscard
    else if i < 3 then s0.wr L.FL_SEQ (5 + i)
    else
      let d := s0.rd R.FLASHC_DATA_0 + 2 ^ 32 * s0.rd R.FLASHC_DATA_1 + 2 ^ 64 * s0.rd R.FLASHC_DATA_2 + 2 ^ 96 * s0.rd R.FLASHC_DATA_3
      (s0.wrs [(L.FL_SEQ, 0), (R.FLASHC_STAT_KEY_OK, 0)]).flStart m 1 (s0.rd R.FLASHC_ADDR) d raw

/-- R335: a write of another FLASHC register in the middle of a sequence discards it. -/
def State.flOther (s : State) : State := if s.on L.FL_SEQ then s.flDiscard else s

/-- R338, R340, R341: the status word that a read of a bank returns in place of data, if any. -/
def State.flStatus (s : State) (a : Nat) : Option Nat :=
  let page (t : Nat) : Nat := (t - flBase (flBank t)) / 0x1000
  let word (code t : Nat) : Nat := 0xF1A50000 + code * 0x1000 + page t
  let e := s.rd L.FL_E_OP
  let ea := s.rd L.FL_E_ADDR
  let held := s.on R.FLASHC_STAT_SUSPENDED && (inArea (flRegion e ea) a || (bit (s.rd R.FLASHC_STAT_SUSP_BY) 1 && flBank ea == flBank a))
  if e ≠ 0 ∧ held then some (if e = 4 then 0xF1A55000 else word 5 ea)
  else if s.on (flBusy (flBank a)) then
    if s.on L.FL_RDP || s.on R.FLASHC_RDP_LOWERING then some 0xF1A56000
    else if s.on L.FL_ENG then some (word (1 + s.freeVal 1) (s.rd L.FL_ENGA))
    else if s.on L.FL_P_ON ∧ flBank (s.rd L.FL_P_ADDR) = flBank a then some (word 1 (s.rd L.FL_P_ADDR))
    else some (if e = 4 then 0xF1A54000 else word e ea)
  else none

/-- R477 0x22, 0x23: the wrong bits a read of a word meets: those given, or an injection's. -/
def State.flBits (s : State) (w bits : Nat) : Nat × Bool × State :=
  if (s.injHits 0x22 || s.injHits 0x23) && s.rd L.INJ_A / 16 * 16 == w then
    (if s.rd L.INJ_I = 0x22 then 3 else 2, true, s.injActed)
  else (if (s.ff L.FL_BAD).contains w then 3 else bits, false, s)

end Sys2Proof.Machine
end

