-- ==== Sys2Proof/Machine/AtticBoot.lean ====
section
/-!
DEFINITION. Machine/AtticBoot.lean: the Attic's refusal reasons (R360), its logs and headers (R354 to R364), the
order of installation (R363), and what the resident loader does at every boot (R362, R371, R377).
-/
namespace Sys2Proof.Machine

open Sys2Proof

namespace L

/-- R360: a speed above the threshold came in the last 60 s; a MOTION edge in the last 30 s; consecutive samples below
the level, and above it, of LOW_BATTERY; no order exists under R363 for the package. -/
def AT_SPD : Fld := latch 41 60 1 .live 0
def AT_MOT : Fld := latch 41 61 1 .live 0
def AT_LOW : Fld := latch 21 10 2 .w 0
def AT_HIGH : Fld := latch 21 11 2 .w 0
def AT_BAD : Fld := latch 41 62 1 .c 0
/-- R361: an engine command waits for every reason to clear. -/
def AT_HELD : Fld := latch 21 12 1 .w 0
/-- R365, R371: where the loader stands in an install (Machine/AtticFlow.lean), the index of the present component, the
order of the codes, BEGIN's SEQ, a resumed install, the page a resumed COPY starts from, and retries counted. -/
def AT_PC : Fld := latch 44 10 5 .w 0
def AT_I : Fld := latch 44 11 3 .w 0
def AT_ORD : Fld := latch 44 12 3 .w 0
def AT_SEQ : Fld := latch 44 13 32 .w 0
def AT_COLD : Fld := latch 44 14 1 .w 0
def AT_FROM : Fld := latch 44 15 9 .w 0
def AT_TRY : Fld := latch 44 16 7 .w 0
/-- R365: the handoff block passed R372 at the call; the code of the step to go on with once a write ends. -/
def AT_NEXT : Fld := latch 44 17 5 .w 0
/-- R358, R367 to R370: the loader's flash write in progress: its kind plus one (1 pages erased and programmed, 2 pages
erased, 3 a block erased and then programmed), where it starts, how many octets it covers, how far it has come, whether
a FLASHC command of it runs, how often the present page has failed, and its octets. -/
def AW_ON : Fld := latch 44 20 2 .w 0
def AW_DST : Fld := latch 44 21 32 .w 0
def AW_LEN : Fld := latch 44 22 18 .w 0
def AW_I : Fld := latch 44 23 14 .w 0
def AW_WAIT : Fld := latch 44 24 1 .w 0
def AW_FAILS : Fld := latch 44 25 4 .w 0
def AW_BUF : Fld := latch 44 26 8 .w 0

end L

/-! ### Refusal (R360, R361) -/

/-- R360: the reasons in force, bit v − 1 for reason v. -/
def State.atReasons (s : State) : Nat :=
  s.rd R.ATTIC_STAT_OWNER_LOCK + 2 * s.rd L.AT_BAD + 4 * s.rd R.ATTIC_STAT_MOVING + 8 * s.rd R.ATTIC_STAT_LOWBAT

/-- R360: MOVING as its sources say. -/
def State.atMoving (s : State) : State :=
  let src := s.rd R.ATTIC_UPD_CFG_MOVING_SRC
  let m := (bit src 0 && s.on L.AT_SPD) || (bit src 1 && s.on L.AT_MOT)
  s.wr R.ATTIC_STAT_MOVING (b2n m)

/-- R360: a speed value. -/
def State.atSpeed (s : State) (v : Nat) : State :=
  ((s.wrs [(R.ATTIC_SPEED_LAST, v), (R.ATTIC_SPEED_AGE, 0)]).when (decide (s.rd R.ATTIC_LIMITS_SPEED_THRESH < v)) fun s => s.wr L.AT_SPD 1).atMoving

/-- R360: a write step refused. -/
def State.atRefuse (s : State) : State :=
  let r := match firstBelow (fun i => bit s.atReasons i) 4 with | some i => i + 1 | none => 0
  ((s.wrs [(R.ATTIC_REFUSE_REASON_REASON, r), (R.ATTIC_EVT_REFUSED, 1)]).sat R.ATTIC_REFUSE_CNT 1)

/-- R361: an install pauses for a refusal. -/
def State.atPause (s : State) : State :=
  s.atRefuse.when (s.rd R.ATTIC_STAT_PHASE == 2) fun s => s.wrs [(R.ATTIC_STAT_PHASE, 3), (R.ATTIC_EVT_PAUSED, 1)]

/-- R361: an engine command about to start its next page finds a reason in force: it waits. -/
def State.atHold (s : State) : State := if s.on L.AT_HELD then s else (s.atPause).wr L.AT_HELD 1

/-! ### Records (R364) -/

/-- A record: TYPE, COMP, PAGE, SEQ, ARG. -/
structure AtRec where
  typ  : Nat
  comp : Nat
  page : Nat
  seq  : Nat
  arg  : Nat

def atJournal (half : Nat) : Nat := 0x08014000 + half * 0x2000
def atStageLog : Nat := 0x083FC000
def atLockLog (page : Nat) : Nat := 0x083F1000 + page * 0x1000
def atHeaderSet (page : Nat) : Nat := 0x083F3000 + page * 0x1000
def atStaging (page : Nat) : Nat := 0x08200000 + page * 0x1000

/-- The record in a flash word, none for a torn one. -/
def State.atRec (s : State) (a : Nat) : Option AtRec :=
  let w := s.rdBs a 16
  if s.flashBad a 16 ∨ crc32c (w.take 12) ≠ ofLe (w.drop 12) then none
  else some ⟨ofLe (w.take 1), ofLe ((w.drop 1).take 1), ofLe ((w.drop 2).take 2), ofLe ((w.drop 4).take 4), ofLe ((w.drop 8).take 4)⟩

/-- How many of the n words of a log come before its first erased word. -/
def State.atEnd (s : State) (a n : Nat) : Nat := (firstBelow (fun i => s.flErased (a + 16 * i)) n).getD n

/-- The records of a log of n words, oldest first. -/
def State.atLog (s : State) (a n : Nat) : List AtRec :=
  (List.range (s.atEnd a n)).filterMap fun i => s.atRec (a + 16 * i)

/-- The words of a record: octets 0 to 11 and their CRC. -/
def atWord (l : List Byte) : List Byte := l ++ leBytes 4 (crc32c l)
def atRecBytes (typ comp page seq arg : Nat) : List Byte :=
  leBytes 1 typ ++ leBytes 1 comp ++ leBytes 2 page ++ leBytes 4 seq ++ leBytes 4 arg

/-! ### Headers (R355, R356, R358) -/

/-- n octets of a header at an offset, as a number. -/
def hdrAt (h : List Byte) (off n : Nat) : Nat := ofLe ((h.drop off).take n)
def compCode (h : List Byte) : Nat := hdrAt h 0 1
def compVer (h : List Byte) : Nat := hdrAt h 4 4
def compLen (h : List Byte) : Nat := hdrAt h 8 4
def compCrc (h : List Byte) : Nat := hdrAt h 0x0C 4
def compPage (h : List Byte) : Nat := hdrAt h 0x10 4
def compPages (h : List Byte) : Nat := (compLen h + 4095) / 4096

/-- R355: the largest length of a component. -/
def compMax (code : Nat) : Nat := [8192, 4096, 65536, 16384, 1961984].getD code 0

/-- R358: whether a HEADER SET page is valid, and its SEQ. -/
def State.hdrSetOk (s : State) (page : Nat) : Bool :=
  let a := atHeaderSet page
  !s.flashBad a 328 && crc32c (s.rdBs a 324) == s.rdLe (a + 324) 4
def State.hdrSetSeq (s : State) (page : Nat) : Nat := s.rdLe (atHeaderSet page) 4

/-- R358: the HEADER SET page in force, if any. -/
def State.hdrSetPage (s : State) : Option Nat :=
  if s.hdrSetOk 0 && (!s.hdrSetOk 1 || decide (s.hdrSetSeq 1 ≤ s.hdrSetSeq 0)) then some 0
  else if s.hdrSetOk 1 then some 1 else none

/-- R351, R358: the installed headers by code; an empty one where none is installed. -/
def State.atInstalled (s : State) : List (List Byte) :=
  match s.hdrSetPage with
  | none => [[], [], [], [], []]
  | some p => (List.range 5).map fun c =>
      let h := s.rdBs (atHeaderSet p + 4 + 64 * c) 64
      if h.all (fun b => b == 0xFF#8) then [] else h

/-- R354: the number of components a package header names, and their headers in its order. -/
def pkgN (h : List Byte) : Nat := hdrAt h 6 1
def pkgId (h : List Byte) : Nat := hdrAt h 8 4
def pkgComps (h : List Byte) : List (List Byte) := (List.range (pkgN h)).map fun i => (h.drop (0x40 + 64 * i)).take 64
def pkgLen (n : Nat) : Nat := 0x50 + 64 * n
def pkgComp (h : List Byte) (code : Nat) : List Byte := ((pkgComps h).find? fun c => compCode c == code).getD []

/-- R354 to R356: whether a package header is well formed. -/
def pkgOk (h : List Byte) : Bool :=
  let cs := pkgComps h
  hdrAt h 0 4 == 0x4B505441 && hdrAt h 4 2 == 1 && decide (1 ≤ pkgN h) && decide (pkgN h ≤ 5) &&
    cs.all (fun c => decide (compCode c ≤ 4) && hdrAt c 1 1 == 1 && decide (1 ≤ compLen c) && decide (compLen c ≤ compMax (compCode c)) &&
      decide (1 ≤ compPage c) && decide (compPage c + compPages c ≤ 480)) &&
    (List.range (cs.length - 1)).all (fun i => decide (compCode (cs.getD i []) < compCode (cs.getD (i + 1) []))) &&
    (List.range cs.length).all fun i => (List.range i).all fun j =>
      let x := cs.getD i []
      let y := cs.getD j []
      decide (compPage x + compPages x ≤ compPage y) || decide (compPage y + compPages y ≤ compPage x)

/-- The logged package: its header as STAGING page 0 holds it, when the STAGE LOG names it (R356, R364). -/
def State.atStageRecs (s : State) : List AtRec := s.atLog atStageLog 1024
def State.atPkg (s : State) : Option (List Byte) :=
  match s.atStageRecs.find? fun r => r.typ == 1 with
  | some r =>
    let h := s.rdBs (atStaging 0) (pkgLen (s.rdLe (atStaging 0 + 6) 1 % 8))
    if pkgOk h && pkgId h == r.arg then some h else none
  | none => none

/-! ### Order (R363) -/

/-- R363: whether a set of headers by code is compatible. -/
def atCompatible (hs : List (List Byte)) : Bool :=
  (List.range 5).all fun a =>
    let h := hs.getD a []
    h.isEmpty || (List.range 5).all fun b =>
      let v := let g := hs.getD b []; if g.isEmpty then 0 else compVer g
      a == b || (decide (hdrAt h (0x14 + 8 * b) 4 ≤ v) && decide (v ≤ hdrAt h (0x18 + 8 * b) 4))

/-- The orders of a list, in the order of its elements' places. -/
def permsOf : Nat → List Nat → List (List Nat)
  | 0, _ => [[]]
  | n + 1, l => if l.isEmpty then [[]] else l.flatMap fun x => (permsOf n (l.filter fun y => y != x)).map (x :: ·)

/-- R363: whether an order passes through compatible sets only. -/
def atPasses (pkg : List Byte) : List (List Byte) → List Nat → Bool
  | _, [] => true
  | hs, c :: t => let hs1 := hs.set c (pkgComp pkg c); atCompatible hs1 && atPasses pkg hs1 t

def State.atOrder (s : State) (pkg : List Byte) : Option (List Nat) :=
  (permsOf 5 ((pkgComps pkg).map compCode)).find? fun p => atPasses pkg s.atInstalled p

/-! ### Boot -/

/-- R362: the latest valid record of the LOCK LOG, its OP in `typ` and its COUNTER in `arg`. -/
def State.lockLatest (s : State) : Option AtRec :=
  (s.atLog (atLockLog 0) 256 ++ s.atLog (atLockLog 1) 256).foldl
    (fun b r => match b with | some x => if x.arg < r.arg then some r else b | none => some r) none

/-- R364, R371: the BEGIN record of a journal half, and the half with the newest one. -/
def State.atBegin (s : State) (half : Nat) : Option AtRec := (s.atLog (atJournal half) 512).find? fun r => r.typ == 0x11
def State.atHalf (s : State) : Option Nat :=
  match s.atBegin 0, s.atBegin 1 with
  | some x, some y => if x.seq < y.seq then some 1 else some 0
  | some _, none => some 0
  | none, some _ => some 1
  | none, none => none

/-- R371: the records of the newest session, from its BEGIN on. -/
def State.atSession (s : State) : List AtRec :=
  match s.atHalf with
  | some h => (s.atLog (atJournal h) 512).dropWhile fun r => r.typ != 0x11
  | none => []

/-- R371: an open session found at boot is resumed: after the HEADER SET only its end remains; otherwise at the first
component not done, an APP IMAGE from the page its last PAGE record names. -/
def State.atResume (s : State) : State :=
  let rs := s.atSession
  match rs.head?, s.atPkg with
  | some b, some pkg =>
    if rs.any fun r => r.typ == 0x15 then s
    else
      match s.atOrder pkg with
      | none => s.wr L.AT_BAD 1
      | some ord =>
        let s1 := (s.setFf L.AT_ORD ord).wrs [(R.ATTIC_STAT_PHASE, 2), (L.AT_SEQ, b.seq), (L.AT_COLD, 1), (L.AT_PC, 1)]
        if s.hdrSetPage.any fun p => s.hdrSetSeq p == b.seq then s1.wr L.AT_NEXT 21
        else
          let todo := (firstBelow (fun i => !rs.any fun r => r.typ == 0x14 && r.comp == ord.getD i 9) ord.length).getD ord.length
          let from_ := if ord.getD todo 9 = 4 then (rs.foldl (fun p r => if r.typ = 0x13 then r.page else p) 0) else 0
          s1.wrs [(L.AT_NEXT, 3), (L.AT_I, todo), (L.AT_FROM, from_)]
  | some b, none =>
    if (rs.any fun r => r.typ == 0x15) || !(s.hdrSetPage.any fun p => s.hdrSetSeq p == b.seq) then s
    else s.wrs [(R.ATTIC_STAT_PHASE, 2), (L.AT_SEQ, b.seq), (L.AT_COLD, 1), (L.AT_PC, 1), (L.AT_NEXT, 21)]
  | _, _ => s

/-- R360, R362, R371, R377: what the loader does at every boot before it starts the application image; none while a
Floor Plan load runs (R55), while TEST_MODE holds the core (R502), or without its domains. -/
def State.attBoot (s : State) : State :=
  if s.on L.FP_LOADING || s.on L.TEST_HOLD || !s.domOn 5 || !s.domOn 11 then s
  else
    let pkg := s.atPkg
    let half := s.atHalf.getD 0
    let s1 := s.wrs [(R.FLASHC_WRP_0, s.rd R.FLASHC_WRP_0 ||| 3), (R.FLASHC_WRP_1, s.rd R.FLASHC_WRP_1 ||| 2 ^ 31),
      (R.ATTIC_STAT_OWNER_LOCK, b2n (s.lockLatest.any fun r => r.typ == 1)),
      (R.ATTIC_J_WP_HALF, half), (R.ATTIC_J_WP_INDEX, s.atEnd (atJournal half) 512), (R.ATTIC_S_WP_INDEX, s.atEnd atStageLog 1024),
      (R.ATTIC_STAT_PHASE, b2n pkg.isSome), (R.ATTIC_STAT_FLASH_HOLD, 0),
      (L.AT_BAD, b2n (pkg.any fun h => (s.atOrder h).isNone))]
    s1.atResume

end Sys2Proof.Machine
end

