-- ==== Sys2Proof/Machine/PorchOps.lean ====
section
/-!
DEFINITION. Machine/PorchOps.lean: the Porch memory, its anti-tearing page writes, its ownership token, and the
host commands and field answers as shared operations (R304 to R324, R353).
-/
namespace Sys2Proof.Machine

open Sys2Proof

namespace L

/-- R315, R324: the steps of the page write in progress in the Porch memory that have completed, plus one; 0 none; 6 and 7 the direct
programming of pages 254 and 255 by the lowering of the read-out protection. -/
def PW_STEP : Fld := latch 43 0 3 .live 0
/-- R316: the step named by PW_STEP has started. -/
def PW_RUN : Fld := latch 43 1 1 .live 0
/-- R315: the page being written, its new octets, and whose write it is: 1 the field's, 2 a host command's,
3 the Floor Plan loader's (R310), 4 the Attic's selector (R353), 5 the lowering's (R324). -/
def PW_TGT : Fld := latch 43 2 8 .live 0
def PW_DATA : Fld := latch 43 3 512 .live 0
def PW_WHO : Fld := latch 43 4 3 .live 0
/-- R310: octet 7 of page 0 that the loader has still to write, plus one. -/
def PW_LDR : Fld := latch 43 5 9 .live 0
/-- R317: the start-up decision is taken; R310: ENABLE as read then. -/
def P_UP : Fld := latch 43 6 1 .live 0
def P_EN : Fld := latch 43 7 1 .live 0
/-- R307: the ISO/IEC 14443-3 state: 0 idle, 1 level 1, 2 level 2, 3 selected, 4 halted, 5 ISO-DEP session; and
whether the tag was woken from HALT. -/
def P_TAG : Fld := latch 43 8 3 .live 0
def P_STAR : Fld := latch 43 9 1 .live 0
/-- R311, R314: the application is selected; the file selected: 0 none; RndP plus one; the mismatches and the
rights of the session. -/
def P_APP : Fld := latch 43 10 1 .live 0
def P_FILE : Fld := latch 43 11 3 .live 0
def P_RND : Fld := latch 43 12 129 .live 0
def P_FAILS : Fld := latch 43 13 2 .live 0
def P_RIGHTS : Fld := latch 43 14 4 .live 0
/-- R307, R308: the block number of the Porch's last block, 1 as a session begins and toggled by each I-block it receives; the waiting-time extension: 0 none, 1 its interval runs, 2 S(WTX)
sent and not answered. -/
def P_BLK : Fld := latch 43 15 1 .live 0
def P_WTX : Fld := latch 43 16 2 .live 0
/-- R307, R308: the last frame the Porch sent: its kind (1 ATQA, 2 anticollision, 3 SAK, 4 ATS, 5 I-block, 6 R-block, 7 S(WTX),
8 S(DESELECT)) and its octets; of an I-block the data and the status word. -/
def P_KIND : Fld := latch 43 17 4 .live 0
def P_OUT : Fld := latch 43 18 8 .live 0
/-- R308: the last block of the session, its kind and its octets, for a retransmission; the APDU not yet answered: its code and
operands; R307: the data of the chained I-blocks that an APDU has come in so far. -/
def P_LAST : Fld := latch 43 19 8 .live 0
def P_PEND : Fld := latch 43 20 16 .live 0
def P_CHAIN : Fld := latch 43 23 8 .live 0
/-- R324: the page that the lowering of the read-out protection writes next; 256 once it has written them all. -/
def PL_NEXT : Fld := latch 43 24 9 .live 0
/-- R309, R319: the octets an UPDATE BINARY has still to write, and where the next one goes. -/
def PQ_DATA : Fld := latch 43 21 8 .live 0
def PQ_ADDR : Fld := latch 43 22 16 .live 0
/-- R321 to R323: the host command: 0 none, 1 running, 2 queued; its OP (3 KEY_CMD), first page or slot, pages,
pages done, and the rights and the key of a KEY_CMD. -/
def PH_ST : Fld := latch 19 0 2 .w 0
def PH_OP : Fld := latch 19 1 2 .w 0
def PH_PAGE : Fld := latch 19 2 8 .w 0
def PH_N : Fld := latch 19 3 5 .w 0
def PH_I : Fld := latch 19 4 5 .w 0
def PH_RIGHTS : Fld := latch 19 5 4 .w 0
def PH_KEY : Fld := latch 19 6 128 .w 0
/-- R353: an Attic command on the Porch: 0 none, 1 running, 2 waiting; its OP (4 PFW_WRITE, 5 PFW_SELECT), its
64-octet pages done, and whether one is being programmed. -/
def PF_ST : Fld := latch 21 0 2 .w 0
def PF_OP : Fld := latch 21 1 3 .w 0
def PF_I : Fld := latch 21 2 9 .w 0
def PF_BUSY : Fld := latch 21 3 1 .w 0

end L

/-! ### The memory -/

/-- R312: the CC file at manufacture. -/
def ccFile : List Byte := [0x00, 0x0F, 0x20, 0x00, 0xFA, 0x00, 0xF6, 0x04, 0x06, 0xE1, 0x04, 0x10, 0x00, 0x00, 0xFF]

/-- What an octet of the Porch memory reads as when it is not listed: its contents at manufacture. Pages whose
contents the spec leaves open read free octets; the key, reserved and shadow pages read zero. -/
def porchDflt (a : Nat) : Byte :=
  if 128 ≤ a ∧ a < 192 then ccFile.getD (a - 128) 0
  else if a < 8 ∨ (64 ≤ a ∧ a < 216 * 64) then Config.porchByte a
  else 0

def State.rdP (s : State) (a : Nat) : Byte := (Cells.get a s.porch).getD (porchDflt a)
def State.wrP (s : State) (a : Nat) (b : Byte) : State := { s with porch := Cells.put a b (some (porchDflt a)) s.porch }
def State.rdPs (s : State) (a n : Nat) : List Byte := (List.range n).map fun i => s.rdP (a + i)
def State.wrPs (s : State) (a : Nat) : List Byte → State
  | [] => s
  | b :: t => (s.wrP a b).wrPs (a + 1) t

/-- Octets of the Porch memory left with values the spec leaves open. -/
def State.freeP (s : State) (l : List Nat) : State :=
  s.each l fun a s => (s.wrP a (BitVec.ofNat 8 (s.freeVal 8))).freeStep

/-- R353: the program store: slot k at octet k × 16384. -/
def State.wrFw (s : State) (a : Nat) (l : List Byte) : State :=
  { s with porchFw := (l.zipIdx).foldl (fun m p => Cells.put (a + p.2) p.1 none m) s.porchFw }

/-- R315: the shadow's places: payload page 254, header page 255. -/
def shadowPay : Nat := 254 * 64
def shadowHdr : Nat := 255 * 64

/-- R315: the CRC-32C of a shadow header. -/
def shadowCrc (target seq : Nat) (pay : List Byte) : Nat := crc32c (leBytes 2 target ++ leBytes 4 seq ++ pay)

/-! ### Ownership and answers -/

/-- R320: the token, with its mirror. -/
def State.porchOwn (s : State) (o : Nat) : State := s.wrs [(R.PORCH_STAT_OWNER, o), (R.PBM_TOKENS_PORCH, o)]

/-- R316: the write gate. -/
def State.porchGate (s : State) : Bool :=
  s.on R.PORCH_STAT_RESERVE || (s.domOn 2 && !s.on R.SYSCTL_SUPPLY_STAT_WARN)

/-- R306, R308: a frame the Porch sends, with its kind of load modulation. -/
def State.porchSend (s : State) (kind : Nat) (l : List Byte) : State :=
  (s.setFf L.P_OUT (l.map BitVec.toNat)).wrs [(L.P_KIND, kind),
    (R.PORCH_STAT_LM, b2n (s.domOn 2 && s.on R.PORCH_CFG_ALM_EN && !s.on R.SYSCTL_SUPPLY_STAT_WARN))]

/-- R308: a block that an R-block of the PCD may call for again. -/
def State.porchBlock (s : State) (kind : Nat) (l : List Byte) : State := (s.porchSend kind l).setFf L.P_LAST (kind :: l.map BitVec.toNat)

/-- R311: an I-block answered with data and a status word. -/
def State.porchAns (s : State) (l : List Byte) (sw : Nat) : State :=
  ((s.porchBlock 5 (l ++ beBytes 2 sw)).setFf L.P_PEND []).wr L.P_WTX 0

/-- R477: detector 0x38 while the host side is powered. -/
def State.porchFault (s : State) (page : Nat) (inj : Bool) : State := s.when (s.domOn 2) fun s => s.fire 0x38 page inj

/-! ### Page writes (R315, R316) -/

/-- R316: a step starts: none in a dip of a host-powered Porch that the field does not sustain, step 3 only
with the gate open. -/
def State.pwTry (s : State) : State :=
  if s.on L.PW_STEP ∧ !s.on L.PW_RUN ∧ !(s.domOn 2 && s.on R.SYSCTL_SUPPLY_STAT_WARN && !s.on R.PORCH_STAT_FIELD) ∧
      (s.rd L.PW_STEP ≠ 3 ∨ s.porchGate) then
    let s1 := s.wr L.PW_RUN 1
    if s.rd L.PW_WHO = 2 then s1.ifStep 11 (s.rd L.PW_STEP) (s.rd L.PH_I) (s.rd L.PH_PAGE) (s.rd L.PH_N)
    else if s.rd L.PW_WHO = 4 then s1.ifStep 1 (s.rd L.PW_STEP) 0 (s.rd L.PW_TGT) 0
    else s1
  else s

/-- R315: the write of a page begins. -/
def State.pwStart (s : State) (who page : Nat) (data : List Byte) : State :=
  (s.wrs [(L.PW_STEP, 1), (L.PW_RUN, 0), (L.PW_TGT, page), (L.PW_DATA, ofLe data), (L.PW_WHO, who)]).pwTry

/-- R315: what a step does to the memory as it completes. -/
def State.pwEffect (s : State) (step : Nat) : State :=
  let pay := leBytes 64 (s.rd L.PW_DATA)
  match step with
  | 1 => s.wrPs shadowPay pay
  | 2 =>
    let seq := (s.rd R.PORCH_SEQ + 1) % 2 ^ 32
    (s.wrPs shadowHdr (leBytes 2 (s.rd L.PW_TGT) ++ leBytes 4 seq ++ leBytes 4 (shadowCrc (s.rd L.PW_TGT) seq pay))).wr R.PORCH_SEQ seq
  | 3 => s.wrP (shadowHdr + 10) 0x3C
  | 4 => s.wrPs (64 * s.rd L.PW_TGT) pay
  | 6 => s.wrPs shadowPay (List.replicate 64 0)
  | 7 => (s.wrPs shadowHdr (List.replicate 64 0)).wr R.PORCH_SEQ 0
  | _ => s.wrP (shadowHdr + 10) 0x00

/-- R315, R324: the octets that a step programs; COMMIT reads 0x00 throughout the direct programming of page 255. -/
def State.pwOctets (s : State) (step : Nat) : List Nat :=
  match step with
  | 1 | 6 => (List.range 64).map (shadowPay + ·)
  | 2 => (List.range 10).map (shadowHdr + ·)
  | 4 => (List.range 64).map (64 * s.rd L.PW_TGT + ·)
  | 7 => ((List.range 64).map (shadowHdr + ·)).filter (· != shadowHdr + 10)
  | _ => [shadowHdr + 10]

/-- R318: the supply collapses during a step: what the step was programming holds values the spec leaves open. -/
def State.pwCollapse (s : State) : State :=
  if s.on L.PW_STEP && s.on L.PW_RUN then s.freeP (s.pwOctets (s.rd L.PW_STEP)) else s

/-- R328, R304: VPORCH is lost: the registers and the tag's state with it. -/
def State.porchOff (s : State) : State :=
  let s1 := s.pwCollapse
  let gone (k : Nat) : Bool := keyBlk k == 43 || (keyBlk k == 19 && (keyKeep k == 3 || keyKeep k == 5))
  ({ s1 with regs := Cells.keep (fun k => !gone k) s1.regs, fifos := Cells.keep (fun k => !gone k) s1.fifos }.porchOwn 0).setIsl 8 false

/-- R304, R322, R485: VSYS stops powering the island: the host interface's registers and its command are lost; the tag
goes on in a field and is lost without one. -/
def State.porchHostOff (s : State) : State :=
  let s0 := ((s.when (s.rd L.PH_ST == 1) fun s => s.freeze 15 11).ifEnd 11).setDom 2 false
  if s0.on R.PORCH_STAT_FIELD then
    let s1 := { s0 with regs := Cells.keep (fun k => !(keyBlk k == 19 && keyKeep k == 3)) s0.regs }
    s1.when (s1.rd R.PORCH_STAT_OWNER == 2 && s1.rd L.PW_STEP == 0) fun s => s.porchOwn (b2n (s.on R.PORCH_STAT_SESSION))
  else s0.porchOff

/-! ### Host commands (R320 to R323) -/

/-- R323: a host command ends with a result. -/
def State.phEnd (s : State) (result : Nat) : State :=
  let s1 := s.when (s.rd L.PH_OP == 3) fun s => (s.each (List.range 4) fun k s => s.wr (R.PORCH_KEYBUF k) 0).wr L.PH_KEY 0
  (s1.wrs [(L.PH_ST, 0), (R.PORCH_HSTAT_RESULT, result), (R.PORCH_EVT_HCMD_DONE, 1)]).ifEnd 11

/-- R353: an Attic command on the Porch ends: 1 OK, 4 FLASH_FAIL. -/
def State.pfEnd (s : State) (result : Nat) : State :=
  (s.wrs [(L.PF_ST, 0), (L.PF_BUSY, 0), (R.ATTIC_CMD_STAT_BUSY, 0), (R.ATTIC_CMD_STAT_RESULT, result),
    (if result = 1 then R.ATTIC_EVT_DONE else R.ATTIC_EVT_ERR, 1)]).ifEnd 1

/-- R323, R309: the new octets of the next page of a host command: of a WRITE from HBUF, of a KEY_CMD the key
page 216 and then the rights page 217. -/
def State.phPage (s : State) : Nat × List Byte :=
  let i := s.rd L.PH_I
  if s.rd L.PH_OP = 2 then
    (s.rd L.PH_PAGE + i, (List.range 16).flatMap fun w => leBytes 4 (s.rd (R.PORCH_HBUF (16 * i + w))))
  else
    let k := s.rd L.PH_PAGE
    if i = 0 then
      let old := s.rdPs (216 * 64) 64
      (216, old.take (16 * k) ++ leBytes 16 (s.rd L.PH_KEY) ++ old.drop (16 * k + 16))
    else (217, (s.rdPs (217 * 64) 64).set k (BitVec.ofNat 8 (s.rd L.PH_RIGHTS)))

/-- R323: READ: its pages into HBUF. -/
def State.phRead (s : State) : State :=
  s.each (List.range (s.rd L.PH_N * 16)) fun w s =>
    s.wr (R.PORCH_HBUF w) (ofLe (s.rdPs (64 * s.rd L.PH_PAGE + 4 * w) 4))

/-- R353: the page that holds the selector of the program store, in octet 0 bit 0. -/
def fwSelPage : Nat := 218
def State.fwSel (s : State) : Nat := (s.rdP (fwSelPage * 64)).toNat % 2

/-- R353, R360: an Attic command's next page, or its selector write; a page waits while a refusal reason holds. -/
def State.pfGo (s : State) : State :=
  if s.rd L.PF_OP = 4 ∧ s.atReasons ≠ 0 then ((s.wr L.PF_ST 2).atHold).porchOwn 0
  else
  let s1 := (s.wr L.PF_ST 1).porchOwn 2
  if s.rd L.PF_OP = 5 then
    s1.pwStart 4 fwSelPage ((s.rdPs (fwSelPage * 64) 64).set 0 (BitVec.ofNat 8 (1 - s.fwSel)))
  else s1.wr L.PF_BUSY 1

/-- R320 to R323: a host command goes on with its next page; a READ is done at once. -/
def State.phGo (s : State) : State :=
  let s1 := (s.wr L.PH_ST 1).porchOwn 2
  if s.rd L.PH_OP = 1 then
    let s2 := (s1.phRead.wr R.PORCH_HSTAT_DONE_PAGES (s.rd L.PH_N)).phEnd 1
    if s2.on L.PF_ST then s2.pfGo else s2.porchOwn 0
  else
    let p := s1.phPage
    (s1.ifStart 11 (s.rd L.PH_OP) 1 (s.rd L.PH_I) (s.rd L.PH_PAGE) (s.rd L.PH_N)).pwStart 2 p.1 p.2

/-! ### APDUs (R311 to R314) -/

/-- R309, R311: the selectable files: FID, first octet, size. -/
def porchFiles : List (Nat × Nat × Nat) :=
  [(0xE103, 0x80, 15), (0xE1A0, 0xC0, 320), (0xE1A1, 0x40, 64), (0xE104, 0x200, 4096), (0xE1A2, 0x1200, 1024), (0xE1A3, 0x1600, 8192)]

def State.porchFile (s : State) : Nat × Nat × Nat := porchFiles.getD (s.rd L.P_FILE - 1) (0, 0, 0)

/-- R309: whether the session may read and write a file. -/
def State.porchMayRead (s : State) (fid : Nat) : Bool :=
  if fid = 0xE1A2 then bit (s.rd L.P_RIGHTS) 0 else if fid = 0xE1A3 then bit (s.rd L.P_RIGHTS) 1 else true
def State.porchMayWrite (s : State) (fid : Nat) : Bool :=
  if fid = 0xE104 then s.rdP (128 + 14) == 0 || bit (s.rd L.P_RIGHTS) 3
  else if fid = 0xE1A3 then bit (s.rd L.P_RIGHTS) 2 else false

/-- R309, R319: the next page of an UPDATE BINARY, or its answer. -/
def State.fieldPage (s : State) : State :=
  let l := s.ff L.PQ_DATA
  if l.isEmpty then s.porchAns [] 0x9000
  else
    let a := s.rd L.PQ_ADDR
    let o := a % 64
    let n := min (64 - o) l.length
    let old := s.rdPs (a / 64 * 64) 64
    let new := old.take o ++ (l.take n).map (BitVec.ofNat 8) ++ old.drop (o + n)
    ((s.setFf L.PQ_DATA (l.drop n)).wr L.PQ_ADDR (a + n)).pwStart 1 (a / 64) new

/-- R311: READ BINARY and UPDATE BINARY. -/
def State.porchReadBin (s : State) (off le : Nat) : State :=
  let f := s.porchFile
  if s.rd L.P_FILE = 0 then s.porchAns [] 0x6A82
  else if !s.porchMayRead f.1 then s.porchAns [] 0x6982
  else if f.2.2 ≤ off then s.porchAns [] 0x6B00
  else if le = 0 ∨ 250 < le ∨ f.2.2 < off + le then s.porchAns [] 0x6700
  else s.porchAns (s.rdPs (f.2.1 + off) le) 0x9000
def State.porchUpdBin (s : State) (off : Nat) (data : List Nat) : State :=
  let f := s.porchFile
  if s.rd L.P_FILE = 0 then s.porchAns [] 0x6A82
  else if !s.porchMayWrite f.1 then s.porchAns [] 0x6982
  else if f.2.2 ≤ off then s.porchAns [] 0x6B00
  else if data = [] ∨ 246 < data.length ∨ f.2.2 < off + data.length then s.porchAns [] 0x6700
  else (((s.setFf L.PQ_DATA data).wr L.PQ_ADDR (f.2.1 + off)).wr L.P_WTX 1).fieldPage

/-- R314: GET CHALLENGE: a fresh RndP, of which the spec leaves the value open. -/
def State.porchChallenge (s : State) : State :=
  let r := s.freeVal 128
  ((s.freeStep).wr L.P_RND (r + 1)).porchAns (leBytes 16 r) 0x9000

/-- R314: EXTERNAL AUTHENTICATE for slot k. -/
def State.porchAuth (s : State) (k : Nat) (data : List Nat) : State :=
  let key := s.rdPs (216 * 64 + 16 * k) 16
  let rnd := leBytes 16 (s.rd L.P_RND - 1)
  if s.rd L.P_FAILS = 3 then s.porchAns [] 0x6983
  else if data.length ≠ 16 then s.porchAns [] 0x6700
  else
    let hit := s.on L.P_RND && decide (k < 4) && key.any (· != 0) && data.map (BitVec.ofNat 8) == aesEnc key rnd
    let s1 := s.wr L.P_RND 0
    if hit then (s1.wr L.P_RIGHTS (s.rd L.P_RIGHTS ||| (s.rdP (217 * 64 + k)).toNat % 16)).porchAns [] 0x9000
    else (s1.wr L.P_FAILS (s.rd L.P_FAILS + 1)).porchAns [] 0x6300

/-- R311: the APDUs, by code: 0 SELECT of the application, 1 SELECT of a file, 2 READ BINARY, 3 UPDATE BINARY,
4 GET CHALLENGE, 5 EXTERNAL AUTHENTICATE, 7 one of more than 256 octets, 6 any other. -/
def State.porchApdu (s : State) (code a : Nat) (data : List Nat) : State :=
  match code with
  | 0 =>
    if data = [0xD2, 0x76, 0x00, 0x00, 0x85, 0x01, 0x01] then (s.wrs [(L.P_APP, 1), (L.P_FILE, 0)]).porchAns [] 0x9000
    else s.porchAns [] 0x6A82
  | 1 =>
    match (List.range 6).find? fun i => (porchFiles.getD i (0, 0, 0)).1 == a with
    | some i => if s.on L.P_APP then (s.wr L.P_FILE (i + 1)).porchAns [] 0x9000 else s.porchAns [] 0x6A82
    | none => s.porchAns [] 0x6A82
  | 2 => s.porchReadBin a (data.headD 0)
  | 3 => s.porchUpdBin a data
  | 4 => s.porchChallenge
  | 5 => s.porchAuth a data
  | 7 => s.porchAns [] 0x6700
  | _ => s.porchAns [] 0x6D00

/-- The I-block that waits for its answer is processed. -/
def State.porchServe (s : State) : State :=
  match s.ff L.P_PEND with
  | code :: a :: data => s.porchApdu code a data
  | _ => s

/-- R324: the lowering of the read-out protection writes its next page: pages 2 to 253 by the five steps, 254 and 255 directly. -/
def State.lowerPage (s : State) : State :=
  let p := max 2 (s.rd L.PL_NEXT)
  if p < 254 then s.pwStart 5 p (List.replicate 64 0)
  else (s.wrs [(L.PW_STEP, p - 248), (L.PW_RUN, 0), (L.PW_TGT, p), (L.PW_DATA, 0), (L.PW_WHO, 5)]).pwTry

/-- R320 to R322, R324: no page is being written: the lowering of the read-out protection comes first, and nothing else begins beside
it; then the token goes to a session, else to the next command. -/
def State.porchArb (s : State) : State :=
  if s.on L.PW_STEP || s.on L.PF_BUSY || !s.on L.P_UP then s
  else if s.on R.FLASHC_RDP_LOWERING then (if s.rd L.FL_LSTEP = 3 ∧ s.rd L.PL_NEXT < 256 then s.lowerPage else s)
  else if s.on L.PW_LDR && s.domOn 2 then
    (s.wr L.PW_LDR 0).pwStart 3 0 ((s.rdPs 0 64).set 7 (BitVec.ofNat 8 (s.rd L.PW_LDR - 1)))
  else if s.on R.PORCH_STAT_SESSION then
    let s1 := if s.rd L.PH_ST = 1 then (s.wrs [(L.PH_ST, 2), (R.PORCH_HSTAT_RESULT, 2)]).ifEnd 11 else s
    let s2 := if s1.rd L.PF_ST = 1 then s1.wr L.PF_ST 2 else s1
    (s2.porchOwn 1).porchServe
  else if s.rd L.PF_ST = 1 then s.pfGo
  else if s.on L.PH_ST then s.phGo
  else if s.on L.PF_ST then s.pfGo
  else s.porchOwn 0

/-- R60, R315: a page write ends well; a Porch that the plan leaves out loses its power when octet 7 says so. -/
def State.pwPageEnd (s : State) : State :=
  let s1 := s.wrs [(L.PW_STEP, 0), (L.PW_RUN, 0)]
  match s.rd L.PW_WHO with
  | 1 =>
    let s2 := (s1.wr R.PORCH_EVT_WRITE_BY_FIELD 1).sat R.PORCH_CNT_FIELD_WRITES 1
    if s2.on R.PORCH_STAT_SESSION then s2.fieldPage else (s2.setFf L.PQ_DATA []).porchArb
  | 2 =>
    if s.rd L.PH_ST = 1 then
      let i := s.rd L.PH_I + 1
      let s2 := s1.wrs [(L.PH_I, i), (R.PORCH_HSTAT_DONE_PAGES, i)]
      (if i = s.rd L.PH_N then s2.phEnd 1 else s2).porchArb
    else s1.porchArb
  | 5 => (s1.wr L.PL_NEXT (s.rd L.PW_TGT + 1)).porchArb
  | 4 => ((s1.wr R.ATTIC_PFW_STAT_SELECTED s.fwSel).when (s.on L.PF_ST) fun s => s.pfEnd 1).porchArb
  | _ => (s1.when (!s1.present 19) State.porchHostOff).porchArb

/-- R316, R323: a page write ends without its target: 6 GATE_CLOSED, 7 MEM_FAIL. -/
def State.pwPageFail (s : State) (result : Nat) (inj : Bool) : State :=
  let s1 := s.wrs [(L.PW_STEP, 0), (L.PW_RUN, 0)]
  let page := s.rd L.PW_TGT
  match s.rd L.PW_WHO with
  | 1 => (((s1.setFf L.PQ_DATA []).when (s.on R.PORCH_STAT_SESSION) fun s => s.porchAns [] 0x6581).porchFault page inj).porchArb
  | 2 => ((s1.when (s.rd L.PH_ST == 1) fun s => s.phEnd result).when (result == 7) fun s => s.porchFault page inj).porchArb
  | 4 => (s1.when (s.on L.PF_ST) fun s => s.pfEnd 4).porchArb
  | _ => s1.porchArb

/-- R315, R323, R477: the step in progress completes; a verify that fails after steps 1, 2 and 4, the programmings of a page's octets,
ends the write there and leaves what it programmed open; an injected failure is of step 1 and of the verify alone. -/
def State.pwStepDone (s : State) (fail : Bool) : State :=
  let k := s.rd L.PW_STEP
  let o := if k = 1 then (s.pwEffect k).occasion 0x38 else (false, s.pwEffect k)
  let s1 := o.2
  if o.1 then s1.pwPageFail 7 true
  else if fail && (k == 1 || k == 2 || k == 4) then (s1.freeP (s.pwOctets k)).pwPageFail 7 false
  else if 5 ≤ k then s1.pwPageEnd
  else (s1.wrs [(L.PW_STEP, k + 1), (L.PW_RUN, 0)]).pwTry

/-- R320: a session ends: its rights and its RndP with it; the token is free again. -/
def State.porchSessionEnd (s : State) : State :=
  if !s.on R.PORCH_STAT_SESSION then s
  else
    let s1 := ((s.setFf L.P_PEND []).setFf L.P_CHAIN []).wrs [(R.PORCH_STAT_SESSION, 0), (R.PORCH_EVT_SESSION_END, 1), (L.P_APP, 0), (L.P_FILE, 0), (L.P_RND, 0),
      (L.P_FAILS, 0), (L.P_RIGHTS, 0), (L.P_BLK, 0), (L.P_WTX, 0)]
    (s1.when (s1.rd R.PORCH_STAT_OWNER == 1) fun s => s.porchOwn 0).porchArb

end Sys2Proof.Machine
end

