-- ==== Sys2Proof/Machine/Resets.lean ====
section
/-!
DEFINITION. Machine/Resets.lean: what each reset kind reaches and what survives it (R481 to R488), the
reclaims that follow (R267), and the resets a fault's reaction calls for (R476).
-/
namespace Sys2Proof.Machine

open Sys2Proof

namespace L

/-- R395, R481: a reset is held: bit 0 PIN (RESET_N low), bit 1 BOR (VSYS below its release level). -/
def RST_HELD : Fld := latch 41 33 2 .nv 0
/-- R401: the domains held in a DOMAIN reset, bit d for domain d. -/
def DOM_HELD : Fld := latch 41 34 13 .c 0

end L

/-! ### One domain -/

/-- Blocks whose live fields show state that lies outside their domain: the Cellar's, the Porch tag's, the
calendar's, the watchdogs' and the pins'. -/
def liveStays (b : Nat) : Bool := [0, 3, 19, 22, 25, 37, 41, 42, 43].contains b

/-- R484: whether a reset that reaches domain d returns the field of a key to its Reset value. -/
def resetKey (d k : Nat) : Bool :=
  blkDom (keyBlk k) == d && (keyKeep k == 3 || keyKeep k == 4 || (keyKeep k == 5 && !liveStays (keyBlk k)))

/-- The fields and FIFOs of a domain at their Reset values. DESIGN CHOICE: a stalled write towards it (R31) is never completed, and
its crossing is free. -/
def State.clearDomain (s : State) (d : Nat) : State :=
  { s with regs := Cells.keep (fun k => !resetKey d k) s.regs, fifos := Cells.keep (fun k => !resetKey d k) s.fifos,
           late := s.late.filter fun w => regionDom (regionOf w.addr) != d }

/-- R264, R268: the tokens' mirrors follow the blocks that hold them. -/
def State.mirrorTokens (s : State) : State :=
  s.wrs [(R.PBM_TOKENS_CIPHER, s.rd R.CIPHER_LOCK_OWNER), (R.PBM_TOKENS_PORCH, s.rd R.PORCH_STAT_OWNER)]

/-- R480: a reset that reaches PD_PERIPH cancels an injection that has not acted, 0x28 apart. -/
def State.cancelInj (s : State) : State :=
  if s.on L.INJ_ON && s.rd L.INJ_I == 0x28 then s.wr R.FAULT_INJ_STAT_ARMED 1
  else s.wrs [(L.INJ_ON, 0), (R.FAULT_INJ_MODE_MODE, 0), (R.FAULT_INJ_STAT_ARMED, 0)]

/-- R486, R488: a provisioning cut off leaves its slot BAD or EMPTY. -/
def State.provCut (s : State) : State :=
  if s.on R.KEYS_PROG_STAT_BUSY then
    (s.freeStep).wr (L.OTP_STATE (s.rd L.PROG_SLOT)) (if s.freeVal 1 = 1 then 3 else 0)
  else s

/-- R228: the programming of a slot's revocation bits cut off: any of the four may have been programmed. -/
def State.revCut (s : State) : State :=
  if s.on R.KEYS_REVOKE_STAT_BUSY then
    (s.freeStep).wr (L.OTP_REV (s.rd L.REV_SLOT)) (s.rd (L.OTP_REV (s.rd L.REV_SLOT)) ||| s.freeVal 4)
  else s

/-- R206, R209: a transmission that a reset of PD_LINK cuts is charged up to its actual end, of which the spec
leaves the length open. -/
def State.dutyCut (s : State) (band air : Nat) : State :=
  if band = 0 then s
  else
    let l := s.ff (L.DUTY_BKT (band - 1))
    (s.freeStep).setFf (L.DUTY_BKT (band - 1)) ((l.headD 0 + s.freeVal 32 % (air + 1)) :: l.tail)

/-- R175, R268, R481: what else a reset or a power-up of a domain does to its memories and queues. -/
def State.resetDomain (s : State) (d : Nat) : State :=
  match d with
  | 6 =>
    let s0 := s.each (s.running.filter fun e => e.phase == 1) fun e s => s.dutyCut e.band e.air
    let sA := s0.each [Radio.cirrus, Radio.stratus] fun r s =>
      s.when (s.rd (R.FE_STAT_STATE r) == 6) fun s => s.dutyCut (s.rd (L.ACK_BAND r)) (s.rd (L.ACK_AIR r))
    let s1 := ((sA.ltToCarry.clearDomain 6).dropMem 0x20100000 0x20140000).loseMem 16 |>.loseMem 17
    ({ s1 with evq := [], armed := [], running := [], zq := [] }).wrs ((List.range 5).map fun q => (L.JOB_QBUF q, 0)) |>.mirrorTokens
  | 7 => (s.provCut.revCut.clearDomain 7).mirrorTokens
  | 8 => (s.radioGone .cirrus).clearDomain 8
  | 9 => (s.radioGone .stratus).clearDomain 9
  | 5 => (s.when (s.on L.AC_ON && decide (s.rd L.AC_ON < 5)) State.engAbandon).clearDomain 5
  | 11 => s.flAbandon.clearDomain 11
  | 12 => (s.hostLost.clearDomain 12).cancelInj
  | _ => s.clearDomain d

/-! ### Jobs and in-flight records -/

/-- R485, R486: records frozen with a cause. -/
def State.freezes (s : State) (cause : Nat) (l : List Nat) : State := s.each l fun n s => s.freeze cause n

/-- R486, R236: a channel's job ended with ABORTED by a reset, its record frozen first. -/
def State.jobReset (s : State) (cause q : Nat) : State :=
  (((s.when (q == 1 && cause != 6) fun s => s.wr L.H_OUT 0).freeze cause (q + 2)).jobKill q 10).each [0, 1] fun p s => s.burstDrop p q

/-- R486: a job whose engine a PIN or DOMAIN reset stops: a prefix of its output, of a length the spec leaves
open, has been written and stays. -/
def State.jobCut (s : State) (cause q : Nat) : State :=
  if s.chRun q && s.rd (L.JOB_ST q) == 2 && s.rd (L.JOB_BAD q) == 0 then
    let a := s.rd (R.CIPHER_Q_CUR q)
    let d := s.dscAt a
    let sg := s.dscSegs q d
    let n := dscDataLen d
    let k := if s.jobGate q = 0 then min n (s.jobBoundary q) else min n (s.rd (R.CIPHER_Q_PROG q))
    let r := jobOut (dscMode d) (s.jobKeyBytes q d) (dscIv d) (s.readSegs (sg.1.getD [])) (s.jobInput q (sg.2.1.getD [])) (dscTagLen d)
    let b := s.rd (L.JOB_QBUF q)
    let s1 := if b = 0 then (s.freeStep).writeSegs (dropSegs (s.rd (R.CIPHER_Q_PROG q)) ((cutSegs k (sg.2.2.1.getD [])).getD []))
        ((r.1.take k).drop (s.rd (R.CIPHER_Q_PROG q)))
      else s.handBufs [b - 1] ownQuar ownFree
    (s1.ifStep (q + 2) 2 k a n).freeze cause (q + 2)
  else s.freeze cause (q + 2)

/-- R237, R238: the lock comes back to FREE when a reset reaches its holder. -/
def State.lockDrop (s : State) (qs : List Nat) : State :=
  if s.rd R.CIPHER_LOCK_OWNER ≠ 0 ∧ qs.contains (s.rd R.CIPHER_LOCK_OWNER - 1) then s.setLock 0 else s

/-- R267: the radio buffers that an armed or running event, a frame or an acknowledgement holds. -/
def State.radioHeld (s : State) : List Nat :=
  ((s.armed ++ s.running).filter fun e => txKind e.kind).flatMap (fun e => s.chain 2048 e.buf) ++
    [Radio.cirrus, Radio.stratus].flatMap fun r =>
      s.ff (L.RX_BUFS r) ++ (if s.on (L.ACK_BUF r) then [s.rd (L.ACK_BUF r) - 1] else [])

def State.rstCause (s : State) (n : Nat) : State := s.setBitF R.SYSCTL_RST_CAUSE_KIND n

/-! ### The reset kinds -/

/-- R221: the LANE reset: every job aborted, PD_CIPHER reset, every frame's key lost until the reload ends. -/
def State.laneReset (s : State) : State :=
  let s1 := s.each (List.range 5) fun q s => s.jobReset 6 q
  let s2 := ((s1.freeze 6 10).resetDomain 7).setDom 7 false
  let s3 := s2.each [Radio.cirrus, Radio.stratus] fun r s => s.when (s.on (L.RX_KEYST r)) fun s => s.wr (L.RX_KEYST r) 4
  (s3.rstCause 6).wrs [(L.DUE_LANE, 0), (L.LANE_RST, 1)]

/-- R267, R401, R486: a DOMAIN reset begins: the domain's records frozen, its requester's job ended, its
fields reset, its buffers' reclaim started. -/
def State.domainReset (s : State) (d : Nat) : State :=
  let s0 := (s.rstCause 8).clrBitF L.DUE_DOM d
  if bit (s0.rd L.DOM_HELD) d then s0
  else
    let recs : List Nat := match d with | 6 => [9] | 7 => [10] | 10 => [12] | 11 => [0, 1] | 12 => [14, 15] | _ => []
    let s1 := s0.freezes 8 recs
    let s2 := match d with
      | 7 => s1.each (List.range 5) fun q s => s.jobCut 8 q
      | 10 => (s1.jobReset 8 3).lockDrop [3]
      | 12 => (s1.jobReset 8 1).lockDrop [1]
      | _ => s1
    let s3 := (((s2.resetDomain d).setDom d false).setBitF L.DOM_HELD d)
    match d with
    | 5 => s3.startReclaim [5] 1 8
    | 10 => s3.startReclaim [7] 3 8
    | 12 => s3.startReclaim [6] 2 8
    | _ => s3

/-- R267, R481: WDT_APP (3) and DBG (9): PD_APP and PD_RET reset, the APP buffers reclaimed, the device in
RUN (R513), the resident loader started. -/
def State.appReset (s : State) (cause : Nat) : State :=
  let s1 := ((s.freeze cause 13).jobReset cause 0).jobReset cause 2
  let s2 := (s1.lockDrop [0, 2]).when (s1.on R.SYSCTL_PWR_STAT_ENTERING) State.entryUndo
  let s3 := (s2.resetDomain 5).each (List.range 16) fun k s => s.loseMem k
  (((s3.startReclaim [5] 1 cause).rstCause cause).wrs [(R.SYSCTL_PWR_STAT_STATE, 0), (L.CORE_STOP, 0), (L.WAKING, 0),
    (R.WDA_STAT_COUNT, 0)]).attBoot

/-- R144, R147, R267: LOCKSTEP (5) and WDT_LINK (4) resets: the core pair restarts, its data RAM is reset, its channel's job ends and
the radio owners' idle buffers are reclaimed. DESIGN CHOICE: the data RAM's contents after it are free values. -/
def State.linkReset (s : State) (cause : Nat) : State :=
  let s1 := ((s.jobReset cause 4).lockDrop [4]).when (s.on R.SYSCTL_PWR_STAT_ENTERING) State.entryUndo
  ((s1.startReclaim [1, 2, 3, 4] (if cause = 5 then 4 else 5) cause).rstCause cause).wr R.LINK_STAT_CORES 2 |>.loseMem 17

/-- Bits of a key: its offset. -/
def keyOff (k : Nat) : Nat := k / 32 % 8192

/-- R65: every class C field of FLOOR cleared; a load is in progress (FP_LOADING's Reset value is 1). -/
def State.floorClear (s : State) : State :=
  { s with regs := Cells.keep (fun k => !(keyBlk k == 1 && keyKeep k == 1)) s.regs }

/-- R483: PIN and SYS reset the Porch's host interface; a page being written completes. -/
def State.porchHostReset (s : State) : State :=
  let s1 := { (s.freeze (if s.on L.DUE_SYS then 7 else 2) 11) with
    regs := Cells.keep (fun k => !(keyBlk k == 19 && keyKeep k == 3)) s.regs }
  if s1.rd R.PORCH_STAT_OWNER = 2 ∧ s1.rd L.PW_STEP = 0 then s1.wr R.PORCH_STAT_OWNER 0 else s1

/-- R513: the power state and what hangs on it, as a reset that loads the Floor Plan leaves them. -/
def State.toRun (s : State) : State :=
  s.wrs [(R.SYSCTL_PWR_STAT_STATE, 0), (R.SYSCTL_PWR_STAT_PENDING, 0), (R.SYSCTL_PWR_STAT_ENTERING, 0),
    (R.SYSCTL_PWR_STAT_LISTEN, 0), (L.ENT_PT, 0), (L.ENT_ACK, 0), (L.ENT_ABORT, 0), (L.ENT_HOLD, 0), (L.ENT_RET, 0),
    (L.ENT_CLK, 0), (L.WAKING, 0), (L.WAKE_LATCHED, 0), (L.CORE_STOP, 0), (L.HP_IRQ, 0)]

/-- R484, R486: PIN (2) and SYS (7): domains 5 to 12 reset and held until the load ends, the calendar's and
the Porch's interfaces reset, PD_RET too for SYS; the Cellar, the contexts and LINK_TIME are kept. -/
def State.warmReset (s : State) (cause : Nat) : State :=
  let s0 := (s.toRun.ltToCarry).freezes cause [0, 1, 9, 10, 11, 13, 14, 15]
  let s1 := s0.each (List.range 5) fun q s => if cause = 7 then s.jobReset cause q else s.jobCut cause q
  let s2 := s1.each [5, 6, 7, 8, 9, 10, 11, 12] fun d s => (s.resetDomain d).setDom d false
  let s3 := s2.porchHostReset
  let s4 := { s3 with regs := Cells.keep (fun k => !(keyBlk k == 22 && keyKeep k == 3)) s3.regs }
  let s5 := s4.when (cause == 7) fun s => s.each (List.range 16) fun k s => s.loseMem k
  let s6 := s5.each (List.range 16) fun n s => s.ifEnd n
  let s7 := s6.wrs [(R.HALL_CLK_STAT_RUN, s6.rd R.HALL_CLK_STAT_RUN &&& 0x103), (R.HALL_CLK_STAT_PLL_LOCK, 0),
    (R.HALL_CLK_STAT_NFC_SYN_LOCK, 0), (L.DUE_SYS, 0), (L.DUE_LANE, 0), (L.LANE_RST, 0), (L.DUE_DOM, 0), (L.DOM_HELD, 0), (L.FP_WARM, 1), (L.PLL_WAIT, 0),
    (R.WDA_STAT_COUNT, 0), (L.RECL, 0)]
  (s7.floorClear.rstCause cause).mirrorTokens

/-- R481, R484: POR (0), BOR (1) and OFFWAKE (10): everything returns to its Reset value but what PD_CAL, the
Porch tag and the non-volatile memories hold; LINK_TIME restarts at 0 and only this cause reads 1. -/
def State.coldReset (s : State) (cause : Nat) : State :=
  let keepKey (k : Nat) : Bool := keyKeep k == 0 || keyKeep k == 6 || (keyKeep k == 5 && (keyBlk k == 19 || keyBlk k == 22 || keyBlk k == 43))
  let s0 := if cause = 10 then s else s.porchHostOff
  let s1 := s0.provCut.revCut.flAbandon
  let s2 := { s1 with regs := Cells.keep keepKey s1.regs, fifos := Cells.keep keepKey s1.fifos, plan := [], evq := [], late := [],
                      zq := [], armed := [], running := [], htx := [], hcmd := [], resp := .none,
                      mem := Cells.keep (fun a => decide (regionOf a = Region.flash)) s1.mem }
  (s2.each (List.range 18) fun k s => s.loseMem k).wr R.SYSCTL_RST_CAUSE_KIND (2 ^ cause)
    |>.setIsl 8 (s0.on R.PORCH_STAT_FIELD) |>.mirrorTokens

/-- R476, R482: the resets a step's faults have called for, taken as the step ends. -/
def State.settle (s : State) : State :=
  if !s.on L.DUE_LANE && !s.on L.DUE_DOM && !s.on L.DUE_SYS then s
  else
    let s1 := s.when (s.on L.DUE_LANE) State.laneReset
    let s2 := s1.each ((List.range 13).filter fun d => bit (s1.rd L.DUE_DOM) d) fun d s => s.domainReset d
    s2.when (s2.on L.DUE_SYS) fun s => s.warmReset 7

end Sys2Proof.Machine
end

