-- ==== Sys2Proof/Machine/PortOps.lean ====
section
/-!
DEFINITION. Machine/PortOps.lean: the CAN FD controllers and the pins as shared operations (R453 to R466, R497).
-/
namespace Sys2Proof.Machine

open Sys2Proof

namespace L

/-- R455: of controller t: the buffer on the bus plus one; the buffers whose cancellation waits for the frame on the
bus; the controller integrates; the RX FIFO's oldest place and its entries. -/
def CN_BUS (t : Nat) : Fld := latch (34 + t) 0 5 .w 0
def CN_CANC (t : Nat) : Fld := latch (34 + t) 1 16 .w 0
def CN_INTEG (t : Nat) : Fld := latch (34 + t) 2 1 .w 0
def CN_GET (t : Nat) : Fld := latch (34 + t) 3 5 .w 0
def CN_LVL (t : Nat) : Fld := latch (34 + t) 4 5 .w 0
/-- R465, R497: the levels the board puts on the GPIO pins; VIO_A and VIO_B below 1.6 V. -/
def GP_EXT : Fld := latch 37 0 32 .live 0
def VIO_LOW (b : Nat) : Fld := latch 41 (64 + b) 1 .live 0

end L

/-! ### CAN FD -/

/-- R459: word w of message buffer i of controller t. -/
def canWord (t i w : Nat) : Fld := R.CAN_MSG t (18 * i + w)

/-- R455: the arbitration value of a frame by its first two words: the lower wins the bus. -/
def canPrio (w0 w1 : Nat) : Nat :=
  let rtr := if bit w1 9 then 0 else bits w0 29 29
  if bit w0 30 then bits w0 28 18 * 2 ^ 21 + 2 ^ 20 + 2 ^ 19 + bits w0 17 0 * 2 + rtr else bits w0 28 18 * 2 ^ 21 + rtr * 2 ^ 20

/-- R455: the pending buffer that enters arbitration. -/
def State.canBest (s : State) (t : Nat) : Option Nat :=
  (List.range 16).foldl (fun best b =>
    if !bit (s.rd (R.CAN_TX_REQ t)) b then best
    else
      let p (i : Nat) : Nat := canPrio (s.rd (canWord t i 0)) (s.rd (canWord t i 1))
      match best with
      | some a => if p b < p a then some b else best
      | none => some b) none

/-- R485, R486: record 14 or 15 kept current. Nothing tells when a frame reaches its last two EOF bits, so STEP of a
frame on the bus is open between 1 and 2. -/
def State.canRecord (s : State) (t : Nat) : State :=
  let req := s.rd (R.CAN_TX_REQ t)
  let bus := s.rd (L.CN_BUS t)
  if req = 0 then s.ifEnd (14 + t)
  else
    let step := if bus = 0 then 0 else 1 + s.freeVal 1
    let s1 := if bus = 0 then s else s.freeStep
    if s.on (R.FAULT_INFLIGHT_OP (14 + t)) then s1.ifStep (14 + t) step 0 req (bus - 1) else s1.ifStart (14 + t) 1 step 0 req (bus - 1)

/-- R455: the next pending frame enters arbitration where the controller takes part in the bus. -/
def State.canStart (s : State) (t : Nat) : State :=
  let st := s.rd (R.CAN_STAT_STATE t)
  let s1 := if (st = 1 ∨ st = 2) ∧ !s.on (L.CN_INTEG t) ∧ !s.on (L.CN_BUS t) then
      match s.canBest t with
      | some b => s.wr (L.CN_BUS t) (b + 1)
      | none => s
    else s
  s1.canRecord t

/-- R457: STATE written, with EVT.STATE where it changes. -/
def State.canState (s : State) (t st : Nat) : State :=
  if s.rd (R.CAN_STAT_STATE t) = st then s else s.wrs [(R.CAN_STAT_STATE t, st), (R.CAN_EVT_STATE t, 1)]

/-- R457: STATE as the error counts give it. -/
def State.canLevel (s : State) (t : Nat) : State :=
  if s.rd (R.CAN_CTRL_INIT t) = 1 ∨ s.rd (R.CAN_STAT_STATE t) = 4 then s
  else if 255 < s.rd (R.CAN_STAT_TEC t) then (s.canState t 3).wr (L.CN_BUS t) 0
  else if 128 ≤ s.rd (R.CAN_STAT_TEC t) ∨ 128 ≤ s.rd (R.CAN_STAT_REC t) then s.canState t 2
  else s.canState t 1

/-- R457, R489: the kernel clock stops: the frame on the bus is cut and the record frozen. -/
def State.canHalt (s : State) (t : Nat) : State :=
  (((s.freeze 14 (14 + t)).wrs [(L.CN_BUS t, 0), (L.CN_CANC t, 0), (L.CN_INTEG t, 0)]).canState t 4)

/-- R457: after the return to the HFXO. -/
def State.canReturn (s : State) (t : Nat) : State :=
  if s.rd (R.CAN_STAT_STATE t) = 4 then (s.wr (R.CAN_CTRL_INIT t) 1).canState t 0 else s

/-! ### Pins -/

/-- R464: the function of a pin. -/
def State.pinFunc (s : State) (n : Nat) : Nat := bits (s.rd (R.GPIO_FUNC (n / 8))) (4 * (n % 8) + 3) (4 * (n % 8))

/-- R465, R497: the level IN reads for a pin. -/
def State.pinIn (s : State) (n : Nat) : Bool :=
  if s.on (L.VIO_LOW (n / 16)) then false
  else if s.pinFunc n = 9 ∧ 20 ≤ n then false
  else if bit (s.rd R.GPIO_DIR) n ∧ (s.pinFunc n = 0 ∨ s.pinFunc n = 9 ∨ s.pinFunc n = 15) then bit (s.rd R.GPIO_OUT) n
  else bit (s.rd L.GP_EXT) n

/-- R465: IRQ_MODE of a pin. -/
def State.pinMode (s : State) (n : Nat) : Nat :=
  bits (s.rd (if n < 16 then R.GPIO_IRQ_MODE_0 else R.GPIO_IRQ_MODE_1)) (2 * (n % 16) + 1) (2 * (n % 16))

/-- R465: IN follows the pins, and each edge that IRQ_MODE selects sets its IRQ_STAT bit. -/
def State.pinSync (s : State) : State :=
  s.each (List.range 32) fun n s =>
    let old := bit (s.rd R.GPIO_IN) n
    let new := s.pinIn n
    if old == new then s
    else
      (s.wr R.GPIO_IN (putBit (s.rd R.GPIO_IN) n new)).when (s.domOn 12 && bit (s.pinMode n) (if new then 0 else 1)) fun s =>
        s.setBitF R.GPIO_IRQ_STAT n

end Sys2Proof.Machine
end

