-- ==== Sys2Proof/Machine/MacOps.lean ====
section
/-!
DEFINITION. Machine/MacOps.lean: shared operations of the medium access engine: the duty-cycle accountant
(R206 to R210), airtimes, channels (R187), guards (R204), and how a radio event ends (R186, R188, R191).
-/
namespace Sys2Proof.Machine

open Sys2Proof

namespace L

/-- R192: a radio's prepared acknowledgement: its context and the counter it acknowledges. -/
def ACK_CTX (r : Radio) : Fld := latch 12 (50 + r.idx) 8 .w 0
def ACK_CTR (r : Radio) : Fld := latch 12 (52 + r.idx) 32 .w 0
/-- R203: FT_OFS_LO as written, until FT_OFS_HI commits both halves. -/
def FT_LO : Fld := latch 12 60 32 .c 0
/-- R201: LINK_TIME of the last applied correction, and the consecutive outliers. -/
def FT_T0 : Fld := latch 12 61 64 .c 0
def FT_OUT : Fld := latch 12 62 2 .c 0

end L

/-! ### Duty bands -/

/-- R209: one full window has passed since band n restarted. -/
def State.dutyFull (s : State) (n : Nat) : Bool :=
  s.on (R.MAC_DUTY_WINDOW_FULL n) || decide (s.rd (L.DUTY_T0 n) + s.rd (R.MAC_DUTY_WINDOW_S n) * 256000000 ≤ s.lt)

/-- R209: what band n has earned, µs. -/
def State.dutyEarned (s : State) (n : Nat) : Nat :=
  let budget := s.rd (R.MAC_DUTY_BUDGET n)
  if s.dutyFull n then budget
  else budget * ((s.lt - s.rd (L.DUTY_T0 n)) / 256) / (max 1 (s.rd (R.MAC_DUTY_WINDOW_S n)) * 1000000)

/-- R208: what the buckets of band n hold, µs. -/
def State.dutySpent (s : State) (n : Nat) : Nat := (s.ff (L.DUTY_BKT n)).foldl (· + ·) 0

/-- R208: what band n has available, µs, signed. -/
def State.dutyAvail (s : State) (n : Nat) : Int :=
  (s.dutyEarned n : Int) - s.dutySpent n - s.rd (L.DUTY_RSV n)

/-- R207, R213: whether band n is enabled and covers a frequency. -/
def State.dutyCovers (s : State) (n khz : Nat) : Bool :=
  s.on (R.MAC_DUTY_BAND_LO_KHZ n) && decide (s.rd (R.MAC_DUTY_BAND_LO_KHZ n) ≤ khz) && decide (khz ≤ s.rd (R.MAC_DUTY_BAND_HI_HI_KHZ n))

/-- R207: the band of a transmission of context k at a frequency. -/
def State.dutyBand (s : State) (k khz : Nat) : Option Nat :=
  let b := s.ctxRd k 0x33 1
  if bit b 7 && s.dutyCovers (b % 8) khz then some (b % 8) else firstBelow (fun n => s.dutyCovers n khz) 8

/-- R208: a reservation asked of band n: whether it is admitted, and the state after. -/
def State.dutyAdmit (s : State) (n rsv : Nat) (ack : Bool) : Bool × State :=
  if (rsv : Int) ≤ s.dutyAvail n then (true, s.inc (L.DUTY_RSV n) rsv)
  else (false, (s.sat (if ack then R.MAC_DUTY_REFUSED_ACK n else R.MAC_DUTY_REFUSED_TX n) 1).wr R.MAC_EVT_DUTY_REFUSED 1)

/-- R208: a transmission ends: its airtime charged to the current bucket, its reservation released. -/
def State.dutyEnd (s : State) (n rsv air : Nat) : State :=
  let l := s.ff (L.DUTY_BKT n)
  ((s.setFf (L.DUTY_BKT n) ((l.headD 0 + air) :: l.tail)).wr (L.DUTY_RSV n) (s.rd (L.DUTY_RSV n) - rsv))

/-- R209, R210: band n restarts: no history, and e counts from now. -/
def State.dutyRestart (s : State) (n : Nat) : State :=
  (s.setFf (L.DUTY_BKT n) []).wrs [(L.DUTY_T0 n, s.lt), (R.MAC_DUTY_WINDOW_FULL n, 0)]

/-- R208: WINDOW_S / 64 has passed: the oldest of 65 buckets leaves, an empty one becomes current. -/
def State.dutyRoll (s : State) (n : Nat) : State := s.setFf (L.DUTY_BKT n) (0 :: (s.ff (L.DUTY_BKT n)).take 64)

/-! ### Airtime (R106, R107, R111, R206) -/

/-- R107: a Stratus symbol in thirds of a µs. -/
def sunSymbol (phy : Nat) : Nat := [60, 30, 20, 15, 10, 6].getD phy 30

/-- R111, R127: the symbols of a SUN or garage frame with a PSDU of n octets, FCS included. -/
def sunSymbols (phy pre n : Nat) (fec : Bool) : Nat :=
  let p := if phy = 5 then max 8 pre else pre
  let body := 16 + 8 * n
  8 * p + (if phy = 5 then 32 else 16) + (if fec then 2 * (body + (if n % 2 = 0 then 16 else 8)) else body)

/-- R106, R111: a frame's time on air in thirds of a µs, from the octets handed to the modem. -/
def State.onAir (s : State) (radio phy n : Nat) : Nat :=
  if radio = 1 then
    sunSymbol phy * sunSymbols phy (s.rd (R.MDM_SUN_PRE_LEN .stratus)) (n + if s.on (R.MDM_SUN_FCS_TX .stratus) then 2 else 4)
      (s.on (R.MDM_SUN_FEC_TX .stratus))
  else
    3 * match phy with
      | 0 => (1 + 4 + n + 3) * 8
      | 1 => (2 + 4 + n + 3) * 4
      | 2 => 376 + (8 * n + 27) * 2
      | 3 => 376 + (8 * n + 27) * 8
      | _ => (4 + 1 + 1 + n + 2) * 32

/-- R206: the airtime with both ramps, in whole µs rounded up. -/
def airUs (radio thirds : Nat) : Nat := (if radio = 1 then 8 else 4) + (thirds + 2) / 3

/-- R131: the sync delay in LINK_TIME units for a preamble of `pre` octets. -/
def syncDelay (radio phy pre : Nat) : Nat :=
  if radio = 1 then (8 * pre + if phy = 5 then 32 else 16) * sunSymbol phy * 256 / 3
  else ([40, 24, 336, 336, 160].getD phy 0) * 256

/-! ### Channels and guards -/

/-- R66, R106, R187: the frequency of a channel number for a context's PHY, in kHz (absolute), if it converts. -/
def State.chanKhz (s : State) (k chan : Nat) : Option Nat :=
  if typeRadio (s.ctxType k) = 1 then
    let f := s.rd R.MAC_SUN_PLAN_CH0_KHZ + chan * 25 * s.rd R.MAC_SUN_PLAN_SPACING_25K
    if 863000 ≤ f ∧ f ≤ 928000 then some f else none
  else if s.ctxRd k 3 1 = 4 then (if 11 ≤ chan ∧ chan ≤ 26 then some (2405000 + 5000 * (chan - 11)) else none)
  else if s.ctxRd k 3 1 ≤ 3 ∧ chan ≤ 39 then some (2402000 + 2000 * chan)
  else none

/-- R201: the ms since the last applied correction. -/
def State.ftAge (s : State) : Nat := (s.lt - s.rd L.FT_T0) / 256000

/-- R204: the guard of an event of context k at START, µs. -/
def State.guardUs (s : State) (k start given : Nat) : Nat :=
  if given ≠ 0 then given
  else
    let t := s.ctxType k
    let drift := s.ctxRd k 0x5C 2
    let fix := s.rd R.MAC_GUARD_G_FIX_US
    let cap := s.rd R.MAC_GUARD_G_MAX_US
    let anchor := s.ctxRd k 0x50 8
    let sinceUnits := if t = 3 ∨ t = 4 then (s.lt - s.rd L.FT_T0) / 256000 * 256000 + (start - s.lt) else start - anchor
    let grow := (drift * sinceUnits + 255999999) / 256000000
    if t = 2 then grow
    else if t ≠ 3 ∧ t ≠ 4 ∧ anchor = 0 then min fix cap
    else min (fix + grow) cap

/-- R199: fleet time at a LINK_TIME, and the slot number there. -/
def State.fleet (s : State) (lt : Nat) : Nat := (lt + s.rd R.MAC_FT_OFS_LO + 2 ^ 32 * s.rd R.MAC_FT_OFS_HI) % 2 ^ 64
def State.asnAt (s : State) (slotUs lt : Nat) : Nat := s.fleet lt / (max 1 slotUs * 256) % 2 ^ 40
def State.asn (s : State) (lt : Nat) : Nat := s.asnAt (s.rd R.MAC_MESH_CFG_SLOT_US) lt

/-- R196, R214: the slot of an event, by the slot length in force at its arming. -/
def State.evAsn (s : State) (e : Armed) : Nat := s.asnAt e.slot e.start

/-! ### Events that run -/

def Armed.radio (e : Armed) : Radio := if e.handle < 8 then .cirrus else .stratus

/-- The event that occupies a radio. -/
def State.runOn (s : State) (r : Radio) : Option Armed := s.running.find? fun e => e.radio == r

/-- A running event with other contents. -/
def State.setRun (s : State) (e : Armed) : State :=
  { s with running := s.running.map fun x => if x.handle = e.handle then e else x }

/-- An event that ends: it leaves the lists. -/
def State.endEv (s : State) (e : Armed) : State :=
  { s with armed := s.armed.filter fun x => x.handle != e.handle,
           running := s.running.filter fun x => x.handle != e.handle }

/-- R152, R164: the low 32 bits of the counter of an event's frame: of an unsecured one the context's TX_CTR. -/
def State.txCtr (s : State) (e : Armed) : Nat := (if s.on (L.ENC e.buf) then s.rd (L.ENC e.buf) - 1 else s.ctxRd e.ctx 0x38 5) % 2 ^ 32

/-- R164: OP of a context's INFLIGHT returns to NONE. -/
def State.ctxIdle (s : State) (k : Nat) : State := s.ctxInflight k 0 0 0 0

/-- R188, R208: a transmitting event ends with a result: its reservation released, its buffers back to FREE
on OK, TX_DONE posted; a connection event posts none. -/
def State.finish (s : State) (e : Armed) (result : Nat) : State :=
  let s1 := s.when (e.band != 0) fun s => s.dutyEnd (e.band - 1) e.rsv 0
  let s2 := s1.when (result == 0) fun s =>
    let l := s.chain 2048 e.buf
    ((s.handBufs (l.filter fun b => s.owner b == ownTx e.radio) (ownTx e.radio) ownFree)).ctxSat e.ctx 0x72 2
  ((s2.ctxIdle e.ctx).when (txKind e.kind) fun s => s.txDone e result).endEv e

/-- R211: an LE event closed; an advertising event's frames have been sent. -/
def State.leClose (s : State) (e : Armed) : State := if e.kind = 6 then s.finish e 0 else s.endEv e

/-- R204: a receiving event's window ends without a frame. -/
def State.missedEv (s : State) (e : Armed) : State := (s.ctxMissed e.ctx).endEv e

/-- R186: a later event that finds its radio occupied, or a prepared acknowledgement, is dropped. -/
def State.dropEv (s : State) (e : Armed) : State := if txKind e.kind then s.finish e 8 else s.endEv e

/-- R188: the result of a transmitting event for a front-end result of R82. -/
def txResult (fe : Nat) : Nat :=
  match fe with
  | 1 => 0 | 3 => 8 | 4 => 6 | 5 => 7 | 6 => 10 | 7 => 10 | 8 => 11 | 12 => 10 | 11 => 12 | _ => 8

/-! ### Acknowledgements -/

/-- R192: the acknowledgement of a radio is over: its buffer returns to FREE. -/
def State.ackDrop (s : State) (r : Radio) : State :=
  if s.on (L.ACK_BUF r) then (s.handBufs [s.rd (L.ACK_BUF r) - 1] (ownTx r) ownFree).wr (L.ACK_BUF r) 0 else s

/-- R191: an acknowledgement of context k for counter `ctr` is suppressed with a step. -/
def State.ackSuppress (s : State) (r : Radio) (k ctr step : Nat) : State :=
  let s1 := ((s.ctxSat k 0x6B 1).ctxInflight k 4 step 0 ctr).wr R.MAC_EVT_ACK_SUPP 1
  let s2 := s1.sat (if step = 1 then R.MAC_ACK_SUPP_GNT else if step = 2 then R.MAC_ACK_SUPP_DUTY else R.MAC_ACK_SUPP_LATE) 1
  (s2.post (mkEntry 4 k 0 r.idx 0 0 s.lt 0 0 step)).ackDrop r

/-- R191, R211, R212: a frame of an LE connection event is not sent, or ended early, with a front-end result, or the event's last frame
has been sent: the event ends. DESIGN CHOICE: a frame that a cancellation ends (11) counts as no suppressed one. -/
def State.leLost (s : State) (r : Radio) (e : Armed) (res : Nat) : State :=
  if e.resp ∧ res ≠ 1 ∧ res ≠ 11 then (s.ackSuppress r e.ctx (s.ctxRd e.ctx 0x40 4) (if res = 4 then 1 else 3)).endEv e
  else (s.ctxIdle e.ctx).endEv e

/-- R191, R192, R208: the acknowledgement of a radio ends with a front-end result; `air` µs are charged. -/
def State.ackEnd (s : State) (r : Radio) (fe air : Nat) : State :=
  let k := s.rd (L.ACK_CTX r)
  let s1 := s.when (s.on (L.ACK_BAND r)) fun s =>
    (s.dutyEnd (s.rd (L.ACK_BAND r) - 1) (s.rd (L.ACK_AIR r)) air).wr (L.ACK_BAND r) 0
  if fe = 1 then ((s1.sat R.MAC_ACK_SENT 1).ctxIdle k).ackDrop r
  else s1.ackSuppress r k (s.rd (L.ACK_CTR r)) (if fe = 4 then 1 else 3)

end Sys2Proof.Machine
end

