-- ==== Sys2Proof/Machine/Check.lean ====
section
/-!
DEFINITION. Machine/Check.lean: the four check-value units (R272 to R280): one meaning for each of their rows.
-/
namespace Sys2Proof.Machine

open Sys2Proof

/-- R272: the width of unit n, and its reflected polynomial. -/
def chkWidth (n : Nat) : Nat := [16, 24, 32, 32].getD n 32
def chkPoly (n : Nat) : Nat := [0x8408, 0xDA6000, 0xEDB88320, 0x82F63B78].getD n 0

/-- R272: the uses of unit n. -/
def chkUses (n : Nat) : List Nat := [[0, 1, 2], [3], [4], [5]].getD n []

/-- A number's low w bits in reverse order. -/
def revBits (w v : Nat) : Nat := (List.range w).foldl (fun a i => a + if bit v i then 2 ^ (w - 1 - i) else 0) 0

/-- R272: the initial value of a use, for INIT_n, and its final XOR. -/
def chkInit (use init : Nat) : Nat :=
  match use with
  | 0 => 0 | 1 => 0x6363 | 2 => 0xFFFF | 3 => revBits 24 init | _ => 0xFFFFFFFF
def chkXor (use : Nat) : Nat :=
  match use with
  | 2 => 0xFFFF | 4 | 5 => 0xFFFFFFFF | _ => 0

/-- R275: octets run through unit n's register, `count` of them added to COUNT_n. -/
def State.chkFeed (s : State) (n : Nat) (l : List Byte) (count : Nat) : State :=
  (s.wr (R.CHK_RUN n) (l.foldl (crcByte (chkPoly n)) (s.rd (R.CHK_RUN n)))).inc (R.CHK_COUNT n) count

/-- R272: RESULT_n. -/
def State.chkResult (s : State) (n : Nat) : Nat :=
  (s.rd (R.CHK_RUN n) ^^^ chkXor (s.rd (R.CHK_CFG_USE n))) % 2 ^ chkWidth n

/-- R277: STAT_n.MATCH. -/
def State.chkMatch (s : State) (n : Nat) : Bool := s.chkResult n == s.rd (R.CHK_EXPECT n) % 2 ^ chkWidth n

/-- R274: START. -/
def State.chkStart (s : State) (n : Nat) : State :=
  let s1 := s.wrs [(R.CHK_RUN n, chkInit (s.rd (R.CHK_CFG_USE n)) (s.rd (R.CHK_INIT n))), (R.CHK_COUNT n, 0)]
  if s1.on (R.CHK_CFG_FOLD_EN n) then s1.chkFeed n (leBytes 4 (s1.rd (R.CHK_FOLD n))) 0 else s1

/-- R273, R280: a write of CFG_n. -/
def State.chkCfg (s : State) (n v : Nat) : State :=
  let s1 := s.wr (R.CHK_CFG_FOLD_EN n) (bits v 8 8)
  if s.on R.CHK_CTRL_LOCK ∨ !(chkUses n).contains (v % 8) then s1 else s1.wr (R.CHK_CFG_USE n) (v % 8)

/-- R273: a write of CFG_n. -/
def execChkUseWrite (m : Master) (n : Fin 4) (v : Word) (s : State) : Out :=
  .next (s.write m (R.CHK_CFG_USE n.val) fun s => s.chkCfg n.val v.toNat)

/-- R274: a write of CMD_n. -/
def execChkStart (m : Master) (n : Fin 4) (s : State) : Out :=
  .next (s.write m (R.CHK_CMD_START n.val) fun s => s.chkStart n.val)

/-- R275: DIN_W_n takes four octets. -/
def execDinW (m : Master) (n : Fin 4) (v : Word) (s : State) : Out :=
  .next (s.write m (R.CHK_DIN_W n.val) fun s => s.chkFeed n.val (leBytes 4 v.toNat) 4)

/-- R275: DIN_H_n takes two octets. -/
def execDinH (m : Master) (n : Fin 4) (v : Word) (s : State) : Out :=
  .next (s.write m (R.CHK_DIN_H n.val) fun s => s.chkFeed n.val (leBytes 2 v.toNat) 2)

/-- R275: DIN_B_n takes one octet. -/
def execDinB (m : Master) (n : Fin 4) (v : Word) (s : State) : Out :=
  .next (s.write m (R.CHK_DIN_B n.val) fun s => s.chkFeed n.val (leBytes 1 v.toNat) 1)

/-- R278: RUN_n is written directly, in the unit's width. -/
def execChkRunWrite (m : Master) (n : Fin 4) (v : Word) (s : State) : Out :=
  .next (s.write m (R.CHK_RUN n.val) fun s => s.wr (R.CHK_RUN n.val) (v.toNat % 2 ^ chkWidth n.val))

/-- R278: COUNT_n is written directly. -/
def execChkCountWrite (m : Master) (n : Fin 4) (v : Word) (s : State) : Out :=
  .next (s.write m (R.CHK_COUNT n.val) fun s => s.wr (R.CHK_COUNT n.val) v.toNat)

end Sys2Proof.Machine
end

