-- ==== Sys2Proof/Machine/Phy.lean ====
section
/-!
DEFINITION. Machine/Phy.lean: a modem's frame as bits on air (R111, R112, R126, R127, R137), its decoding, and the
Stratus equaliser (R122 to R124), as functions of a frame's bits and symbols. PRESUMED: what R111, R126 and R127 leave to
the Bluetooth Core Specification 5.4 and to IEEE 802.15.4-2020 follows those standards.
-/
namespace Sys2Proof.Machine

open Sys2Proof

/-! ### Bits in the order of the air -/

/-- The w low bits of a number, lowest first, and the number of such bits. -/
def lsbBits (w v : Nat) : List Bool := (List.range w).map (bit v)
def bitsNat : List Bool → Nat
  | [] => 0
  | b :: t => b2n b + 2 * bitsNat t

/-- Octets as bits, and whole octets of bits. -/
def octetBits (l : List Byte) : List Bool := l.flatMap fun b => lsbBits 8 b.toNat
def bitsOctets : List Bool → List Byte
  | a :: b :: c :: d :: e :: f :: g :: h :: t => BitVec.ofNat 8 (bitsNat [a, b, c, d, e, f, g, h]) :: bitsOctets t
  | _ => []

def xorBits (a b : List Bool) : List Bool := List.zipWith bne a b

/-- A list in pairs. -/
def pairUp {α : Type} : List α → List (α × α)
  | a :: b :: t => (a, b) :: pairUp t
  | _ => []
def unpair {α : Type} (l : List (α × α)) : List α := l.flatMap fun p => [p.1, p.2]

/-- The decision on a symbol of which the demodulator gives a signed confidence. -/
def hard (y : Int) : Bool := decide (0 < y)

/-! ### Whitening and test sequences -/

/-- R126: n bits of the LE whitening sequence, from the seven positions of its register; the seed of a channel index. -/
def leWhite : Nat → List Bool → List Bool
  | n + 1, [a, b, c, d, e, f, g] => g :: leWhite n [g, a, b, c, d != g, e, f]
  | _, _ => []
def leSeed (chan : Nat) : List Bool := [true, bit chan 5, bit chan 4, bit chan 3, bit chan 2, bit chan 1, bit chan 0]

/-- n bits of a nine-bit feedback sequence, from its last nine bits, the oldest first. -/
def seq9 (tap : Nat) : Nat → List Bool → List Bool
  | 0, _ => []
  | n + 1, q =>
    let x := q.headD false != q.getD tap false
    x :: seq9 tap n (q.drop 1 ++ [x])

/-- R127: n bits of the whitening sequence PN9 of the SUN FSK clause. -/
def pn9 (n : Nat) : List Bool := seq9 5 n (List.replicate 9 true)

/-- R137: one period of PRBS9. DESIGN CHOICE: it starts with its nine ones. -/
def prbs9 : List Bool := List.replicate 9 true ++ seq9 4 502 (List.replicate 9 true)

/-! ### Convolutional codes (R126, R127) -/

/-- One step of the rate 1/2 code of constraint length 4, from the last three bits (the latest lowest): the LE code and NRNSC, or RSC. -/
def codeStep (rsc : Bool) (st : Nat) (x : Bool) : Nat × Bool × Bool :=
  let a := bit st 0
  let bc := bit st 1 != bit st 2
  let i := if rsc then x != (a != bc) else x
  ((2 * st + b2n i) % 8, if rsc then x else i != (a != bc), i != bc)

/-- The code bits of a list of bits, and the state after them. -/
def codeRun (rsc : Bool) : Nat → List Bool → List (Bool × Bool) × Nat
  | st, [] => ([], st)
  | st, x :: t =>
    let c := codeStep rsc st x
    let r := codeRun rsc c.1 t
    (c.2 :: r.1, r.2)

/-- The tail that returns the encoder to state 0. -/
def codeTail (rsc : Bool) : Nat → Nat → List Bool
  | 0, _ => []
  | n + 1, st =>
    let x := rsc && (bit st 0 != (bit st 1 != bit st 2))
    x :: codeTail rsc n (codeStep rsc st x).1

/-- Paths through the trellis: the state reached, how well the symbols agree with it, the bits, the latest first. -/
abbrev Path := Nat × Int × List Bool

/-- Of two paths the one that agrees better. DESIGN CHOICE: of equal ones the first. -/
def betterPath (p q : Path) : Path := if p.2.1 < q.2.1 then q else p
def bestPath : List Path → Option Path
  | [] => none
  | p :: t => some (t.foldl betterPath p)

/-- R126: the paths one pair of symbols later, the best one for each state. -/
def pathStep (rsc : Bool) (ps : List Path) (y : Int × Int) : List Path :=
  let next : List Path := ps.flatMap fun p => [false, true].map fun x =>
    let c := codeStep rsc p.1 x
    (c.1, p.2.1 + (if c.2.1 then y.1 else -y.1) + (if c.2.2 then y.2 else -y.2), x :: p.2.2)
  (List.range 8).filterMap fun n => bestPath (next.filter fun p => p.1 == n)

/-- R126: the soft-decision Viterbi decoder; a terminated block ends in state 0. -/
def viterbi (rsc : Bool) (ys : List (Int × Int)) (ended : Bool) : List Bool :=
  let ps := ys.foldl (pathStep rsc) [(0, 0, [])]
  match bestPath (if ended then ps.filter fun p => p.1 == 0 else ps) with
  | some p => p.2.2.reverse
  | none => []

/-- R128: the hard-decided code bits that differ from the re-encoded decoder output. -/
def codeErrs (rsc : Bool) (bits : List Bool) (ys : List (Int × Int)) : Nat :=
  ((List.zip (unpair (codeRun rsc 0 bits).1) (unpair ys)).filter fun p => p.1 != hard p.2).length

/-- R126: the pattern mapping of S = 8 (of S = 2 there is none), and the confidence of a mapped bit. -/
def patMap (s8 : Bool) (l : List Bool) : List Bool := if s8 then l.flatMap fun b => [b, b, !b, !b] else l
def patFold : List Int → List Int
  | a :: b :: c :: d :: t => (a + b - c - d) :: patFold t
  | _ => []
def patSoft (s8 : Bool) (l : List Int) : List Int := if s8 then patFold l else l

/-- R127: code bit pairs interleaved in blocks of sixteen; the interleaving is its own inverse. -/
def interleave {α : Type} (l : List α) : List α :=
  (List.range (l.length / 16)).flatMap fun i => (List.range 16).filterMap fun k => (l.drop (16 * i))[15 - 4 * (k % 4) - k / 4]?

/-! ### Check fields (R112) -/

/-- A check value of a use of R272 over octets. -/
def checkOf (unit use init : Nat) (l : List Byte) : Nat := (l.foldl (crcByte (chkPoly unit)) (chkInit use init)) ^^^ chkXor use

/-- The 4-octet FCS of fewer than four octets is computed over them with zeros added. -/
def fcs32 (l : List Byte) : List Byte := leBytes 4 (checkOf 2 4 0 (if l.length < 4 then fit 0 4 l else l))
def fcs16 (l : List Byte) : List Byte := leBytes 2 (checkOf 0 0 0 l)
def crc24 (init : Nat) (l : List Byte) : List Byte := leBytes 3 (checkOf 1 3 init l)

/-- R112: the check field of a frame's octets, by the radio's mode; `short` picks the 2-octet FCS. -/
def State.checkField (s : State) (r : Radio) (short : Bool) (l : List Byte) : List Byte :=
  match r with
  | .cirrus => if s.ap r (R.MDM_MODE_PHY r) = 4 then fcs16 l else crc24 (s.ap r (R.MDM_CRC_INIT r)) l
  | .stratus => if short then fcs16 l else fcs32 l

/-! ### The frame on air (R111, R137) -/

/-- R111: the synchronisation field of a Stratus mode, coded or uncoded. -/
def sfdBits (phy sel : Nat) (coded : Bool) : List Bool :=
  let msb (v : Nat) : List Bool := (lsbBits 16 v).reverse
  if phy = 5 then lsbBits 32 (if coded then 0xE14B2695 else 0x1EB4D96A)
  else if sel = 0 then msb (if coded then 0x6F4E else 0x904E) else msb (if coded then 0x632D else 0x7A0E)

/-- R111: the preamble of n octets of an access address, whose first bit is the address's first. -/
def lePreamble (n aa : Nat) : List Bool := (List.range (8 * n)).map fun i => bit aa 0 == decide (i % 2 = 0)

/-- R126: the first FEC block of a coded LE frame: access address, coding indicator and TERM1, at S = 8. -/
def leBlock1 (aa : Nat) (s2 : Bool) : List Bool :=
  patMap true (unpair (codeRun false 0 (lsbBits 32 aa ++ [s2, false] ++ [false, false, false])).1)

/-- The preamble and the synchronisation field that a radio's settings in force give; a coded LE frame's goes up to TERM1. -/
def State.airSync (s : State) (r : Radio) : List Bool :=
  let phy := s.ap r (R.MDM_MODE_PHY r)
  match r with
  | .stratus =>
    let pre := s.ap r (R.MDM_SUN_PRE_LEN r)
    octetBits (List.replicate (if phy = 5 then max 8 pre else pre) 0x55#8) ++
      sfdBits phy (s.ap r (R.MDM_SYNC_CFG_SFD_SEL r)) (s.ap r (R.MDM_SUN_FEC_TX r) == 1)
  | .cirrus =>
    let aa := s.ap r (R.MDM_SYNC_AA r)
    if phy ≤ 1 then lePreamble (phy + 1) aa ++ lsbBits 32 aa
    else if phy ≤ 3 then (List.replicate 10 (lsbBits 8 0x3C)).flatten ++ leBlock1 aa (phy == 2)
    else octetBits (List.replicate 4 0x00#8 ++ [0xA7#8])

/-- R111, R127: a SUN PHY header: MS, two reserved bits, FCS type, DW, and the length, highest bit first. -/
def sunHeader (short dw : Bool) (n : Nat) : List Bool := [false, false, false, short, dw] ++ (lsbBits 11 n).reverse

/-- R127: the pad that fills a coded frame up to whole blocks of the interleaver, for an even or odd PSDU length. -/
def sunPad (n : Nat) : List Bool :=
  if n % 2 = 0 then [false, true, false, true, true, false, false, false, false, true, false, true, true] else [false, true, false, true, true]

/-- R111, R112, R126, R127: what follows on air: the PHY header, the octets, and the check field, coded and whitened. -/
def State.airBody (s : State) (r : Radio) (l : List Byte) : List Bool :=
  let phy := s.ap r (R.MDM_MODE_PHY r)
  match r with
  | .cirrus =>
    let all := octetBits (l ++ s.checkField r true l)
    if phy = 4 then lsbBits 8 (l.length + 2) ++ all
    else
      let w := if s.ap r (R.MDM_WHITE_EN r) = 1 then xorBits all (leWhite all.length (leSeed (s.ap r (R.MDM_WHITE_CHAN r)))) else all
      if phy ≤ 1 then w else patMap (phy == 3) (unpair (codeRun false 0 (w ++ [false, false, false])).1)
  | .stratus =>
    let short := s.ap r (R.MDM_SUN_FCS_TX r) == 1
    let dw := s.ap r (R.MDM_SUN_DW_TX r) == 1
    let psdu := l ++ s.checkField r short l
    let bits := sunHeader short dw psdu.length ++ octetBits psdu
    let rsc := s.ap r (R.MDM_SUN_FEC_SCHEME r) == 1
    let c := codeRun rsc 0 bits
    let tail := codeTail rsc 3 c.2
    let pairs := c.1 ++ (codeRun rsc c.2 (tail ++ sunPad psdu.length)).1
    let out :=
      if s.ap r (R.MDM_SUN_FEC_TX r) = 1 then unpair (if !rsc || s.ap r (R.MDM_SUN_INTERLEAVE r) == 1 then interleave pairs else pairs)
      else bits
    let h := if s.ap r (R.MDM_SUN_FEC_TX r) = 1 then 32 else 16
    if dw then out.take h ++ xorBits (out.drop h) (pn9 (out.length - h)) else out

/-- R137: the symbols that precede a test pattern, and one period of the pattern, which goes on until ABORT or OFF. -/
def State.testSymbols (s : State) (r : Radio) : List Bool × List Bool :=
  match s.ap r (R.MDM_MODE_TEST r) with
  | 1 => (s.airSync r, prbs9)
  | 2 => ([], [false, true])
  | _ => ([], [])

/-! ### Synchronisation (R115) -/

/-- How many of two lists' bits differ. -/
def bitErrs (a b : List Bool) : Nat := ((xorBits a b).filter id).length

/-- R111, R115: whether the symbols end with the synchronisation field, and for Stratus which one: the coded SFD where it has fewer
errors. -/
def State.syncHit (s : State) (r : Radio) (ys : List Int) : Option Bool :=
  let phy := s.ap r (R.MDM_MODE_PHY r)
  let most := s.ap r (R.MDM_SYNC_CFG_ERR_MAX r)
  let last (n : Nat) : List Bool := (ys.drop (ys.length - n)).map hard
  match r with
  | .stratus =>
    let errs (coded : Bool) : Nat :=
      let f := sfdBits phy (s.ap r (R.MDM_SYNC_CFG_SFD_SEL r)) coded
      if ys.length < f.length then 33 else bitErrs (last f.length) f
    if errs true < errs false then (if errs true ≤ most then some true else none)
    else if errs false ≤ most then some false else none
  | .cirrus =>
    let aa := lsbBits 32 (s.ap r (R.MDM_SYNC_AA r))
    if phy ≤ 1 then (if 32 ≤ ys.length ∧ bitErrs (last 32) aa ≤ most then some false else none)
    else if phy ≤ 3 then
      if 256 ≤ ys.length ∧ bitErrs (viterbi false (pairUp (patFold (ys.drop (ys.length - 256)))) false) aa ≤ most then some true else none
    else if 8 ≤ ys.length ∧ last 8 = lsbBits 8 0xA7 then some false else none

/-! ### Decoding (R113, R126 to R128) -/

/-- R126: the coding indicator of a coded LE frame: S = 2. -/
def leCi (ys : List Int) : Bool := (viterbi false (pairUp (patFold (ys.take 296))) true).getD 32 false

/-- R113, R126, R127: the bits from the PHY header (of LE: the PDU) on that the symbols after the synchronisation field give, as far as
they go, and the code bits in error; a coded LE frame's symbols start with its access address. `ended` tells of a whole frame. -/
def State.decode (s : State) (r : Radio) (coded : Bool) (ys : List Int) (ended : Bool) : List Bool × Nat :=
  let phy := s.ap r (R.MDM_MODE_PHY r)
  match r with
  | .cirrus =>
    let white (b : List Bool) : List Bool :=
      if s.ap r (R.MDM_WHITE_EN r) = 1 then xorBits b (leWhite b.length (leSeed (s.ap r (R.MDM_WHITE_CHAN r)))) else b
    if phy = 4 then (ys.map hard, 0)
    else if phy ≤ 1 then (white (ys.map hard), 0)
    else
      let y1 := pairUp (patFold (ys.take 296))
      let y2 := pairUp (patSoft (!leCi ys) (ys.drop 296))
      let b2 := viterbi false y2 ended
      (white b2, codeErrs false (viterbi false y1 (decide (296 ≤ ys.length))) y1 + codeErrs false b2 y2)
  | .stratus =>
    let rsc := s.ap r (R.MDM_SUN_FEC_SCHEME r) == 1
    let mix (l : List (Int × Int)) : List (Int × Int) := if !rsc || s.ap r (R.MDM_SUN_INTERLEAVE r) == 1 then interleave l else l
    if coded then
      let dw := (viterbi rsc (mix (pairUp (ys.take 32))) false).getD 4 false
      let clear := if dw then ys.take 32 ++ List.zipWith (fun y w => if w then -y else y) (ys.drop 32) (pn9 (ys.length - 32)) else ys
      let l := mix (pairUp clear)
      let b := viterbi rsc l false
      (b, codeErrs rsc b l)
    else
      let b := ys.map hard
      (if b.getD 4 false then b.take 16 ++ xorBits (b.drop 16) (pn9 (b.length - 16)) else b, 0)

/-- R111, R113: a decoded header: MS, FCS type, DW, declared length. -/
structure Header where
  ms    : Bool
  short : Bool
  dw    : Bool
  len   : Nat
  deriving DecidableEq, Repr

/-- The symbols a header needs, counted as `decode` counts them. -/
def State.headerNeed (s : State) (r : Radio) (coded : Bool) (ys : List Int) : Nat :=
  let phy := s.ap r (R.MDM_MODE_PHY r)
  match r with
  | .stratus => if coded then 32 else 16
  | .cirrus => if phy = 4 then 8 else if phy ≤ 1 then 16 else if ys.length < 296 then 296 + 32 else 296 + (if leCi ys then 32 else 128)

/-- R113: the header that a frame's first bits spell. -/
def State.headerOf (s : State) (r : Radio) (b : List Bool) : Header :=
  match r with
  | .stratus => ⟨b.getD 0 false, b.getD 3 false, b.getD 4 false, bitsNat ((b.drop 5).take 11).reverse⟩
  | .cirrus => ⟨false, false, false, if s.ap r (R.MDM_MODE_PHY r) = 4 then bitsNat (b.take 7) else bitsNat ((b.drop 8).take 8)⟩

/-- R111: the bits before a frame's octets, the octets the link controller or RXFIFO receives, and the octets of the check field. -/
def State.frameParts (s : State) (r : Radio) (short : Bool) (len : Nat) : Nat × Nat × Nat :=
  match r with
  | .stratus => let f := if short then 2 else 4; (16, len - f, f)
  | .cirrus => if s.ap r (R.MDM_MODE_PHY r) = 4 then (8, len - 2, 2) else (0, len + 2, 3)

/-- The symbols a whole frame needs. -/
def State.frameNeed (s : State) (r : Radio) (coded short : Bool) (len : Nat) (ci : Bool) : Nat :=
  let p := s.frameParts r short len
  let n := p.1 + 8 * (p.2.1 + p.2.2)
  match r with
  | .stratus => if coded then 2 * (n + 3 + (sunPad len).length) else n
  | .cirrus => if coded then 296 + (n + 3) * (if ci then 2 else 8) else n

/-- R112, R113: a whole frame's octets, and whether its check field is correct. -/
def State.frameOctets (s : State) (r : Radio) (short : Bool) (len : Nat) (b : List Bool) : List Byte × Bool :=
  let p := s.frameParts r short len
  let l := bitsOctets ((b.drop p.1).take (8 * p.2.1))
  (l, (bitsOctets ((b.drop (p.1 + 8 * p.2.1)).take (8 * p.2.2))) == s.checkField r short l)

/-! ### The equaliser (R122 to R124) -/

/-- R122: the equaliser: its twelve coefficients, the last eight samples and the last four decisions (newest first), the last sixteen
errors, and the symbols adapted so far. -/
structure Equaliser where
  coef : List Int
  x    : List Int
  dec  : List Int
  err  : List Int
  count : Nat
  deriving DecidableEq, Repr

/-- R122: the start: FF_c 512 and every other coefficient 0, or the coefficients given. -/
def Equaliser.start (coef : List Int) : Equaliser := ⟨coef, List.replicate 8 0, List.replicate 4 0, [], 0⟩
def eqUnit (c : Nat) : List Int := (List.range 12).map fun k => if k = c then 512 else 0

def dot (a b : List Int) : Int := (List.zipWith (· * ·) a b).foldl (· + ·) 0

/-- R122: the output for two new samples; coefficients weigh 1/512. -/
def Equaliser.out (q : Equaliser) : Int := (dot (q.coef.take 8) q.x - dot (q.coef.drop 8) q.dec) / 512

/-- Two new samples, the second the newest. -/
def Equaliser.take (q : Equaliser) (a b : Int) : Equaliser := { q with x := (b :: a :: q.x).take 8 }

/-- R122: one adaptation towards a reference, with step 2^-mu. -/
def Equaliser.adapt (q : Equaliser) (ref : Int) (mu : Nat) : Equaliser :=
  let e := ref - q.out
  let ff := List.zipWith (fun c x => clampS 12 (c + e * x / (2 ^ mu : Nat))) (q.coef.take 8) q.x
  let fb := List.zipWith (fun c d => clampS 12 (c - e * d / (2 ^ mu : Nat))) (q.coef.drop 8) q.dec
  { q with coef := ff ++ fb, dec := (ref :: q.dec).take 4, err := (e * e :: q.err).take 16, count := q.count + 1 }

/-- R124: the mean squared error over the last sixteen symbols, where 256 is the power of the decisions. DEDUCED: of fewer symbols,
the mean over those there are. -/
def Equaliser.mse (q : Equaliser) (dev : Int) : Nat := min 255 ((256 * q.err.foldl (· + ·) 0) / ((q.err.length : Int) * (dev * dev))).toNat

/-- R122, R123: training over sample pairs: the preamble alternates. DEDUCED: from the decision on the first symbol. -/
def Equaliser.train (dev : Int) (cur mu : Nat) : List (Int × Int) → Equaliser → Equaliser
  | [], q => q
  | p :: t, q =>
    let q1 := q.take p.1 p.2
    let ref := if q.count = 0 then (if hard (q1.x.getD cur 0) then dev else -dev) else -(q.dec.headD 0)
    Equaliser.train dev cur mu t (q1.adapt ref mu)

/-- R122, R123: decision-directed symbols: each output, at the training step until `least` symbols have been adapted. -/
def Equaliser.track (dev : Int) (muTrain muTrack least : Nat) : List (Int × Int) → Equaliser → List Int × Equaliser
  | [], q => ([], q)
  | p :: t, q =>
    let q1 := q.take p.1 p.2
    let y := q1.out
    let r := Equaliser.track dev muTrain muTrack least t (q1.adapt (if hard y then dev else -dev) (if q.count < least then muTrain else muTrack))
    (y :: r.1, r.2)

/-- R124: a bypassed equaliser passes the cursor sample alone. -/
def Equaliser.pass (cur : Nat) : List (Int × Int) → Equaliser → List Int × Equaliser
  | [], q => ([], q)
  | p :: t, q =>
    let q1 := q.take p.1 p.2
    let r := Equaliser.pass cur t q1
    (q1.x.getD cur 0 :: r.1, r.2)

end Sys2Proof.Machine
end

