-- ==== Sys2Proof/Machine/RadioOps.lean ====
section
/-!
DEFINITION. Machine/RadioOps.lean: the radio state machine shared by both radios (R73 to R87), and the modem's frame and
report (R114 to R117, R135, R136).
-/
namespace Sys2Proof.Machine

open Sys2Proof

namespace L

/-- R74: the target of the transition in progress: 0 none, 1 IDLE, 2 RX, 3 TX; its start time; whether the
radio is ready for it; whether the start time has passed; the receiver reopens with no start time (R79);
TX_SETTLE waits for a TX command (R79); the result a truncated transmission ends with, and whether it ends in OFF. -/
def RA_TGT (r : Radio) : Fld := latch (feBlk r) 0 3 .w 0
def RA_START (r : Radio) : Fld := latch (feBlk r) 1 64 .w 0
def RA_RDY (r : Radio) : Fld := latch (feBlk r) 2 1 .w 0
def RA_DUE (r : Radio) : Fld := latch (feBlk r) 3 1 .w 0
def RA_REOPEN (r : Radio) : Fld := latch (feBlk r) 4 1 .w 0
def RA_WAIT (r : Radio) : Fld := latch (feBlk r) 5 1 .w 0
def RA_CUT (r : Radio) : Fld := latch (feBlk r) 6 4 .w 0
def RA_OFF (r : Radio) : Fld := latch (feBlk r) 7 1 .w 0
/-- R83, R94: of the command in force: MAX_DBM of its duty band (signed), its event class, and whom its outcome
is told: 0 none, a handle plus one, or 17 an acknowledgement. -/
def RA_MAX (r : Radio) : Fld := latch (feBlk r) 8 8 .w 127
def RA_CLS (r : Radio) : Fld := latch (feBlk r) 9 3 .w 0
def RA_EV (r : Radio) : Fld := latch (feBlk r) 10 5 .w 0
/-- R71: the domain has been IDLE since it was powered. -/
def RA_SEEN (r : Radio) : Fld := latch (feBlk r) 11 1 .w 0
/-- R78: ABORT was accepted in RAMP_DOWN: the radio goes to IDLE. -/
def RA_IDLE (r : Radio) : Fld := latch (feBlk r) 20 1 .w 0
/-- R110, R117: IDLE was accepted during a frame, at whose end its settings come into force. -/
def RX_IDLE (r : Radio) : Fld := latch (feBlk r) 21 1 .w 0
/-- R78: the pending command: its operation (0 none), start time, class, band limit and outcome target, and
whether its start time has passed; R80: whether CMD.OP gave it, whose start time its acceptance sets: 1 so, 2 an RX command that
came before the end of a transmission. -/
def P_OP (r : Radio) : Fld := latch (feBlk r) 12 3 .w 0
def P_START (r : Radio) : Fld := latch (feBlk r) 13 64 .w 0
def P_CLS (r : Radio) : Fld := latch (feBlk r) 14 3 .w 0
def P_MAX (r : Radio) : Fld := latch (feBlk r) 15 8 .w 127
def P_EV (r : Radio) : Fld := latch (feBlk r) 16 5 .w 0
def P_DUE (r : Radio) : Fld := latch (feBlk r) 17 1 .w 0
def P_DIRECT (r : Radio) : Fld := latch (feBlk r) 22 2 .w 0
/-- R117: the window was closed while a frame was detected or in progress. -/
def RX_CLOSE (r : Radio) : Fld := latch (feBlk r) 18 1 .w 0
/-- R95, R96: the grant sampled for the command in force allows it. -/
def CX_OK (r : Radio) : Fld := latch 9 (20 + r.idx) 1 .w 0
/-- R71: EV_RFCAL_DONE, from the end of a calibration to the start of the next. -/
def RFCAL : Fld := latch 9 22 1 .w 0
/-- R114, R115: the modem's frame: 0 none, 1 detected, 2 synchronised, 3 header decoded. -/
def MF_ST (r : Radio) : Fld := latch (mdmBlk r) 0 2 .w 0
/-- R135: what the report of the frame in progress will carry. -/
def MF_LEN (r : Radio) : Fld := latch (mdmBlk r) 1 11 .w 0
def MF_CI (r : Radio) : Fld := latch (mdmBlk r) 2 1 .w 0
def MF_CODED (r : Radio) : Fld := latch (mdmBlk r) 3 1 .w 0
def MF_DW (r : Radio) : Fld := latch (mdmBlk r) 4 1 .w 0
def MF_FCS16 (r : Radio) : Fld := latch (mdmBlk r) 5 1 .w 0
def MF_TS (r : Radio) : Fld := latch (mdmBlk r) 6 64 .w 0
def MF_RSSI (r : Radio) : Fld := latch (mdmBlk r) 7 8 .w 0
def MF_LQI (r : Radio) : Fld := latch (mdmBlk r) 8 8 .w 0
def MF_AGC (r : Radio) : Fld := latch (mdmBlk r) 9 5 .w 0
def MF_CFO (r : Radio) : Fld := latch (mdmBlk r) 10 16 .w 0
/-- R124: the error at the moment of bypass, and whether the equaliser was bypassed. -/
def MF_MSE (r : Radio) : Fld := latch (mdmBlk r) 11 8 .w 0
def MF_BYP (r : Radio) : Fld := latch (mdmBlk r) 12 1 .w 0
/-- R136: the LAST registers are latched. -/
def LAST_LATCH (r : Radio) : Fld := latch (mdmBlk r) 13 1 .w 0
/-- R134: a clear-channel measurement runs, and a preamble was detected in it. -/
def CCA_ON (r : Radio) : Fld := latch (mdmBlk r) 14 1 .w 0
def CCA_PD (r : Radio) : Fld := latch (mdmBlk r) 15 1 .w 0
/-- R137: the octets of a direct-mode transmission still to be taken from TXFIFO. -/
def TX_LEFT (r : Radio) : Fld := latch (mdmBlk r) 16 11 .w 0
/-- R137, R139: the octets in TXFIFO and in RXFIFO. -/
def TXQ (r : Radio) : Fld := latch (mdmBlk r) 17 8 .w 0
def RXQ (r : Radio) : Fld := latch (mdmBlk r) 18 8 .w 0
/-- R126, R127: the symbols of the frame in progress, from the sync match on (of a coded LE frame from its access address on), each
a signed confidence; and the octets that have entered RXFIFO (R139). -/
def RX_SYM (r : Radio) : Fld := latch (mdmBlk r) 19 16 .w 0
def RX_PUT (r : Radio) : Fld := latch (mdmBlk r) 20 12 .w 0
/-- R122: the equaliser's coefficients, samples, decisions, squared errors and symbols; and the coefficients with which the last
equalised frame ended. -/
def EQ_C (r : Radio) : Fld := latch (mdmBlk r) 21 12 .w 0
def EQ_X (r : Radio) : Fld := latch (mdmBlk r) 22 16 .w 0
def EQ_D (r : Radio) : Fld := latch (mdmBlk r) 23 64 .w 0
def EQ_E (r : Radio) : Fld := latch (mdmBlk r) 24 64 .w 0
def EQ_N (r : Radio) : Fld := latch (mdmBlk r) 25 16 .w 0
def EQ_LAST (r : Radio) : Fld := latch (mdmBlk r) 26 12 .w 0
/-- R111, R137: the octets of the transmission in progress; its symbols, once its last bit has left, or those before a test pattern; one
period of the pattern. -/
def TX_OCT (r : Radio) : Fld := latch (mdmBlk r) 27 8 .w 0
def AIR (r : Radio) : Fld := latch (mdmBlk r) 28 1 .w 0
def TX_PAT (r : Radio) : Fld := latch (mdmBlk r) 29 1 .w 0
/-- R111: the octets of the last complete frame that the link controller received. -/
def RX_OCT (r : Radio) : Fld := latch (mdmBlk r) 30 8 .w 0
/-- R111, R184: the chain and the octets of the frame that the engine has the radio send; 2 octets of an LE connection are an empty PDU. -/
def TX_BUF (r : Radio) : Fld := latch 12 (64 + r.idx) 12 .w 0
def TX_N (r : Radio) : Fld := latch 12 (66 + r.idx) 12 .w 0

end L

/-! ### The modem's frame and report -/

/-- R136: the held copy of a LAST register's field. -/
def heldCopy (f : Fld) : Fld := { f with off := f.off + 7168, acc := .ro }

/-- The fields a report fills, the equaliser's coefficients apart. -/
def lastFields (r : Radio) : List Fld :=
  [R.MDM_LAST_STAT_RESULT r, R.MDM_LAST_STAT_PHY r, R.MDM_LAST_STAT_CI r, R.MDM_LAST_STAT_CODED r, R.MDM_LAST_STAT_DW r,
   R.MDM_LAST_STAT_FCS16 r, R.MDM_LAST_STAT_LEN r, R.MDM_LAST_TS_LO r, R.MDM_LAST_TS_HI r, R.MDM_LAST_Q_RSSI r,
   R.MDM_LAST_Q_LQI r, R.MDM_LAST_Q_AGC_IDX r, R.MDM_LAST_Q_FEC_ERR r, R.MDM_LAST_CFO_CFO r]

/-- R136: every field that the latch holds. -/
def lastAll (r : Radio) : List Fld := lastFields r ++ [R.MDM_LAST_CFO_EQ_MSE r] ++ (List.range 12).map (R.MDM_EQ_COEF_VALUE r)

/-- R135, R136: fields of the LAST registers written, or held while the latch holds: the held report takes the place of one held
before, and leaves the fields that it does not carry as the registers have them. -/
def State.lastPut (s : State) (r : Radio) (l : List (Fld × Nat)) : State :=
  if s.on (L.LAST_LATCH r) then
    ((s.each (lastAll r) fun f s => s.wr (heldCopy f) (s.rd f)).wrs (l.map fun p => (heldCopy p.1, p.2))).wr (R.MDM_LAST_STAT_HELD r) 1
  else s.wrs l

/-! ### The equaliser and the symbols of a frame (R121 to R128) -/

/-- R121: whether the equaliser is in use. -/
def State.eqUsed (s : State) (r : Radio) : Bool :=
  let phy := s.ap r (R.MDM_MODE_PHY r)
  let mode := s.ap r (R.MDM_EQ_MODE r)
  r == .stratus && ((mode == 1 && decide (2 ≤ phy)) || (mode == 2 && decide (4 ≤ phy)))

/-- R122: the discriminator output of the mode's deviation. -/
def State.dev (s : State) (r : Radio) : Int := Config.deviation (s.ap r (R.MDM_MODE_PHY r)) (s.ap r (R.MDM_MODE_H r))

/-- The equaliser as the state holds it. -/
def State.eq (s : State) (r : Radio) : Equaliser :=
  ⟨(s.ff (L.EQ_C r)).map (sx 12), (s.ff (L.EQ_X r)).map (sx 16), (s.ff (L.EQ_D r)).map (sx 64), (s.ff (L.EQ_E r)).map Int.ofNat, s.rd (L.EQ_N r)⟩
def State.setEq (s : State) (r : Radio) (q : Equaliser) : State :=
  ((((s.setFf (L.EQ_C r) (q.coef.map (ux 12))).setFf (L.EQ_X r) (q.x.map (ux 16))).setFf (L.EQ_D r) (q.dec.map (ux 64))).setFf (L.EQ_E r)
    (q.err.map Int.toNat)).wr (L.EQ_N r) q.count

/-- R122: the equaliser at the start of a frame, and as it is without one. -/
def State.eqStart (s : State) (r : Radio) (again : Bool) : State :=
  let last := (s.ff (L.EQ_LAST r)).map (sx 12)
  s.setEq r (Equaliser.start (if again && s.ap r (R.MDM_EQ_INIT r) == 1 && !last.isEmpty then last else eqUnit (s.ap r (R.MDM_EQ_CURSOR r))))

/-- R122 to R124: the symbols that samples give: of Cirrus a confidence each; of Stratus one for two discriminator samples, through the
equaliser. -/
def State.symbols (s : State) (r : Radio) (smp : List Sample) : List Int × State :=
  match r with
  | .cirrus => (smp.map BitVec.toInt, s)
  | .stratus =>
    let l := pairUp (smp.map BitVec.toInt)
    let o :=
      if s.eqUsed r && !s.on (L.MF_BYP r) then
        Equaliser.track (s.dev r) (s.ap r (R.MDM_EQ_MU_TRAIN r)) (s.ap r (R.MDM_EQ_MU_TRACK r)) (s.ap r (R.MDM_EQ_MIN_TRAIN r)) l (s.eq r)
      else Equaliser.pass (s.ap r (R.MDM_EQ_CURSOR r)) l (s.eq r)
    (o.1, s.setEq r o.2)

/-- The symbols of the frame in progress. -/
def State.rxSym (s : State) (r : Radio) : List Int := (s.ff (L.RX_SYM r)).map (sx 16)

/-- The state with more symbols of the frame in progress. -/
def State.addSym (s : State) (r : Radio) (smp : List Sample) : State :=
  let o := s.symbols r smp
  o.2.setFf (L.RX_SYM r) (o.2.ff (L.RX_SYM r) ++ o.1.map fun y => ux 16 (clampS 16 y))

/-- R126, R127: whether the frame in progress is coded. -/
def State.rxCoded (s : State) (r : Radio) : Bool :=
  match r with
  | .stratus => s.on (L.MF_CODED r)
  | .cirrus => s.ap r (R.MDM_MODE_PHY r) == 2 || s.ap r (R.MDM_MODE_PHY r) == 3

/-- R128: FEC_ERR of the frame in progress, over the symbols received. -/
def State.fecErr (s : State) (r : Radio) (ended : Bool) : Nat :=
  if s.rxCoded r then min 255 (s.decode r true (s.rxSym r) ended).2 else 0

/-- R121, R124, R135: what a report says of the equaliser: its error now or at its bypass, and its coefficients. DESIGN CHOICE: of a
bypassed frame EQ_COEF_n keep their values. -/
def State.eqLast (s : State) (r : Radio) : List (Fld × Nat) :=
  if !s.eqUsed r then []
  else if s.on (L.MF_BYP r) then [(R.MDM_LAST_CFO_EQ_MSE r, s.rd (L.MF_MSE r))]
  else (R.MDM_LAST_CFO_EQ_MSE r, (s.eq r).mse (s.dev r)) :: (List.range 12).map fun n => (R.MDM_EQ_COEF_VALUE r n, (s.ff (L.EQ_C r)).getD n 0)

/-- R135: the receive report of the frame in progress: the LAST registers, EVT.RX_DONE and the counts. -/
def State.mdmReport (s : State) (r : Radio) (result : Nat) : State :=
  let vals := [result, s.ap r (R.MDM_MODE_PHY r), s.rd (L.MF_CI r), s.rd (L.MF_CODED r), s.rd (L.MF_DW r), s.rd (L.MF_FCS16 r),
    s.rd (L.MF_LEN r), s.rd (L.MF_TS r) % 2 ^ 32, s.rd (L.MF_TS r) / 2 ^ 32, s.rd (L.MF_RSSI r), s.rd (L.MF_LQI r),
    s.rd (L.MF_AGC r), s.fecErr r (decide (result ≤ 2)), s.rd (L.MF_CFO r)]
  let s0 := s.when (s.eqUsed r && !s.on (L.MF_BYP r)) fun s => s.setFf (L.EQ_LAST r) (s.ff (L.EQ_C r))
  let s1 := (s0.lastPut r ((lastFields r).zip vals ++ s.eqLast r)).wr (R.MDM_EVT_RX_DONE r) 1
  if result = 1 then s1.sat (R.MDM_CNT_OK r) 1
  else if result = 2 then s1.sat (R.MDM_CNT_CRC r) 1
  else if 3 ≤ result ∧ result ≤ 5 then s1.sat (R.MDM_CNT_PHR r) 1
  else s1

/-- R116, R119: the detector re-arms and the AGC resumes. -/
def State.mdmRearm (s : State) (r : Radio) : State :=
  s.wrs [(L.MF_ST r, 0), (R.MDM_STAT_IN_FRAME r, 0), (R.MDM_STAT_FROZEN r, 0), (L.MF_BYP r, 0)]

/-- R117: a frame in progress ended before its last bit: report TRUNCATED, and the link controller's frame
ends with its check failed. DESIGN CHOICE: what a header not yet decoded would tell (LEN, DW, FCS16, CI) reads 0. -/
def State.mdmTruncate (s : State) (r : Radio) : State :=
  let s1 := if 2 ≤ s.rd (L.MF_ST r) then s.mdmReport r 6 else s
  let s2 := s1.when (s1.rd (L.RX_ST r) == 1 || s1.rd (L.RX_ST r) == 2) fun s =>
    s.wrs [(L.RX_ST r, 3), (L.RX_CRC r, 0), (L.RX_LOCKSTEP r, s.rd (L.RX_LOCKSTEP r) ||| s.rd L.LS_HOLD), (L.RX_RSSI r, s.rd (L.MF_RSSI r)),
      (L.RX_LQI r, s.rd (L.MF_LQI r))]
  (s2.mdmRearm r).wr (L.RX_CLOSE r) 0

/-- R150, R491: a frame that gets no verdict: its reservations return and nothing is committed. -/
def State.dropFrame (s : State) (r : Radio) : State :=
  ((s.handBufs (s.ff (L.RX_BUFS r)) (ownRx r) ownFree).evqRelease.setFf (L.RX_BUFS r) []).wrs
    [(L.RX_ST r, 0), (L.RX_CTX r, 0), (L.RX_IDED r, 0), (L.RX_KEYST r, 0), (L.RX_KEY r, 0), (L.RX_EV r, 0), (L.RX_LOCKSTEP r, 0),
     (L.RX_FAULT r, 0)]

/-! ### Radio states (R73) -/

def State.rst (s : State) (r : Radio) : Nat := s.rd (R.FE_STAT_STATE r)

/-- R111, R184: the engine names the frame that a radio sends: a chain of buffers and its octets. -/
def State.txFrame (s : State) (r : Radio) (b n : Nat) : State := s.wrs [(L.TX_BUF r, b), (L.TX_N r, n)]

/-- R78: whether a command that arrives now becomes pending. -/
def State.radioBusy (s : State) (r : Radio) : Bool :=
  s.on (L.RA_TGT r) || s.rst r == 2 || s.rst r == 6 || s.rst r == 7

/-- A radio in a state of rest, no transition in progress. R89: in OFF its pins are 0; the transmit pins stay through RAMP_DOWN up to
TXEN_LAG after it, and SFEM_PAEN stays where the radio waits for a TX command. -/
def State.radioRest (s : State) (r : Radio) (st : Nat) : State :=
  let s1 := (s.rxPinsOff r).when (s.rst r != 7 && st != 5) fun s => s.txPinsOff r
  let s2 := s1.wrs [(R.FE_STAT_STATE r, st), (L.RA_TGT r, 0), (L.RA_RDY r, 0), (L.RA_DUE r, 0), (L.RA_REOPEN r, 0),
    (L.RA_WAIT r, 0), (L.RA_CUT r, 0), (L.RA_OFF r, 0), (L.RA_IDLE r, 0), (L.RX_IDLE r, 0), (R.FE_STAT_SYN_LOCK r, 0)]
  s2.when (st == 0) fun s => s.pinsOff r

/-- R93, R117: a command that leaves an open window ends a frame in progress at once; HOLD runs from the window's close. -/
def State.leaveRx (s : State) (r : Radio) : State :=
  s.when (s.rst r == 4) fun s => ((s.mdmTruncate r).wr (L.RX_IDLE r) 0).coexEnd r

/-- R74, R68: an RX command accepted: the settings come into force and the radio settles. -/
def State.acceptRx (s : State) (r : Radio) (start cls ev : Nat) : State :=
  let s1 := (s.leaveRx r).applySettings r
  let s2 := ((s1.rxPinsOff r).when (s1.rst r == 5) fun s => s.txPinsOff r).when (s1.rst r == 1) fun s => s.bandPin r
  let s3 := s2.wrs [(L.RA_TGT r, 2), (L.RA_START r, start), (L.RA_RDY r, 0), (L.RA_DUE r, 0), (L.RA_REOPEN r, 0), (L.RA_WAIT r, 0),
    (L.RA_CLS r, cls), (L.RA_EV r, ev), (L.RX_CLOSE r, 0), (L.CX_OK r, 0), (R.MDM_FIFO_STAT_RX_LEVEL r, 0)]
  let s4 := (s3.setFf (L.RXQ r) []).when (s3.rst r != 0) fun s => s.wr (R.FE_STAT_STATE r) 3
  s4.when (r == .cirrus && (s4.ap r (R.FE_CHAN_IF_SEL r) != (if s4.ap r (R.MDM_MODE_PHY r) == 1 || s4.ap r (R.MDM_MODE_PHY r) == 4 then 1 else 0)))
    fun s => s.wr (R.MDM_EVT_IF_MISMATCH r) 1

/-- R79: the receiver reopens on the same channel, or the radio waits for a TX command, or returns to IDLE. -/
def State.reopenRx (s : State) (r : Radio) : State :=
  (s.radioRest r 3).wrs [(L.RA_TGT r, 2), (L.RA_REOPEN r, 1)]
def State.rxEndState (s : State) (r : Radio) : State :=
  match s.ap r (R.FE_AUTO_RX_END r) with
  | 1 => s.reopenRx r
  | 2 => (s.radioRest r 5).wr (L.RA_WAIT r) 1
  | _ => s.radioRest r 1
def State.txEndState (s : State) (r : Radio) : State :=
  if s.ap r (R.FE_AUTO_TX_END r) = 1 then s.reopenRx r else s.radioRest r 1

/-- R71, R72, R74: the command in force is withdrawn before the radio has left OFF, or during a calibration that
goes on: the radio then ends in IDLE, or reopens the receiver, with the result it has now. -/
def State.retarget (s : State) (r : Radio) (reopen : Bool) : State :=
  (s.txPinsOff r).wrs (if reopen then [(L.RA_TGT r, 2), (L.RA_REOPEN r, 1), (L.RA_DUE r, 0)] else [(L.RA_TGT r, 1), (L.RA_DUE r, 1)])

/-- Whether the radio is still in OFF or in a calibration. -/
def State.unready (s : State) (r : Radio) : Bool := s.rst r == 0 || s.rst r == 2

/-- R77, R96: a transmission that is not started: the radio goes to its TX_END state, or to IDLE. -/
def State.txUnstarted (s : State) (r : Radio) (idle : Bool) : State :=
  if s.unready r then s.retarget r (!idle && s.ap r (R.FE_AUTO_TX_END r) == 1)
  else if idle then (s.txPinsOff r).radioRest r 1
  else (s.txPinsOff r).txEndState r

/-! ### What a radio command's end means to the medium access engine -/

/-- R193, R204: an event's window ended by the radio without a frame. -/
def State.evRxLost (s : State) (e : Armed) (fe : Nat) : State :=
  match e.kind with
  | 1 | 9 => s.missedEv e
  | 3 | 4 => if e.phase = 4 then s.finish e (if fe = 4 then 6 else 8) else s.finish e 1
  | 5 => s.missedEv e
  | 6 => s.finish e 0
  | _ => s.endEv e

/-- R189, R193: the LINK_TIME from which the response to an event's frame is awaited. -/
def State.waitStart (s : State) (e : Armed) : Nat :=
  e.start + s.onAir e.radio.idx (s.ctxRd e.ctx 3 1) e.txLen * 256 / 3 + (e.gap - e.tol) * 256

/-- R82, R188, R191: the radio's command has ended with a result; `cut` is the airtime of a truncated
transmission. A frame that awaits an answer opens its window. -/
def State.radioOut (s : State) (r : Radio) (res cut : Nat) : State :=
  let ev := s.rd (L.RA_EV r)
  let s0 := (s.wrs [(R.FE_STAT_LAST_RESULT r, res), (L.RA_EV r, 0)]).coexEnd r
  if ev = 0 then s0
  else if ev = 17 then s0.ackEnd r res (if res = 1 then s0.rd (L.ACK_AIR r) else min cut (s0.rd (L.ACK_AIR r)))
  else
    match s0.running.find? fun e => e.handle + 1 == ev with
    | none => s0
    | some e =>
      if e.phase = 1 then
        let s1 := s0.when (e.band != 0) fun s => s.dutyEnd (e.band - 1) e.rsv (if res = 1 then e.air else min cut e.air)
        let e1 := { e with band := 0, rsv := 0 }
        let s2 := s1.setRun e1
        if e.kind = 5 ∧ (e.exp = 1 ∨ res ≠ 1) then s2.leLost r e1 res
        else if (e.kind = 6 ∨ e.kind = 7) ∧ e.exp = 1 then s2.leClose e1
        else if res = 1 ∧ (e.kind = 3 ∨ e.kind = 4 ∨ e.kind = 5 ∨ e.kind = 6 ∨ e.kind = 7) then
          let s3 := (s2.setRun { e1 with phase := 2 }).ctxInflight e.ctx 2 3 e.txLen (s2.txCtr e)
          s3.acceptRx r (s.waitStart e) e.cls ev
        else s2.finish e1 (txResult res)
      else if s0.rd (L.RX_ST r) = 0 then s0.evRxLost e res
      else s0

/-- R78: a pending command discarded; an event that waited for it ends. -/
def State.dropPending (s : State) (r : Radio) (res : Nat) : State :=
  if s.rd (L.P_OP r) = 0 then s
  else
    let s1 := s.wrs [(L.P_OP r, 0), (L.P_DUE r, 0), (R.FE_STAT_PENDING r, 0)]
    let ev := s.rd (L.P_EV r)
    if ev = 17 then s1.ackEnd r res 0
    else
      match s1.running.find? fun e => e.handle + 1 == ev with
      | none => s1
      | some e =>
        if e.phase ≠ 1 then s1.evRxLost e res
        else if e.kind = 5 then (s1.when (e.band != 0) fun s => s.dutyEnd (e.band - 1) e.rsv 0).leLost r e res
        else s1.finish e (txResult res)

/-! ### Power (R83 to R85) -/

/-- The internal setting a transmission needs, in dBm. -/
def State.txPower (s : State) (r : Radio) : Int :=
  let want := min (sx 8 (s.ap r (R.FE_PA_DBM r))) (sx 8 (s.rd (L.RA_MAX r)))
  match r with
  | .cirrus => min want (s.rdS R.FEMCTL_LIMITS_CIR_PA_MAX)
  | .stratus =>
    let t := min want (s.rdS R.FEMCTL_LIMITS_STR_ANT_MAX)
    if s.on R.FEMCTL_CFG_STR_FEM then min (t - s.ap r R.FEMCTL_GAINS_S_PA_DB) (s.rdS R.FEMCTL_LIMITS_STR_PA_MAX) else t

def paBottom (r : Radio) : Int := match r with | .cirrus => -20 | .stratus => -10

/-! ### Commands (R73, R78, R80) -/

/-- R86: a TX command accepted, or refused during a supply dip. -/
def State.acceptTx (s : State) (r : Radio) (start cls max ev : Nat) : State :=
  let s0 := s.wr (L.RA_EV r) ev
  if s.on (R.FE_STAT_TX_INHIBIT r) then s0.radioOut r 7 0
  else
    let s1 := (s0.leaveRx r).applySettings r
    let s2 := s1.when (s1.rst r == 1) fun s => s.bandPin r
    let s3 := (s2.rxPinsOff r).wrs [(L.RA_TGT r, 3), (L.RA_START r, start), (L.RA_RDY r, 0), (L.RA_DUE r, 0), (L.RA_REOPEN r, 0),
      (L.RA_WAIT r, 0), (L.RA_CLS r, cls), (L.RA_MAX r, max), (L.CX_OK r, 0)]
    s3.when (s3.rst r != 0) fun s => s.wr (R.FE_STAT_STATE r) 5

/-- R76, R110, R117: an open window is closed: at once with no frame, or at the end of the frame it holds; an IDLE command that
waited for that end then takes effect. -/
def State.radioClose (s : State) (r : Radio) : State :=
  if s.rst r = 4 then
    if s.on (R.MDM_STAT_IN_FRAME r) then s.wr (L.RX_CLOSE r) 1
    else
      let s1 := (s.wrs [(R.FE_STAT_LAST_RESULT r, if s.rd (R.FE_STAT_LAST_RESULT r) = 2 then 2 else 1), (L.RA_EV r, 0)]).coexEnd r
      if s1.on (L.RX_IDLE r) then ((s1.applySettings r).radioRest r 1).wr (R.FE_STAT_LAST_RESULT r) 1 else s1.rxEndState r
  else if s.rd (L.RA_TGT r) = 2 then
    let s1 := (s.wr (L.RA_EV r) 0).coexEnd r
    if s1.unready r then s1.retarget r false else s1.radioRest r 1
  else s

/-- R71, R74: a transition command accepted, by its operation code of R80. -/
def State.radioAccept (s : State) (r : Radio) (op start cls max ev : Nat) : State :=
  match op with
  | 1 =>
    if s.rst r = 4 then
      if s.on (R.MDM_STAT_IN_FRAME r) then s.wrs [(L.RX_CLOSE r, 1), (L.RX_IDLE r, 1)]
      else (((s.radioOut r 1 0).applySettings r).radioRest r 1).wr (R.FE_STAT_LAST_RESULT r) 1
    else if s.rst r = 1 then ((s.applySettings r).bandPin r).wr (R.FE_STAT_LAST_RESULT r) 1
    else (s.applySettings r).wrs [(L.RA_TGT r, 1), (L.RA_WAIT r, 0)]
  | 2 => s.acceptRx r start cls ev
  | 3 => s.acceptTx r start cls max ev
  | 4 => ((s.applySettings r).bandPin r).wrs [(R.FE_STAT_STATE r, 2), (L.RFCAL, 0)]
  | 6 => (s.radioRest r 0).wr (R.FE_STAT_LAST_RESULT r) 1
  | _ => s

/-- R71, R385: whether the radio's next entry into IDLE calibrates it. -/
def State.calDue (s : State) (r : Radio) : Bool := s.on (R.FE_CTRL_CAL_AUTO r) && !s.on (L.RA_SEEN r) && !s.on (L.RA_LSN r)

/-- R74: the largest time a transition to RX, or to TX, takes from the radio's present state, in µs; from TX and RAMP_DOWN to RX it
runs from the ramp-down's end. -/
def State.leadUs (s : State) (r : Radio) (tx : Bool) : Nat :=
  match s.rst r with
  | 0 => (if s.calDue r then (match r with | .cirrus => 280 | .stratus => 540) else 60) + 40
  | 4 => 20
  | 5 => if tx && s.on (L.RA_WAIT r) then 20 else 40
  | 6 | 7 => if tx then 40 else 20
  | _ => 40

/-- R78, R80: the start time of the pending command: of one that CMD.OP gave, its acceptance plus R74's time. -/
def State.pendStart (s : State) (r : Radio) : Nat :=
  match s.rd (L.P_DIRECT r) with
  | 0 => s.rd (L.P_START r)
  | 2 => s.lt + 20 * 256
  | _ => s.lt + s.leadUs r (s.rd (L.P_OP r) == 3) * 256

/-- R77, R78: the transition has ended: the pending command is accepted; a TX command whose start time has
passed is not started. -/
def State.takePending (s : State) (r : Radio) : State :=
  let op := s.rd (L.P_OP r)
  if op = 0 ∨ s.radioBusy r then s
  else if op = 3 ∧ s.on (L.P_DUE r) then
    let s1 := s.dropPending r 3
    (s1.wr (R.FE_STAT_LAST_RESULT r) 3).txEndState r
  else
    let s1 := s.wrs [(L.P_OP r, 0), (R.FE_STAT_PENDING r, 0)]
    let s2 := s1.radioAccept r op (s.pendStart r) (s.rd (L.P_CLS r)) (s.rd (L.P_MAX r)) (s.rd (L.P_EV r))
    s2.wrs [(L.RA_DUE r, if op = 2 then s.rd (L.P_DUE r) else s2.rd (L.RA_DUE r)), (L.P_DUE r, 0)]

/-- R75, R78: a transmission cut short: the PA ramps down, and the radio then goes to IDLE, or to OFF. -/
def State.radioCut (s : State) (r : Radio) (res : Nat) (off : Bool) : State :=
  s.wrs [(R.FE_STAT_STATE r, 7), (R.FE_STAT_TRUNC r, 1), (R.FE_STAT_LAST_RESULT r, res), (L.RA_CUT r, res), (L.RA_OFF r, b2n off)]

/-- R78: ABORT (`off` false) or OFF: a pending command is discarded and what runs ends at once; in RAMP_DOWN the radio goes to IDLE,
or to OFF, at its end. DESIGN CHOICE: ABORT in IDLE records no result. -/
def State.radioStop (s : State) (r : Radio) (off : Bool) : State :=
  let s1 := s.dropPending r 11
  let rest := if off then 0 else 1
  match s1.rst r with
  | 8 => s1
  | 2 =>
    (s1.when (s1.rd (L.RA_TGT r) == 2 || s1.rd (L.RA_TGT r) == 3) fun s => (s.radioOut r 11 0).retarget r false).when off
      fun s => s.wrs [(L.P_OP r, 6), (L.P_EV r, 0), (L.P_DIRECT r, 0), (R.FE_STAT_PENDING r, 1)]
  | 6 => s1.radioCut r 11 off
  | 7 => s1.wrs [(L.RA_IDLE r, 1), (L.RA_OFF r, s1.rd (L.RA_OFF r) ||| b2n off)]
  | 0 =>
    let s2 := if s1.on (L.RA_TGT r) then s1.radioOut r 11 0 else s1.when off fun s => s.wr (R.FE_STAT_LAST_RESULT r) 1
    if off then s2.radioRest r 0 else s2.wrs [(L.RA_TGT r, 1), (L.RA_DUE r, b2n (s1.on (L.RA_TGT r)))]
  | 1 => s1.when off fun s => (s.radioRest r 0).wr (R.FE_STAT_LAST_RESULT r) 1
  | _ => ((((s1.mdmTruncate r).txPinsOff r).radioOut r 11 0).radioRest r rest)

/-- R72, R78: a command: at once, or pending behind the transition in progress. -/
def State.radioCmd (s : State) (r : Radio) (op start cls max ev : Nat) : State :=
  if s.rst r = 8 ∨ op = 0 ∨ 6 < op then s
  else if op = 5 then s.radioStop r false
  else if op = 6 then s.radioStop r true
  else if op = 4 ∧ (s.rst r ≠ 1 ∨ s.on (L.RA_TGT r)) then s.wr (R.FE_STAT_LAST_RESULT r) 9
  else if s.radioBusy r then
    let s1 := s.when (s.on (L.P_OP r)) fun s => (s.dropPending r 3).wr (R.FE_STAT_CMD_DROPPED r) 1
    s1.wrs [(L.P_OP r, op), (L.P_START r, start), (L.P_CLS r, cls), (L.P_MAX r, max), (L.P_EV r, ev), (L.P_DUE r, 0),
      (L.P_DIRECT r, 0), (R.FE_STAT_PENDING r, 1)]
  else s.radioAccept r op start cls max ev

/-- R186: an event that runs is cancelled: a transmission is cut, a window closes, and a frame already in
progress goes on to its verdict without the event. -/
def State.cancelRunning (s : State) (e : Armed) : State :=
  let r := e.radio
  if e.phase = 1 then
    let s1 := s.radioStop r false
    if s1.rst r = 7 then s1 else if s1.running.any fun x => x.handle == e.handle then s1.finish e 12 else s1
  else
    let s1 := s.wr (L.RA_EV r) 0
    (if txKind e.kind then s1.finish e 12 else s1.endEv e).radioClose r

/-- R186, R156: the running events of a context cancelled. -/
def State.cancelRun (s : State) (k : Nat) : State := s.each (s.running.filter fun e => e.ctx == k) fun e s => s.cancelRunning e

/-- R156, R162: the running events of contexts that have become FAULTED cancelled. -/
def State.cancelFaulted (s : State) : State :=
  s.each (s.running.filter fun e => s.ctxFaulted e.ctx) fun e s => s.cancelRunning e

/-- R156, R162, R186: context words read; a context that becomes FAULTED has its events cancelled at once. -/
def State.ctxReadFor (s : State) (k : Nat) (words : List Nat) (errs : List (Nat × Bool)) : State :=
  let r := s.ctxReadWords k words errs
  r.1.when r.2 State.cancelFaulted

/-- R86: a supply dip ends a transmission in progress and inhibits others. -/
def State.radioDip (s : State) (r : Radio) : State :=
  (s.wr (R.FE_STAT_TX_INHIBIT r) 1).when (s.rst r == 6) fun s => s.radioCut r 6 false

/-- R87, R118, R491: the island's clock is lost: HALTED, pins at 0, request released; a frame in progress is
lost without a report, a transmission ends, charged for a free part of its airtime (R206). -/
def State.radioHalt (s : State) (r : Radio) : State :=
  let s1 := s.dropPending r 10
  let k := s1.rd (L.RX_CTX r)
  let lost := s1.rd (L.RX_ST r) == 1 || s1.rd (L.RX_ST r) == 2
  let s2 := s1.when lost fun s =>
    let s1 := (s.when (k != 0) fun s => s.ctxMissed (k - 1)).dropFrame r
    match s1.runOn r with
    | some e => if k ≠ 0 ∧ [1, 5, 9].contains e.kind then (s1.endEv e).wr (L.RA_EV r) 0 else s1
    | none => s1
  let air := s2.rst r == 6 || s2.rst r == 7
  let s3 := (((s2.mdmRearm r).when air State.freeStep).radioOut r 10 (if air then s2.freeVal 32 else 0)).radioRest r 8
  ((s3.pinsOff r).coexRelease r).wr (R.FE_STAT_LAST_RESULT r) 10

end Sys2Proof.Machine
end

