-- ==== Sys2Proof/Machine/FloorOps.lean ====
section
/-!
DEFINITION. Machine/FloorOps.lean: what a load of the Floor Plan does (R54 to R63), the start of the domains after it
(R56, R383), and the reload's refusals (R62), as shared operations.
-/
namespace Sys2Proof.Machine

open Sys2Proof

/-! ### Domains and islands -/

/-- R381, R56, R60: the domains a start powers: the context store, PD_RET, PD_APP, PD_LINK, PD_CIPHER, PD_FLASH and
PD_PERIPH, and those of present blocks. -/
def State.startDoms (s : State) : List Nat :=
  [3, 4, 5, 6, 7, 11, 12] ++ (if s.present 5 then [8] else []) ++ (if s.present 7 then [9] else []) ++
    (if s.present 18 then [10] else []) ++ (if s.present 19 || s.on L.PW_LDR then [2] else [])

/-- R14, R17: the islands of powered domains whose clocks run: on the HFRC the radios' and the reader's stay stopped. -/
def State.startIsls (s : State) : List Nat :=
  [2, 3, 4, 9, 10] ++ (if s.on R.HALL_CLK_STAT_PLL_SRC then [] else
    (if s.present 5 then [5] else []) ++ (if s.present 7 then [6] else []) ++ (if s.present 18 then [7] else [])) ++
    (if s.present 19 || s.on L.PW_LDR then [8] else [])

/-- R490: on the HFRC the radios, the reader and the CAN controllers start HALTED. -/
def State.startHalted (s : State) : State :=
  let s1 := (s.when (s.domOn 8) fun s => s.radioHalt .cirrus).when (s.domOn 9) fun s => s.radioHalt .stratus
  (((s1.when (s1.domOn 10) fun s => s.wr R.NFCR_STAT_STATE 5).canHalt 0).canHalt 1)

/-- R60: a Porch that the plan leaves out loses its power, once octet 7 of its page 0 says so (R310). -/
def State.porchOut (s : State) : State := s.when (!s.present 19 && s.domOn 2 && !s.on L.PW_LDR) State.porchHostOff

/-- R56, R60, R383: the domains powered and released, their clocks running. -/
def State.powerUp (s : State) : State :=
  ((s.porchOut.each s.startDoms fun d s => s.domUp d).each s.startIsls fun i s => s.setIsl i true).when (s.on R.HALL_CLK_STAT_PLL_SRC) State.startHalted

/-! ### Reading a copy -/

/-- R333, R334, R477: the loader reads a flash word, of which `errs` gives the wrong bits: an uncorrectable word counts
as one while the load lasts. -/
def State.fpWord (errs : List (Nat × Nat)) (w : Nat) (s : State) : State :=
  let b := s.flBits w ((Cells.get w errs).getD 0)
  let s1 := b.2.2.flEcc 4 w b.1 b.2.1
  if 2 < b.1 ∧ !(s1.ff L.FL_BAD).contains w then s1.pushFf L.FL_BAD w else s1

/-- R53: a copy read: its header's words, and where they allow it all words of its length. -/
def State.fpScan (s : State) (errs : List (Nat × Nat)) (c : Nat) : State :=
  let a := fpCopy c
  let s1 := (s.fpWord errs a).fpWord errs (a + 16)
  if [1, 2, 3, 4, 5].contains (s1.fpErr c) then s1
  else s1.each ((List.range ((s1.rdLe (a + 0x0C) 4 + 15) / 16)).drop 2) fun i s => s.fpWord errs (a + 16 * i)

/-- R53, R54, R477: both copies read and checked: their codes, and the state after; an injection 0x28 takes both as
failing CRC at a reset load. -/
def State.fpCheck (s : State) (errs : List (Nat × Nat)) (reset : Bool) : Nat × Nat × Bool × State :=
  let bad := s.ff L.FL_BAD
  let s1 := (s.fpScan errs 0).fpScan errs 1
  let eA := s1.fpErr 0
  let eB := s1.fpErr 1
  let s2 := s1.setFf L.FL_BAD bad
  let o := if reset then s2.occasion 0x28 else (false, s2)
  if o.1 then (6, 6, true, o.2) else (eA, eB, false, o.2)

/-- R57, R58: a plan worked out and stored as the applied one, with its report and its identity. -/
def State.fpApply (s : State) (used eA eB : Nat) (keep : Option (Nat → Nat → Nat → Int)) : State :=
  let w := s.fpBuild (s.fpImage used) keep
  ((({ s with plan := fpStore w.vals }).dropPlanned).fpReport w.rep w.deflt).fpIdentity used eA eB

/-- R163, R223: the contexts and the IV table written with 0 where the applied partition differs from the one before. -/
def State.repartition (s : State) (cn sn : Nat) : State :=
  if s.rd R.CTX_PART_CIRRUS_N = cn ∧ s.rd R.CTX_PART_STRATUS_N = sn then s
  else ((s.each ((List.range 256).filter fun k => s.ctxState k != 0) fun k s => s.ctxZero k).each (List.range 256) fun k s => s.wr (L.IV k) 0).wr
    R.CTX_STATUS_REPARTITIONED 1

/-- R210: the bands whose BAND_LO, BAND_HI or WINDOW_S changed restart. -/
def State.dutyReplan (s old : State) : State :=
  s.each ((List.range 8).filter fun n =>
    s.rd (R.MAC_DUTY_BAND_LO_KHZ n) != old.rd (R.MAC_DUTY_BAND_LO_KHZ n) ||
    s.rd (R.MAC_DUTY_BAND_HI_HI_KHZ n) != old.rd (R.MAC_DUTY_BAND_HI_HI_KHZ n) ||
    s.rd (R.MAC_DUTY_WINDOW_S n) != old.rd (R.MAC_DUTY_WINDOW_S n)) fun n s => s.dutyRestart n

/-- R310, R315: the loader has octet 7 of Porch page 0 to bring to PRESENT and FWI: a page write of its own, which waits for the
start-up decision and for the page being written. DESIGN CHOICE: PD_PORCH is powered for it where the plan leaves the Porch out. -/
def State.porchOctet7 (s : State) : State :=
  let cur := (s.rdP 7).toNat
  let want := cur % 16 / 2 * 2 + b2n (s.present 19) + 16 * s.rd L.FP_FWI
  if want = cur then s.wr L.PW_LDR 0
  else
    let s1 := s.wr L.PW_LDR (want + 1)
    if s1.domOn 2 then s1 else (s1.setDom 2 true).setIsl 8 true

/-! ### The end of a reset load -/

/-- R54 to R60, R163, R210, R310, R513: a reset load ends: the plan applied, the domains of present blocks started, the
cores released; the resident loader boots. -/
def State.loadDone (s : State) (errs : List (Nat × Nat)) : State :=
  let c := s.fpCheck errs true
  let s0 := c.2.2.2
  let used := if c.2.2.1 then 0 else s0.fpUsed c.1 c.2.1
  let warm := s.on L.FP_WARM
  let s1 := s0.fpApply used c.1 c.2.1 none
  let s2 := if warm then (s1.repartition (s.rd R.CTX_PART_CIRRUS_N) (s.rd R.CTX_PART_STRATUS_N)).dutyReplan s
    else s1.each (List.range 8) fun n s => s.dutyRestart n
  let s3 := s2.wrs [(R.FLOOR_STATUS_DONE, 1), (R.FLOOR_STATUS_FALLBACK, b2n (used == 0)), (R.HALL_CLK_STAT_LF_SRC, s2.rd L.FP_LF_SRC),
    (L.FP_LOADING, 0), (L.FP_WARM, 0), (L.PLL_WAIT, 0), (R.SYSCTL_PWR_STAT_STATE, 0), (R.WDA_STAT_COUNT, 0), (R.HALL_CLK_STAT_PLL_LOCK, 1)]
  let s4 := s3.when (!s3.on R.HALL_CLK_STAT_PLL_SRC) fun s => s.wr R.HALL_CLK_STAT_HFXO_OK 1
  let s5 := (s4.porchOctet7.powerUp.hostReady).when (used == 0) fun s => s.fire 0x28 (c.1 * 256 + c.2.1 * 4096) c.2.2.1
  s5.porchArb.attBoot

/-! ### Reloads -/

/-- R62: the first condition that refuses a reload, 0 where it may start. -/
def State.reloadRefusal (s : State) : Nat :=
  let idle (r : Radio) : Bool := s.rd (R.FE_STAT_STATE r) == 0 || s.rd (R.FE_STAT_STATE r) == 1
  if s.pwr ≠ 0 ∨ s.on R.SYSCTL_PWR_STAT_ENTERING then 2
  else if !idle .cirrus || !idle .stratus || !s.armed.isEmpty || !s.running.isEmpty then 3
  else if s.on R.FLASHC_STAT_BUSY0 then 4
  else 0

/-- R62: a write of 1 to FLOOR.CMD.RELOAD. -/
def State.reloadGo (s : State) : State :=
  if s.on R.FLOOR_CTRL_LOCK || s.on R.FLOOR_STATUS_RELOAD_BUSY then s
  else
    let r := s.reloadRefusal
    if r = 0 then s.wr R.FLOOR_STATUS_RELOAD_BUSY 1 else s.wr R.FLOOR_RELOAD_STAT_REASON r

/-- R448: a host's FLOOR_RELOAD command ends. -/
def State.reloadFinal (s : State) : State :=
  match s.hcmd.find? fun c => c.op == 4 with
  | none => s
  | some c =>
    if s.rd R.FLOOR_RELOAD_STAT_REASON ≠ 1 then s.hostEnd c 2 (s.rd R.FLOOR_RELOAD_STAT_REASON) []
    else if s.on R.FLOOR_CLAMP_CNT then s.hostEnd c 3 (s.rd R.FLOOR_CLAMP_CNT) []
    else s.hostEnd c 0 0 []

/-- R63: a reload ends: the new values applied at once, or nothing but the error codes where no copy is valid. -/
def State.reloadDone (s : State) (errs : List (Nat × Nat)) : State :=
  let c := s.fpCheck errs false
  let s0 := c.2.2.2
  let used := s0.fpUsed c.1 c.2.1
  let s1 :=
    if used = 0 then s0.wrs [(R.FLOOR_STATUS_A_ERR, c.1), (R.FLOOR_STATUS_B_ERR, c.2.1), (R.FLOOR_RELOAD_STAT_REASON, 5)]
    else ((s0.fpApply used c.1 c.2.1 (some fun t n i => s.fpNow t n i)).dutyReplan s).wr R.FLOOR_RELOAD_STAT_REASON 1
  ((s1.wr R.FLOOR_STATUS_RELOAD_BUSY 0).reloadFinal).when (used != 0) fun s => (s.porchOctet7.porchArb).coexOff

end Sys2Proof.Machine
end

