-- ==== Sys2Proof/Machine/Link.lean ====
section
/-!
DEFINITION. Machine/Link.lean: the link core pair (R142 to R147), frame identification (R149), the context
store (R153 to R164), the event queue (R171 to R174) and the microcode banks (R175 to R180): one meaning for
each of their rows.
-/
namespace Sys2Proof.Machine

open Sys2Proof

namespace L

/-- R177: the bank a swap in progress targets. -/
def MC_TGT : Fld := latch 10 60 1 .w 0

end L

/-! ### Lockstep -/

/-- R145: every frame between its sync instant and its verdict will receive REJECT_LANE. -/
def State.markLockstep (s : State) : State :=
  s.each [Radio.cirrus, Radio.stratus] fun r s => s.when (s.on (L.RX_ST r)) fun s => s.wr (L.RX_LOCKSTEP r) 1

/-- R144, R146: the checker finds a mismatch at program counter `pc`: the counts, the log, the LOCKSTEP reset;
at the third within 1 s the pair stays held. -/
def execLockstepMismatch (pc : Word) (s : State) : Out :=
  if s.rd R.LINK_STAT_CORES ≠ 1 ∨ !s.online 10 then .next s
  else
    let o := s.occasion 0x10
    let h := o.2.occasion 0x11
    let recent := min ((if h.1 then 2 else h.2.rd R.LINK_LS_CNT_RECENT) + 1) 15
    let s1 := ((h.2.wr R.LINK_EVT_LOCKSTEP 1).sat R.LINK_LS_CNT_TOTAL 1).wrs [(R.LINK_LS_CNT_RECENT, recent), (R.LINK_LS_PC, pc.toNat)]
    let s2 := (((s1.fire 0x10 pc.toNat o.1).markLockstep).wr L.LS_HOLD 1).linkReset 5
    if 3 ≤ recent then .next (((s2.wrs [(R.LINK_STAT_CORES, 3), (R.LINK_EVT_LS_HELD, 1)]).fire 0x11 0 h.1).settle)
    else .next (s2.settle)

/-- R144: the pair runs again from the entry point, and LS_RESTART is posted. -/
def execLsRestart (s : State) : Out :=
  if s.rd R.LINK_STAT_CORES = 2 then
    .next (((s.wrs [(R.LINK_STAT_CORES, 1), (L.LS_HOLD, 0), (R.WDL_STAT_COUNT, 0)]).postSimple 6 0 (s.rd R.LINK_LS_CNT_RECENT)).settle)
  else .next s

/-- R146: LS_RELEASE restarts held cores and clears RECENT. -/
def execLsRelease (m : Master) (s : State) : Out :=
  .next (s.write m R.LINK_CMD_LS_RELEASE fun s =>
    if s.rd R.LINK_STAT_CORES = 3 then s.wrs [(R.LINK_STAT_CORES, 2), (R.LINK_LS_CNT_RECENT, 0)] else s)

/-- R146: a mismatch leaves the sliding window of 1 s. -/
def execLsCntRecentAge (s : State) : Out := .next (s.wr R.LINK_LS_CNT_RECENT (s.rd R.LINK_LS_CNT_RECENT - 1))

/-! ### Identification -/

/-- R149: whether context k is the one a frame of radio r names. `ev` is the context of the event whose
window the frame came in, `le` whether that context is an LE one. R154: 0xFFFE names no short address. -/
def State.ctxMatches (s : State) (r : Radio) (le : Bool) (ev : Nat) (a : FrameAddr) (k : Nat) : Bool :=
  let link := s.ctxRd k 0x0C 4
  let short (x : BitVec 16) : Bool := decide (link / 65536 ≠ 0xFFFE) && decide (x.toNat = link / 65536)
  let peer := s.ctxRd k 0x04 8
  let panOk := decide (link % 65536 = a.pan.toNat)
  s.ctxLive k &&
  match s.ctxType k with
  | 1 => le && k == ev
  | 2 => le && k == ev && decide (link = a.access.toNat)
  | 3 => !le && s.inPart 1 k && r == .stratus && panOk && a.srcExt.any fun x => decide (x.toNat = peer)
  | 4 => !le && s.inPart 1 k && r == .stratus && panOk && a.dstShort.any short
  | 5 => !le && s.inPart 0 k && r == .cirrus && panOk &&
      (match a.srcExt with
       | some x => decide (x.toNat = peer)
       | none => a.srcShort.any short)
  | _ => false

/-- R149: the context of a frame: the lowest that matches; a group destination prefers MESH_GRP, any other
MESH_NBR. -/
def State.identify (s : State) (r : Radio) (le : Bool) (ev : Nat) (a : FrameAddr) : Option Nat :=
  let l := (List.range 256).filter fun k => s.ctxMatches r le ev a k
  let pref := if a.group then 4 else 3
  match l.find? fun k => s.ctxType k == pref with
  | some k => some k
  | none => l.head?

/-- The event whose window a radio's reception came in. -/
def State.rxEvent (s : State) (r : Radio) : Option Armed :=
  (s.armed ++ s.running).find? fun e => e.handle + 1 == s.rd (L.RX_EV r)

/-- R149, R193: an acknowledgement that carries no source address belongs to the context of the event that awaits
it. -/
def State.ackContext (s : State) (r : Radio) (a : FrameAddr) : Option Nat :=
  (s.rxEvent r).bind fun e =>
    if e.phase = 2 ∧ (e.kind = 3 ∨ e.kind = 4) ∧ a.srcShort = none ∧ a.srcExt = none ∧ s.ctxLive e.ctx then some e.ctx else none

/-- R149, R151, R164: the frame is matched, and its key asked for where the window's opening has not asked for it. -/
def execFrameIdentify (r : Radio) (a : FrameAddr) (s : State) : Out :=
  if !s.on (L.RX_ST r) || s.on (L.RX_IDED r) then .next s
  else
    let e := s.rxEvent r
    let le := e.any fun x => s.leCtx x.ctx
    let s1 := s.wr (L.RX_IDED r) 1
    match (s.identify r le ((e.map fun x => x.ctx).getD 256) a).or (s.ackContext r a) with
    | none => .next (s1.wr (L.RX_CTX r) 0)
    | some k =>
      let s2 := (s1.wr (L.RX_CTX r) (k + 1)).ctxInflight k 1 (if s.rd (L.RX_KEYST r) = 2 then 3 else 2) a.got.toNat a.ctr.toNat
      .next (if s.ctxFlag k 1 && !(le && s.on (L.RX_KEYST r)) then s2.askKey r k else s2)

/-! ### Contexts -/

/-- R158: the result of an allocation of a type: the first check that fails, or the context taken. -/
def execCtxAlloc (m : Master) (typ : BitVec 3) (s : State) : Out :=
  .next (s.write m R.CTX_ALLOC_CMD_TYPE fun s =>
    let t := typ.toNat
    if m ≠ .link then s
    else if t = 0 ∨ 5 < t then s.wr R.CTX_ALLOC_RES_RESULT 4
    else if s.typeCap t ≤ s.typeUse t then s.wr R.CTX_ALLOC_RES_RESULT 3
    else
      match firstBelow (fun k => s.inPart (typeRadio t) k && s.ctxState k == 0 && s.rd L.FREEING != k + 1) 256 with
      | none => s.wr R.CTX_ALLOC_RES_RESULT 2
      | some k =>
        ((((s.ctxZero k).ctxWr k 0 1 t).ctxWr k 1 1 1).ctxWr k 2 1 (typeRadio t)).wrs
          [(R.CTX_ALLOC_RES_RESULT, 1), (R.CTX_ALLOC_RES_INDEX, k)])

/-- R159: a free starts: the context's events are cancelled and it is no candidate any more. -/
def execCtxFree (m : Master) (k : BitVec 8) (s : State) : Out :=
  .next (s.write m R.CTX_FREE_CMD_GO fun s =>
    if m ≠ .link ∨ s.on R.CTX_FREE_STAT_BUSY then s
    else ((s.wrs [(L.FREEING, k.toNat + 1), (R.CTX_FREE_STAT_BUSY, 1)]).cancelCtx k.toNat).cancelRun k.toNat)

/-- R159, R223: after any awaited verdict the context and its IV entry are zeroed. -/
def execCtxFreeDone (s : State) : Out :=
  if s.on R.CTX_FREE_STAT_BUSY && s.rd (L.RX_CTX .cirrus) != s.rd L.FREEING && s.rd (L.RX_CTX .stratus) != s.rd L.FREEING then
    let k := s.rd L.FREEING - 1
    .next ((s.ctxZero k).wrs [(L.IV k, 0), (L.FREEING, 0), (R.CTX_FREE_STAT_BUSY, 0)])
  else .next s

/-- R154, R160: what a link-core store of a byte at an offset of a context writes, if anything, by the state
the context was in. -/
def ctxByte (st off old new : Nat) : Option Nat :=
  if off = 0 then none
  else if off = 1 then (if 1 ≤ new ∧ new ≤ 3 then some new else none)
  else if off = 2 then some (new / 2 * 2 + old % 2)
  else if off < 0x38 then some new
  else if (0x38 ≤ off ∧ off ≤ 0x3C) ∨ (0x40 ≤ off ∧ off ≤ 0x45) ∨ (0x48 ≤ off ∧ off ≤ 0x57) ∨ off = 0x66 ∨ off = 0x67 then
    (if st = 2 then none else some new)
  else if (0x58 ≤ off ∧ off ≤ 0x65) ∨ 0x7C ≤ off then some new
  else none

/-- R160: a store of the link cores to the context window. -/
def State.ctxStore (s : State) (a val : Nat) : State :=
  let k := (a - 0x20160000) / 128
  let off := (a - 0x20160000) % 128
  let st := s.ctxState k
  if st = 0 then s
  else
    let s1 := s.each [0, 1, 2, 3] fun i s =>
      match ctxByte st (off + i) (s.ctxRd k (off + i) 1) (val / 256 ^ i % 256) with
      | some v => s.ctxWr k (off + i) 1 v
      | none => s
    if st = 2 ∧ (s1.ctxState k = 1 ∨ s1.ctxState k = 3) then (s1.cancelCtx k).cancelRun k else s1

/-- R42, R160, R511: a store to the context window: the link cores only, 32 bits only, naturally aligned. -/
def execCtxWindowStore (m : Master) (addr : Word) (size : Size) (val : Word) (s : State) : Out :=
  if addr.toNat % (match size with | .word => 4 | .half => 2 | .byte => 1) ≠ 0 then .next (s.misalign m true)
  else if regionOf addr.toNat ≠ .ctxWin ∨ m ≠ .link ∨ size ≠ .word then .next s.err
  else .next (s.cross m addr.toNat (regionDom .ctxWin) (regionIsl .ctxWin) true true fun s => (s.ctxStore addr.toNat val.toNat).ok)

/-- R161, R162: the snapshot of a context that SNAP_WAIT names is taken, unless a commit is pending on the context; of an uncorrectable
word it shows a free value. -/
def State.snapTake (s : State) : State :=
  let k := s.rd L.SNAP_WAIT - 1
  if s.rd L.SNAP_WAIT = 0 ∨ [Radio.cirrus, Radio.stratus].any (fun r => s.rd (L.RX_ST r) == 3 && s.rd (L.RX_CTX r) == k + 1) then s
  else
    let r := s.ctxReadWords k (List.range 16) ((s.ff L.SNAP_ERR).map fun e => (e / 2, e % 2 == 1))
    let v := r.1.freeVal 1024
    let s1 := r.1.each (List.range 32) fun i s =>
      s.wr (R.CTX_SNAP i) (if bit (s.rd (L.CTX_BAD k)) (i / 2) then v / 2 ^ (32 * i) else s.ctxRd k (4 * i) 4)
    ((s1.wrs [(R.CTX_SNAP_STAT_DONE, 1), (R.CTX_SNAP_STAT_UNCORR, b2n r.2), (R.CTX_SNAP_STAT_INDEX, k), (L.SNAP_WAIT, 0)]).setFf L.SNAP_ERR []).when
      r.2 fun s => s.freeStep.cancelFaulted

/-- R161, R162, R182: a snapshot of a whole context, after a commit pending on it; `errs` are the words in which a soft error is met. It
takes the place of one that waits. -/
def execCtxSnap (m : Master) (k : BitVec 8) (errs : List (Nat × Bool)) (s : State) : Out :=
  .next ((s.write m R.CTX_SNAP_CMD_GO fun s =>
    ((s.wrs [(R.CTX_SNAP_STAT_DONE, 0), (L.SNAP_WAIT, k.toNat + 1)]).setFf L.SNAP_ERR (errs.map fun e => 2 * e.1 + b2n e.2)).snapTake).settle)

/-- R162: the scrubber reads the next context in index order. -/
def execCtxScrub (errs : List (Nat × Bool)) (s : State) : Out :=
  if s.rd R.CTX_CTRL_SCRUB_INT = 0 ∨ !s.online 11 then .next s
  else
    .next (((s.ctxReadFor (s.rd L.SCRUB) (List.range 16) errs).inc L.SCRUB 1).settle)

/-! ### Event queue -/

/-- R171, R173: POP removes the head; a place that comes free tells of lost events. -/
def execEvqPop (m : Master) (s : State) : Out :=
  .next (s.write m R.LINK_EVQ_CMD_POP fun s =>
    match s.evq with
    | [] => s
    | _ :: t => ({ s with evq := t }).postLost)

/-! ### Microcode banks -/

/-- R175: the address of a bank. -/
def mcBank (b : Nat) : Nat := 0x20140000 + b * 0x10000

/-- R177: whether a swap is in progress. -/
def State.mcBusy (s : State) : Bool := s.on R.LINK_STAT_CHECKING || s.on R.LINK_STAT_YIELD_REQ

/-- R177: a SWAP command starts the check of the target bank. -/
def execMcSwap (m : Master) (s : State) : Out :=
  .next (s.write m R.LINK_MC_CMD_SWAP fun s =>
    if s.mcBusy then s
    else s.wrs [(L.MC_TGT, if s.rd R.LINK_MC_STAT_ACTIVE = 1 then 1 else 0), (R.LINK_STAT_CHECKING, 1)])

/-- R176, R178: the first check a bank fails, 1 where it passes. -/
def State.mcCheck (s : State) (b : Nat) : Nat :=
  let a := mcBank b
  let len := s.rdLe (a + 0x0C) 4
  let entry := s.rdLe (a + 0x14) 4
  let img := s.rdBs a len
  let act := s.rd R.LINK_MC_STAT_ACTIVE
  let prod := s.rdLe (a + 0x18) 2
  let old := s.rdLe (mcBank (act - 1) + 0x18) 2
  if s.rdLe a 4 ≠ 0x42434D4C ∨ s.rdLe (a + 4) 2 ≠ 1 ∨ s.rdLe (a + 0x1C) 4 ≠ 0 then 2
  else if len < 64 ∨ 65536 < len ∨ len % 16 ≠ 0 ∨ len ≤ entry ∨ entry % 2 ≠ 0 then 3
  else if crc32c (img.take 16 ++ zeros 4 ++ img.drop 20) ≠ s.rdLe (a + 0x10) 4 then 4
  else if s.rdLe (a + 6) 2 ≠ 1 then 5
  else if act ≠ 0 ∧ !(decide (s.rdLe (a + 0x1A) 2 ≤ old) && decide (old ≤ prod)) then 6
  else 1

/-- R178: a swap refused. -/
def State.mcRefuse (s : State) (reason : Nat) : State :=
  s.wrs [(R.LINK_STAT_CHECKING, 0), (R.LINK_STAT_YIELD_REQ, 0), (R.LINK_MC_STAT_REASON, reason), (R.LINK_EVT_MC_REFUSED, 1)]

/-- R177: the target bank becomes the active one and the pair starts at its entry point, after an exchange with its data RAM cleared. -/
def State.mcStart (s : State) : State :=
  let b := s.rd L.MC_TGT
  (s.wrs [(R.LINK_STAT_CHECKING, 0), (R.LINK_STAT_YIELD_REQ, 0), (R.LINK_MC_STAT_ACTIVE, b + 1), (R.LINK_MC_STAT_REASON, 1),
    (R.LINK_MC_VERSION, s.rdLe (mcBank b + 8) 4), (R.LINK_STAT_CORES, 1), (R.LINK_EVT_MC_SWAPPED, 1),
    (R.WDL_STAT_COUNT, 0)] |>.when (s.rd R.LINK_MC_STAT_ACTIVE != 0) State.clearLinkRam).postSimple 7 0 0

/-- R177, R178: the bank check ends: refused, started when no bank is active, or a yield asked for. -/
def execMcCheckDone (s : State) : Out :=
  if !s.on R.LINK_STAT_CHECKING then .next s
  else
    let c := s.mcCheck (s.rd L.MC_TGT)
    if c ≠ 1 then .next (s.mcRefuse c)
    else if s.rd R.LINK_MC_STAT_ACTIVE = 0 then .next (s.mcStart.settle)
    else .next (s.wrs [(R.LINK_STAT_CHECKING, 0), (R.LINK_STAT_YIELD_REQ, 1)])

/-- R177: a link-core write of MC_YIELD while a swap waits for it exchanges the banks. -/
def execMcYield (m : Master) (s : State) : Out :=
  .next ((s.write m R.LINK_MC_YIELD fun s => if m = .link ∧ s.on R.LINK_STAT_YIELD_REQ then s.mcStart else s).settle)

/-- R178: no yield within 1 ms. -/
def execMcYieldTimeout (s : State) : Out := .next (if s.on R.LINK_STAT_YIELD_REQ then s.mcRefuse 7 else s)

/-! ### Mailboxes -/

/-- R180: APPCMD_GO hands the command words to microcode. -/
def execAppcmdGo (m : Master) (s : State) : Out := .next (s.write m R.LINK_APPCMD_GO fun s => s.wr R.LINK_APPCMD_STAT_BUSY 1)

/-- R179: APPCMD_DONE of the link cores sets RESULT and clears BUSY. -/
def execAppcmdDone (m : Master) (result : BitVec 8) (s : State) : Out :=
  .next (s.write m R.LINK_APPCMD_DONE_RESULT fun s =>
    if m = .link then s.wrs [(R.LINK_APPCMD_STAT_RESULT, result.toNat), (R.LINK_APPCMD_STAT_BUSY, 0)] else s)

/-- R180: MC_POST_GO of the link cores posts the four words where their type is an MCODE one. -/
def execMcPostGo (m : Master) (s : State) : Out :=
  .next ((s.write m R.LINK_MC_POST_GO fun s =>
    if m = .link ∧ 0x80 ≤ s.rd R.LINK_MC_POST_0 % 256 then
      s.post ⟨s.rd R.LINK_MC_POST_0, s.rd R.LINK_MC_POST_1, s.rd R.LINK_MC_POST_2, s.rd R.LINK_MC_POST_3⟩
    else s).settle)

/-- R179: VLAT.CLEAR. -/
def execVlatClear (m : Master) (s : State) : Out := .next (s.write m R.LINK_VLAT_CLEAR fun s => s.wr R.LINK_VLAT_MAX 0)

end Sys2Proof.Machine
end

