-- ==== Sys2Proof/Machine/Events.lean ====
section
/-!
DEFINITION. Machine/Events.lean: the 64 events of the event matrix as levels (R435).
-/
namespace Sys2Proof.Machine

open Sys2Proof

namespace L

/-- R432, R435: EV_WDT_APP_WARN and EV_WDT_LINK_WARN stand, until the next kick. -/
def WDA_WARNED : Fld := latch 41 110 1 .c 0
def WDL_WARNED : Fld := latch 41 111 1 .c 0
/-- R430: the application core is halted in debug mode. -/
def DBG_HALT : Fld := latch 44 0 1 .w 0

end L

/-- R476: some detector whose reaction is at least EVENT has its HIT bit set. -/
def State.faultLevel (s : State) : Bool :=
  detectors.any fun i => bit (s.rd (if i < 32 then R.FAULT_HIT_0 else R.FAULT_HIT_1)) (i % 32) && decide (1 ≤ s.reaction i)

/-- R435: the events of timer n: compare, capture, wrap. -/
def State.timLevel (s : State) (n k : Nat) : Bool :=
  match k with
  | 0 => (s.on (R.TIM_STAT_CMP0 n) && s.on (R.TIM_CTRL_IE_CMP0 n)) || (s.on (R.TIM_STAT_CMP1 n) && s.on (R.TIM_CTRL_IE_CMP1 n))
  | 1 => s.on (R.TIM_STAT_CAP n) && s.on (R.TIM_CTRL_IE_CAP n)
  | _ => (s.on (R.TIM_STAT_WRAP n) || s.on (R.TIM_STAT_TOP_MISSED n)) && s.on (R.TIM_CTRL_IE_WRAP n)

/-- R435: the block that raises event k; a level leaves it only while its domain is powered (R382). -/
def evBlock (k : Nat) : Nat :=
  if 24 ≤ k ∧ k < 48 then 25
  else match k with
    | 0 | 1 => 3
    | 2 | 3 => 0
    | 4 => 2
    | 5 | 6 => 9
    | 7 => 6
    | 8 => 8
    | 9 | 10 => 10
    | 11 => 12
    | 12 => 13
    | 13 => 14
    | 14 => 15
    | 15 => 16
    | 16 => 18
    | 17 => 19
    | 18 | 19 | 20 => 20
    | 21 => 21
    | 22 => 22
    | 23 => 4
    | 48 => 23
    | 49 => 24
    | 52 => 33
    | 53 => 34
    | 54 => 35
    | 55 => 36
    | 56 => 37
    | 57 => 38
    | 58 => 39
    | 59 => 40
    | 50 | 51 => 41
    | _ => 25

/-- R435: the condition of event k in its block. -/
def State.evCond (s : State) (k : Nat) : Bool :=
  if 24 ≤ k ∧ k < 48 then s.timLevel ((k - 24) / 3) ((k - 24) % 3)
  else match k with
    | 0 => s.on R.HALL_CTRL_CLK_IRQ_EN && s.on R.HALL_CLK_EVT_HFXO_LOST
    | 1 => s.on R.HALL_CTRL_STALL_IRQ_EN && s.on R.HALL_STALL_LOG_VALID
    | 2 => s.on R.SYSCTL_SUPPLY_STAT_WARN
    | 3 => s.on R.SYSCTL_CTRL_IRQ_EN && (s.on R.SYSCTL_PWR_STAT_PENDING || s.on R.SYSCTL_EVT_ENTERED ||
        s.on R.SYSCTL_EVT_ABORTED || s.on R.SYSCTL_EVT_REFUSED || s.on R.SYSCTL_EVT_WOKEN)
    | 4 => s.on R.FAULT_CTRL_IRQ_EN && s.faultLevel
    | 5 => s.on L.RFCAL
    | 6 => s.on R.FEMCTL_CTRL_COEX_IRQ_EN && (s.on R.FEMCTL_EVT_GNT_DENIED || s.on R.FEMCTL_EVT_GNT_LOST || s.on R.FEMCTL_EVT_LEAD_SHORT)
    | 7 => s.on (R.MDM_CTRL_IRQ_EN .cirrus) && s.tabRead R.rowsCIRRUSMDM 0x38 != 0
    | 8 => s.on (R.MDM_CTRL_IRQ_EN .stratus) && s.tabRead R.rowsSTRATUSMDM 0x38 != 0
    | 9 => s.on R.LINK_CTRL_EVQ_IRQ_EN && decide (s.rd R.LINK_EVQ_CFG_THRESH ≤ s.evq.length)
    | 10 => s.on R.LINK_CTRL_FAULT_IRQ_EN && (s.on R.LINK_EVT_LOCKSTEP || s.on R.LINK_EVT_LS_HELD || s.on R.LINK_EVT_VERDICT_OVER)
    | 11 => s.on R.MAC_CTRL_IRQ_EN && s.tabRead R.rowsMAC 0x8 != 0
    | 12 => s.on R.CIPHER_CTRL_IRQ_EN && s.tabRead R.rowsCIPHER 0x8 != 0
    | 13 => s.on R.KEYS_CTRL_IRQ_EN && s.tabRead R.rowsKEYS 0xC != 0
    | 14 => s.on R.ARB_CTRL_IRQ_EN && s.on R.ARB_EVT_HINT_EXP
    | 15 => s.on R.PBM_CTRL_IRQ_EN && s.tabRead R.rowsPBM 0x8 != 0
    | 16 => s.on R.NFCR_CTRL_IRQ_EN && s.tabRead R.rowsNFCR 0xC != 0
    | 17 => s.on R.PORCH_CTRL_IRQ_EN && s.tabRead R.rowsPORCH 0xC != 0
    | 18 => s.on R.FLASHC_CTRL_IRQ_EN && (s.on R.FLASHC_EVT_DONE || s.on R.FLASHC_EVT_ERR || s.on R.FLASHC_EVT_FETCH_BUSY || s.on R.FLASHC_EVT_SEQ_ERR)
    | 19 => s.on R.FLASHC_CTRL_WEAR_EN && s.on R.FLASHC_EVT_WEAR
    | 20 => s.on R.FLASHC_CTRL_ECC_EN && s.on R.FLASHC_EVT_UNCORR
    | 21 => s.on R.ATTIC_CTRL_IRQ_EN && s.tabRead R.rowsATTIC 0xC != 0
    | 22 => s.on R.CAL_CTRL_IRQ_EN && (s.tabRead R.rowsCAL 0x88 != 0 || s.on R.CAL_ALARM_STAT_FIRED)
    | 23 => s.on R.DMA_DONE || s.on R.DMA_ERR
    | 48 => s.on (R.LPTIM_STAT_MATCH 0) && s.on (R.LPTIM_CTRL_IE 0)
    | 49 => s.on (R.LPTIM_STAT_MATCH 1) && s.on (R.LPTIM_CTRL_IE 1)
    | 50 => s.on L.WDA_WARNED
    | 51 => s.on L.WDL_WARNED
    | 52 => s.on R.HOSTP_CTRL_IRQ_EN && s.tabRead R.rowsHOSTP 0x10 != 0
    | 53 => s.on (R.CAN_CTRL_IRQ_EN 0) && s.tabRead (R.rowsCAN 0) 0x10 != 0
    | 54 => s.on (R.CAN_CTRL_IRQ_EN 1) && s.tabRead (R.rowsCAN 1) 0x10 != 0
    | 55 => s.on R.LIN_CTRL_IRQ_EN && s.tabRead R.rowsLIN 0x20 != 0
    | 56 => s.on R.GPIO_IRQ_STAT
    | 57 => s.on R.ADC_CTRL_IRQ_EN && s.tabRead R.rowsADC 0x18 != 0
    | 58 => s.on R.I2C_CTRL_IRQ_EN && s.tabRead R.rowsI2C 0x14 != 0
    | 59 => s.on R.SPIM_CTRL_IRQ_EN && s.on R.SPIM_EVT_DONE
    | _ => decide (60 ≤ k) && bit (s.rd R.EVM_SW) (k - 60)

/-- R382, R435: the level of event k. -/
def State.evLevel (s : State) (k : Nat) : Bool := s.domOn (blkDom (evBlock k)) && s.evCond k

/-- R436: event k reaches its interrupt source. -/
def State.evRouted (s : State) (k : Nat) : Bool :=
  s.evLevel k && bit (s.rd (if k < 32 then R.EVM_IRQ_EN_0 else R.EVM_IRQ_EN_1)) (k % 32)

end Sys2Proof.Machine
end

