-- ==== Sys2Proof/Machine/TimerOps.lean ====
section
/-!
DEFINITION. Machine/TimerOps.lean: how a timer's count moves (R421 to R423, R425, R426, R428), as shared operations.
-/
namespace Sys2Proof.Machine

open Sys2Proof

namespace L

/-- R421: PERIPH cycles since timer t's last prescaled tick. -/
def TM_PH (t : Nat) : Fld := latch 25 t 16 .w 0
/-- R424: edges since timer t's last capture, under PRE. -/
def TM_EDGE (t : Nat) : Fld := latch 25 (8 + t) 3 .w 0
/-- R428: timer t stands at CMP0 by a match, so that RST_ON_CMP0 takes it to 0 at its next tick. -/
def TM_HIT (t : Nat) : Fld := latch 25 (16 + t) 1 .w 0
/-- R425: timer t has wrapped and its pair's high half has not yet advanced. -/
def TM_CARRY (t : Nat) : Fld := latch 25 (24 + t) 1 .w 0

end L

/-! ### One counter, as numbers -/

/-- R421, R428: the ticks from count c to the next step to 0, with a reload value in force or none. -/
def cntFirst (top : Option Nat) (c : Nat) : Nat :=
  match top with
  | some v => if c ≤ v then v + 1 - c else 2 ^ 32 - c
  | none => 2 ^ 32 - c

/-- The ticks of each later lap from 0 to 0. -/
def cntLap (top : Option Nat) : Nat :=
  match top with
  | some v => v + 1
  | none => 2 ^ 32

/-- The count n ticks after c, and how many times it has stepped to 0. -/
def cntAt (top : Option Nat) (c n : Nat) : Nat :=
  if n < cntFirst top c then c + n else (n - cntFirst top c) % cntLap top
def cntWraps (top : Option Nat) (c n : Nat) : Nat :=
  if n < cntFirst top c then 0 else 1 + (n - cntFirst top c) / cntLap top

/-- R422: the ticks until the count next steps into x, if it ever does. -/
def cntDist (top : Option Nat) (c x : Nat) : Option Nat :=
  if c < x ∧ x < c + cntFirst top c then some (x - c)
  else if x < cntLap top then some (cntFirst top c + x) else none

/-- Whether n ticks from c step into x. -/
def cntHits (top : Option Nat) (c n x : Nat) : Bool :=
  match cntDist top c x with
  | some d => decide (d ≤ n)
  | none => false

/-! ### A timer -/

/-- R425: timer t is the high half of a pair, or the low half of one. -/
def State.timHigh (s : State) (t : Nat) : Bool := t % 2 == 1 && s.on (R.TIM_CFG_LINK (t - 1))
def State.timLow (s : State) (t : Nat) : Bool := t % 2 == 0 && s.on (R.TIM_CFG_LINK t)

/-- R428: the test fields take effect only while MODE is not NORMAL; the reload value in force. -/
def State.timTop (s : State) (t : Nat) : Option Nat :=
  if s.on R.SYSCTL_MODE_MODE && s.on (R.TIM_CFG_RELOAD_EN t) then some (s.rd (R.TIM_TOP t)) else none
def State.timRst (s : State) (t : Nat) : Bool := s.on R.SYSCTL_MODE_MODE && s.on (R.TIM_CFG_RST_ON_CMP0 t)

/-- R423: the gate of timer t is open. -/
def State.timGate (s : State) (t : Nat) : Bool :=
  !s.on (R.TIM_CFG_GATE_EN t) || bit (s.rd R.GPIO_IN) (s.rd (R.TIM_CFG_GATE_PIN t)) == !s.on (R.TIM_CFG_GATE_POL t)

/-- R421, R423, R430: timer t counts: its PERIPH clock runs, EN is 1, no debug halt holds it, its gate is open. -/
def State.timRuns (s : State) (t : Nat) : Bool :=
  s.online 25 && s.on (R.TIM_CTRL_EN t) && !(s.on L.DBG_HALT && s.on (R.TIM_CFG_DBG_FREEZE t)) && s.timGate t

/-- n ticks of the count of timer t alone, with STAT.WRAP and STAT.CMP1 as it passes them. -/
def State.timHalf (s : State) (t n : Nat) : State :=
  if n = 0 then s
  else
    let c := s.rd (R.TIM_CNT t)
    let top := s.timTop t
    ((s.when (cntWraps top c n != 0) fun s => s.wr (R.TIM_STAT_WRAP t) 1).when (cntHits top c n (s.rd (R.TIM_CMP1 t))) fun s =>
      s.wr (R.TIM_STAT_CMP1 t) 1).wr (R.TIM_CNT t) (cntAt top c n)

/-- R425: the pending carry of a pair reaches its high half. -/
def State.timCarry (s : State) (t : Nat) : State :=
  if s.on (L.TM_CARRY t) then (s.timHalf (t + 1) 1).wr (L.TM_CARRY t) 0 else s

/-- R426: the ticks until the 64-bit count of a pair, whose high half is up to date, next steps into its compare. -/
def State.pairDist (s : State) (t : Nat) : Option Nat :=
  let c := s.rd (R.TIM_CNT t)
  let x := s.rd (R.TIM_CMP0 t)
  let top := s.timTop t
  let h := s.rd (R.TIM_CNT (t + 1))
  if h = s.rd (R.TIM_CMP0 (t + 1)) ∧ c < x ∧ x < c + cntFirst top c then some (x - c)
  else
    match cntDist (s.timTop (t + 1)) h (s.rd (R.TIM_CMP0 (t + 1))) with
    | some k => if x < cntLap top then some (cntFirst top c + (k - 1) * cntLap top + x) else none
    | none => none

/-- R422, R426: the ticks until CMP0 of timer t matches. -/
def State.timDist0 (s : State) (t : Nat) : Option Nat :=
  if s.timLow t then s.pairDist t else cntDist (s.timTop t) (s.rd (R.TIM_CNT t)) (s.rd (R.TIM_CMP0 t))

/-- n ticks of a timer or a pair, no reset on match among them but at the end. -/
def State.timMove (s : State) (t n : Nat) : State :=
  if n = 0 then s
  else
    let s0 := if s.timLow t then s.timCarry t else s
    let hit := match s0.timDist0 t with
      | some d => decide (d ≤ n)
      | none => false
    let stands := match s0.timDist0 t with
      | some d => d == n
      | none => false
    let w := cntWraps (s0.timTop t) (s0.rd (R.TIM_CNT t)) n
    let s1 := ((s0.timHalf t n).when hit fun s => s.wr (R.TIM_STAT_CMP0 t) 1).wr (L.TM_HIT t) (b2n stands)
    if s1.timLow t then
      if w ≠ 0 ∧ s1.rd (R.TIM_CNT t) = 0 then (s1.timHalf (t + 1) (w - 1)).wr (L.TM_CARRY t) 1 else s1.timHalf (t + 1) w
    else s1

/-- R428: the tick that takes a matched count to 0. -/
def State.timZero (s : State) (t : Nat) : State :=
  let s1 := s.wrs [(R.TIM_CNT t, 0), (L.TM_HIT t, 0), (L.TM_CARRY t, 0)]
  let s2 := s1.when (s.timLow t) fun s => s.wr (R.TIM_CNT (t + 1)) 0
  s2.when (s.rd (R.TIM_CMP1 t) == 0) fun s => s.wr (R.TIM_STAT_CMP1 t) 1

/-- n ticks of a timer or a pair; each turn of the recursion goes at most to one reset on match. -/
def State.timTicks (s : State) (t : Nat) : Nat → Nat → State
  | 0, n => s.timMove t n
  | fuel + 1, n =>
    if n = 0 then s
    else if s.timRst t && s.on (L.TM_HIT t) then (s.timZero t).timTicks t fuel (n - 1)
    else if s.timRst t then
      match (s.timCarry t).timDist0 t with
      | some d => if d < n then (s.timMove t d).timTicks t fuel (n - d) else s.timMove t n
      | none => s.timMove t n
    else s.timMove t n

/-- What a row waits for: a match of CMP0, of CMP1 or a wrap, of a timer or of a pair's high half. -/
inductive TimWant where
  | cmp0 | cmp1 | wrap | highCmp1 | highWrap
  deriving DecidableEq, Repr

/-- The ticks until what a row waits for, the high half being up to date. -/
def State.timWait (s : State) (t : Nat) (w : TimWant) : Option Nat :=
  let c := s.rd (R.TIM_CNT t)
  let top := s.timTop t
  let laps (k : Option Nat) : Option Nat := k.map fun k => cntFirst top c + (k - 1) * cntLap top
  match w with
  | .cmp0 => s.timDist0 t
  | .cmp1 => cntDist top c (s.rd (R.TIM_CMP1 t))
  | .wrap => some (cntFirst top c)
  | .highCmp1 => (laps (cntDist (s.timTop (t + 1)) (s.rd (R.TIM_CNT (t + 1))) (s.rd (R.TIM_CMP1 (t + 1))))).map (· + 1)
  | .highWrap => (laps (some (cntFirst (s.timTop (t + 1)) (s.rd (R.TIM_CNT (t + 1)))))).map (· + 1)

/-- The timer run until what a row waits for happens; unchanged where it never does. -/
def State.timUntil (s : State) (t : Nat) (w : TimWant) : Nat → Option State
  | 0 => none
  | fuel + 1 =>
    if s.timRst t && s.on (L.TM_HIT t) then (s.timZero t).timUntil t w fuel
    else
      let s0 := if s.timLow t then s.timCarry t else s
      match s0.timWait t w with
      | none => if s0.timRst t then
          match s0.timDist0 t with
          | some d => (s0.timMove t d).timUntil t w fuel
          | none => none
        else none
      | some d =>
        match (if s0.timRst t then s0.timDist0 t else none) with
        | some d0 => if d0 < d then (s0.timMove t d0).timUntil t w fuel else some (s0.timMove t d)
        | none => some (s0.timMove t d)

/-- The timer that governs timer t (R425). -/
def State.timLead (s : State) (t : Nat) : Nat := if s.timHigh t then t - 1 else t

/-- A row's timer run until its occurrence, where the timer counts; its prescaler stands at a tick then. -/
def State.timRow (s : State) (t : Nat) (w : TimWant) : State :=
  if s.timRuns t then
    match s.timUntil t w 8 with
    | some s1 => s1.wr (L.TM_PH t) 0
    | none => s
  else s

/-- R421: c PERIPH cycles of every timer that counts. -/
def State.timCycles (s : State) (c : Nat) : State :=
  s.each (List.range 8) fun t s =>
    if s.timHigh t || !s.timRuns t then s
    else
      let s0 := if s.timLow t then s.timCarry t else s
      let d := s0.rd (R.TIM_PSC t) + 1
      let p := s0.rd (L.TM_PH t) + c
      (s0.timTicks t 8 (p / d)).wr (L.TM_PH t) (p % d)

/-- R421: CTRL.EN of timer t; the prescaler's phase restarts when it goes from 0 to 1. -/
def State.timEn (s : State) (t : Nat) (on : Bool) : State :=
  (s.when (on && !s.on (R.TIM_CTRL_EN t)) fun s => s.wr (L.TM_PH t) 0).wr (R.TIM_CTRL_EN t) (b2n on)

/-- R400, R428: MODE becomes NORMAL: the three test fields clear in every timer. -/
def State.timNormal (s : State) : State :=
  s.each (List.range 8) fun t s => s.wrs [(R.TIM_CFG_RELOAD_EN t, 0), (R.TIM_CFG_RST_ON_CMP0 t, 0), (R.TIM_CFG_START_EN t, 0)]

/-- R425, R427: the 64-bit count of a pair with a pending carry included: its high half. -/
def State.pairHigh (s : State) (t : Nat) : Nat :=
  if s.on (L.TM_CARRY t) then cntAt (s.timTop (t + 1)) (s.rd (R.TIM_CNT (t + 1))) 1 else s.rd (R.TIM_CNT (t + 1))

/-! ### Watchdogs and low-power timers -/

/-- R434: the application watchdog, and the link watchdog, hold their counts. -/
def State.wdaHeld (s : State) : Bool :=
  !s.domOn 5 || s.on L.DBG_HALT || (s.pwr == 1 && s.on R.WDA_CFG2_IDLE_PAUSE)
def State.wdlHeld (s : State) : Bool :=
  !s.domOn 6 || s.rd R.LINK_STAT_CORES == 0 || s.rd R.LINK_STAT_CORES == 3

/-- R432, R433, R477: a watchdog's reset, with its detector: WDA and WDL. -/
def State.wdaFire (s : State) (early inj : Bool) : State :=
  ((s.wr R.WDA_STAT_EARLY (b2n early)).fire 0x18 0 inj).appReset 3
def State.wdlFire (s : State) (early inj : Bool) : State :=
  (((s.wr R.WDL_STAT_EARLY (b2n early)).fire 0x19 0 inj).linkReset 4).wr R.WDL_STAT_COUNT 0

/-- R431: low-power timer n counts. -/
def State.lpRuns (s : State) (n : Nat) : Bool :=
  s.on (R.LPTIM_CTRL_EN n) && s.pwr != 4 && s.domOn 1 && !(s.on L.DBG_HALT && s.on (R.LPTIM_CTRL_DBG_FREEZE n))

/-- R431, R391: k counts of low-power timer n, with its flags and its wake source. -/
def State.lpMove (s : State) (n k : Nat) : State :=
  let c := s.rd (R.LPTIM_CNT n)
  let s1 := (s.when (cntWraps none c k != 0) fun s => s.wr (R.LPTIM_STAT_WRAP n) 1).wr (R.LPTIM_CNT n) (cntAt none c k)
  if cntHits none c k (s.rd (R.LPTIM_MATCH n)) then (s1.wr (R.LPTIM_STAT_MATCH n) 1).wakeFire (7 + n) else s1

end Sys2Proof.Machine
end

