-- ==== Sys2Proof/Machine/AtticFlow.lean ====
section
/-!
DEFINITION. Machine/AtticFlow.lean: the ATTIC engine's commands (R353, R364, R367, R375) and the resident loader's install,
a step at a time (R365 to R373), as shared operations.
-/
namespace Sys2Proof.Machine

open Sys2Proof

namespace L

/-- R367: a COPY is under way; its present page was found equal. -/
def CP_ON : Fld := latch 21 13 1 .w 0
def CP_EQ : Fld := latch 21 14 1 .w 0
/-- R368: a repetition of the held page runs. -/
def AW_RPT : Fld := latch 44 27 1 .w 0

end L

/-! ### The engine -/

/-- R375: an engine command ends with a RESULT. -/
def State.atResult (s : State) (r : Nat) : State :=
  s.wrs [(R.ATTIC_CMD_STAT_RESULT, r), (if r = 1 then R.ATTIC_EVT_DONE else R.ATTIC_EVT_ERR, 1)]

/-- Whether the array takes a write of the engine or the loader: nothing runs and no dip lasts. -/
def State.atFree (s : State) : Bool := !s.flRunning && !s.on R.FLASHC_STAT_SUSPENDED && !s.on R.SYSCTL_SUPPLY_STAT_WARN

/-- R364: a record of octets 0 to 11 appended at the first erased word of the journal half in use, or of the STAGE LOG;
`ok` tells that its program verifies. -/
def State.atAppend (s : State) (stage : Bool) (l : List Byte) (ok : Bool) : State :=
  let base := if stage then atStageLog else atJournal (s.rd R.ATTIC_J_WP_HALF)
  let n := if stage then 1024 else 512
  let wp := if stage then R.ATTIC_S_WP_INDEX else R.ATTIC_J_WP_INDEX
  let i := s.atEnd base n
  if n ≤ i then s.atResult 5
  else if !s.atFree then s.atResult 3
  else if ok then ((s.wrBs (base + 16 * i) (atWord l)).wr wp (i + 1)).atResult 1
  else ((s.flUndef (base + 16 * i, 16)).wr wp (i + 1)).atResult 4

/-- A write of a call or of the engine starts in the array: its bank is busy until it ends (R284, R338). -/
def State.acGo (s : State) (code arg at' : Nat) (ok : Bool) (l : List Byte) : State :=
  (s.setFf L.AC_BUF (l.map BitVec.toNat)).wrs [(L.AC_ON, code), (L.AC_OK, b2n ok), (L.AC_ARG, arg), (L.FL_ENG, 1), (L.FL_ENGA, at'),
    (flBusy (flBank at'), 1)]

/-- R364, R376: APPEND_J or APPEND_S: LOG_FULL, BUSY, or the program of the record starts. -/
def State.atAppendGo (s : State) (stage : Bool) (l : List Byte) (ok : Bool) : State :=
  let base := if stage then atStageLog else atJournal (s.rd R.ATTIC_J_WP_HALF)
  let n := if stage then 1024 else 512
  let i := s.atEnd base n
  if n ≤ i then s.atResult 5
  else if !s.atFree then s.atResult 3
  else (s.acGo (if stage then 6 else 5) (base + 16 * i) (base + 16 * i) ok l).wrs [(R.ATTIC_CMD_STAT_BUSY, 1), (R.ATTIC_CMD_STAT_RESULT, 0)]

/-- R361, R368: a held page has been written after all: the install goes on. -/
def State.atUnhold (s : State) : State :=
  if s.on R.ATTIC_STAT_FLASH_HOLD then
    s.wrs [(R.ATTIC_STAT_FLASH_HOLD, 0), (R.ATTIC_STAT_PHASE, 2), (R.ATTIC_EVT_RESUMED, 1), (L.AW_RPT, 0), (L.AW_FAILS, 0)]
  else s.wr L.AW_FAILS 0

/-- R367, R361: the next page of a COPY starts with its PAGE record and the comparison, or waits for the reasons to clear. -/
def State.cpBegin (s : State) : State :=
  if s.atReasons ≠ 0 then s.atHold
  else
    let i := s.rd R.ATTIC_COPY_PROG_DONE
    let src := s.rd R.ATTIC_COPY_SRC + 0x1000 * i
    let dst := s.rd R.ATTIC_COPY_DST + 0x1000 * i
    let s1 := (s.atAppend false (atRecBytes 0x13 4 ((dst - 0x08020000) / 0x1000) (s.freeVal 32) (s.freeStep.freeVal 32)) true).freeStep.freeStep
    if s1.rd R.ATTIC_CMD_STAT_RESULT ≠ 1 then (s1.wrs [(L.CP_ON, 0), (R.ATTIC_CMD_STAT_BUSY, 0)]).ifEnd 1
    else
      let eq := s1.rdBs src 0x1000 == s1.rdBs dst 0x1000
      (s1.wrs [(R.ATTIC_CMD_STAT_RESULT, 0), (R.ATTIC_EVT_DONE, s.rd R.ATTIC_EVT_DONE), (L.CP_EQ, b2n eq), (L.FL_ENG, b2n !eq), (L.FL_ENGA, dst),
        (R.FLASHC_STAT_BUSY0, b2n !eq)]).ifStep 1 (if eq then 1 else 2) i dst 0

/-- R367: a COPY command: its arguments checked (BAD_ARG 6), refused (2), BUSY (3), or started. -/
def State.cpGo (s : State) : State :=
  let n := s.rd R.ATTIC_COPY_N
  let src := s.rd R.ATTIC_COPY_SRC
  let dst := s.rd R.ATTIC_COPY_DST
  if n = 0 ∨ 479 < n ∨ src % 0x1000 ≠ 0 ∨ dst % 0x1000 ≠ 0 ∨ src < 0x08200000 ∨ 0x083E0000 < src + 0x1000 * n ∨ dst < 0x08020000 ∨
      0x08200000 < dst + 0x1000 * n then s.atResult 6
  else if s.atReasons ≠ 0 then s.atRefuse.atResult 2
  else if !s.atFree then s.atResult 3
  else
    ((s.wrs [(R.ATTIC_COPY_PROG_DONE, 0), (R.ATTIC_COPY_PROG_SKIPPED, 0), (R.ATTIC_CMD_STAT_BUSY, 1), (R.ATTIC_CMD_STAT_RESULT, 0),
      (L.CP_ON, 1)]).ifStart 1 3 1 0 dst 0).cpBegin

/-- R367: the present page of a COPY ends: equal, written and verified, or failed twice. -/
def State.cpPage (s : State) (fail : Bool) : State :=
  let i := s.rd R.ATTIC_COPY_PROG_DONE
  let src := s.rd R.ATTIC_COPY_SRC + 0x1000 * i
  let dst := s.rd R.ATTIC_COPY_DST + 0x1000 * i
  let eq := s.on L.CP_EQ
  let o := if eq then (false, s) else s.occasion 0x24
  let s0 := (o.2.when o.1 fun s => s.fire 0x24 dst true).wrs [(L.FL_ENG, 0), (R.FLASHC_STAT_BUSY0, 0), (R.ATTIC_EVT_PAGE, 1)]
  if !eq && (fail || (o.1 && s0.on L.INJ_ON)) then
    ((s0.flUndef (dst, 0x1000)).wrs [(L.CP_ON, 0), (R.ATTIC_CMD_STAT_BUSY, 0)]).atResult 4 |>.ifEnd 1
  else
    let s1 := if eq then s0.inc R.ATTIC_COPY_PROG_SKIPPED 1 else (s0.flMend (dst, 0x1000)).wrRun dst (s0.rdBs src 0x1000)
    let s2 := (s1.wr R.ATTIC_COPY_PROG_DONE (i + 1)).atUnhold
    if i + 1 < s.rd R.ATTIC_COPY_N then s2.cpBegin
    else ((s2.wrs [(L.CP_ON, 0), (R.ATTIC_CMD_STAT_BUSY, 0)]).atResult 1).ifEnd 1

/-- R353: a PFW_WRITE (4) or PFW_SELECT (5) command. -/
def State.pfCmd (s : State) (op : Nat) : State :=
  let n := s.rd R.ATTIC_PFW_LEN
  let src := s.rd R.ATTIC_PFW_SRC
  if op = 4 ∧ (n < 64 ∨ 16384 < n ∨ src < 0x08200000 ∨ 0x08400000 < src + n) then s.atResult 6
  else if op = 4 ∧ s.atReasons ≠ 0 then s.atRefuse.atResult 2
  else
    ((s.wrs [(L.PF_OP, op), (L.PF_I, 0), (L.PF_ST, 2), (R.ATTIC_CMD_STAT_BUSY, 1), (R.ATTIC_CMD_STAT_RESULT, 0)]).ifStart 1 op 0 0 0 0).porchArb

/-- R353: a 64-octet page of the inactive slot is programmed, or fails twice. -/
def State.pfPage (s : State) (ok : Bool) : State :=
  let i := s.rd L.PF_I
  let slot := 1 - s.rd R.ATTIC_PFW_STAT_ACTIVE
  let n := min 64 (s.rd R.ATTIC_PFW_LEN - 64 * i)
  let a := slot * 16384 + 64 * i
  let s0 := s.wr L.PF_BUSY 0
  if !ok then
    (((s0.wrFw a ((List.range n).map fun k => Config.freeByte s0.free (a + k))).freeStep).pfEnd 4).porchArb
  else
    let s1 := ((s0.wrFw a (s.rdBs (s.rd R.ATTIC_PFW_SRC + 64 * i) n)).wr L.PF_I (i + 1)).ifStep 1 0 (i + 1) a 0
    if 64 * (i + 1) < s.rd R.ATTIC_PFW_LEN then s1.porchArb else (s1.pfEnd 1).porchArb

/-! ### The loader's own flash writes -/

/-- A FLASHC command of the loader, its write protection lifted around it (R377). -/
def State.ldrFlash (s : State) (op a data : Nat) : State :=
  let s1 := ((s.wrs [(R.FLASHC_WRP_0, 0), (R.FLASHC_WRP_1, 0), (R.FLASHC_ADDR, a)]).flStart .app op a data false).wrs
    [(R.FLASHC_WRP_0, s.rd R.FLASHC_WRP_0), (R.FLASHC_WRP_1, s.rd R.FLASHC_WRP_1), (L.AW_WAIT, 1)]
  s1.when (op == 1) fun s => s.wrs [(R.FLASHC_DATA_0, data % 2 ^ 32), (R.FLASHC_DATA_1, data / 2 ^ 32), (R.FLASHC_DATA_2, data / 2 ^ 64),
    (R.FLASHC_DATA_3, data / 2 ^ 96)]

/-- A write of octets begins: kind 1 pages erased and programmed, 2 pages erased, 3 a block erased and programmed. -/
def State.awStart (s : State) (kind dst len : Nat) (l : List Byte) (next : Nat) : State :=
  (s.setFf L.AW_BUF (l.map BitVec.toNat)).wrs [(L.AW_ON, kind), (L.AW_DST, dst), (L.AW_LEN, len), (L.AW_I, 0), (L.AW_WAIT, 0), (L.AW_FAILS, 0),
    (L.AT_NEXT, next)]

/-- The FLASHC command a write issues next: its code, address and data; none once it is complete. -/
def State.awOp (s : State) : Option (Nat × Nat × Nat) :=
  let i := s.rd L.AW_I
  let dst := s.rd L.AW_DST
  let len := s.rd L.AW_LEN
  let word (off : Nat) : Option (Nat × Nat × Nat) :=
    if len ≤ off then none
    else some (1, dst + off, ofLe (fit 0xFF#8 16 (((s.ff L.AW_BUF).drop off).take 16 |>.map (BitVec.ofNat 8))))
  match s.rd L.AW_ON with
  | 1 =>
    if len ≤ i / 257 * 0x1000 then none
    else if i % 257 = 0 then some (2, dst + i / 257 * 0x1000, 0)
    else word (i / 257 * 0x1000 + 16 * (i % 257 - 1))
  | 2 => if len ≤ i * 0x1000 then none else some (2, dst + i * 0x1000, 0)
  | 3 => if i = 0 then some (3, dst, 0) else word (16 * (i - 1))
  | _ => none

/-- Whether a write stands at the start of a page (R361), and where its present page starts. -/
def State.awFirst (s : State) : Nat :=
  match s.rd L.AW_ON with
  | 1 => s.rd L.AW_I / 257 * 257
  | 2 => s.rd L.AW_I
  | _ => 0

/-- R368: a page has failed its verify twice, or a repetition has failed: the install holds. -/
def State.atHoldPage (s : State) : State :=
  s.wrs [(R.ATTIC_STAT_FLASH_HOLD, 1), (R.ATTIC_STAT_PHASE, 3), (R.ATTIC_EVT_ERR, 1), (L.AW_RPT, 0)]

/-- One move of the loader's write: a command issued, its end seen, the next page, or its completion. -/
def State.awTick (s : State) : State :=
  if s.flRunning || s.on R.SYSCTL_SUPPLY_STAT_WARN then s
  else if s.on L.AW_WAIT then
    if s.rd R.FLASHC_STAT_RESULT = 1 then
      let s1 := s.wrs [(L.AW_WAIT, 0), (L.AW_I, s.rd L.AW_I + 1)]
      if s1.awOp.isNone ∨ s1.awFirst = s1.rd L.AW_I then s1.atUnhold else s1
    else
      let f := s.rd L.AW_FAILS + 1
      let s1 := s.wrs [(L.AW_WAIT, 0), (L.AW_I, s.awFirst), (L.AW_FAILS, f)]
      if 2 ≤ f then s1.atHoldPage else s1
  else
    match s.awOp with
    | none => s.wrs [(L.AW_ON, 0), (L.AT_PC, s.rd L.AT_NEXT)]
    | some op =>
      if s.awFirst = s.rd L.AW_I ∧ s.atReasons ≠ 0 ∧ !s.on R.ATTIC_STAT_FLASH_HOLD then s.atPause
      else s.ldrFlash op.1 op.2.1 op.2.2

/-! ### The install (R365 to R373) -/

/-- The present component: its code and its header. -/
def State.atCode (s : State) : Nat := (s.ff L.AT_ORD).getD (s.rd L.AT_I) 9
def State.atHdr (s : State) : List Byte := pkgComp (s.atPkg.getD []) s.atCode
/-- The staged octets of the present component (R356). -/
def State.atStaged (s : State) : List Byte := s.rdBs (atStaging (compPage s.atHdr)) (compLen s.atHdr)

/-- A journal record of the loader, and the step it goes on with; it waits while the array is busy. -/
def State.atJournalThen (s : State) (typ comp seq arg pc : Nat) : State :=
  if !s.atFree then s
  else if s.atReasons ≠ 0 then s.atPause
  else (s.atAppend false (atRecBytes typ comp 0 seq arg) true).wr L.AT_PC pc

/-- R366, R365 step 2, R371: the loader's code and the interlude copied into application SRAM: the interlude from the
staged APP_IMAGE where there is one, from the installed image otherwise. -/
def State.atToSram (s : State) : State :=
  let n := s.free
  let s1 := (s.wrRun 0x200DC000 ((List.range 0x4000).map fun i => Config.freeByte n i)).freeStep
  let img := if (s.ff L.AT_ORD).contains 4 then atStaging (compPage (pkgComp (s.atPkg.getD []) 4)) else 0x08020000
  let len := min (s.rdLe (img + 0x18) 4) 126976
  s1.wrRun 0x200E0000 (s.rdBs (img + s.rdLe (img + 0x14) 4) len)

/-- R351, R369: the copy a FLOOR_PLAN is written to, its SEQ, and whether the copy in force is erased after it. -/
def State.atPlanCopy (s : State) : Nat × Nat × Bool :=
  let used := s.rd R.FLOOR_STATUS_USED
  let seq := s.rd R.FLOOR_SEQ
  if used = 0 then (0, 1, false)
  else if seq = 0xFFFFFFFE then (2 - used, 1, true) else (2 - used, seq + 1, false)

/-- The staged plan with its SEQ and CRC made to fit. -/
def planWith (img : List Byte) (seq : Nat) : List Byte :=
  let l := img.take 8 ++ leBytes 4 seq ++ img.drop 12
  l.take 16 ++ leBytes 4 (crc32c (l.take 16 ++ zeros 4 ++ l.drop 20)) ++ l.drop 20

/-- R358: the octets of the HEADER SET page an install writes. -/
def State.atNewSet (s : State) : List Byte :=
  let pkg := s.atPkg.getD []
  let old := s.atInstalled
  let slot (c : Nat) : List Byte :=
    let h := if (s.ff L.AT_ORD).contains c then pkgComp pkg c else old.getD c []
    fit 0xFF#8 64 h
  let l := leBytes 4 (s.rd L.AT_SEQ) ++ (List.range 5).flatMap slot
  l ++ leBytes 4 (crc32c l)

/-- R370: the staged microcode into the inactive bank, and SWAP. -/
def State.atSwap (s : State) : State :=
  if s.mcBusy then s
  else s.wrs [(L.MC_TGT, if s.rd R.LINK_MC_STAT_ACTIVE = 1 then 1 else 0), (R.LINK_STAT_CHECKING, 1)]

/-- R365: one move of the install at its present step. -/
def State.atStep (s : State) : State :=
  let hdr := s.atHdr
  match s.rd L.AT_PC with
  | 1 => s.atToSram.wr L.AT_PC (s.rd L.AT_NEXT)
  | 2 =>
    let h := match s.atHalf with | some x => 1 - x | none => 0
    let seq := (match s.hdrSetPage with | some p => s.hdrSetSeq p | none => 0) + 1
    (s.wrs [(R.ATTIC_J_WP_HALF, h), (R.ATTIC_J_WP_INDEX, 0), (L.AT_SEQ, seq)]).awStart 2 (atJournal h) 0x2000 [] 4
  | 4 => s.atJournalThen 0x11 0 (s.rd L.AT_SEQ) (pkgId (s.atPkg.getD [])) 3
  | 3 =>
    if (s.ff L.AT_ORD).length ≤ s.rd L.AT_I then s.wr L.AT_PC 20
    else (s.wr R.ATTIC_STAT_COMP s.atCode).freeStep.freeStep.atJournalThen 0x12 s.atCode (s.freeVal 32) (s.freeStep.freeVal 32) (10 + s.atCode)
  | 10 =>
    let c := s.atPlanCopy
    let img := planWith s.atStaged c.2.1
    if c.2.2 && s.fpErr c.1 == 0 && s.rdLe (fpCopy c.1 + 0x10) 4 == hdrAt img 0x10 4 then s.wr L.AT_PC 15
    else s.awStart 1 (fpCopy c.1) (compLen hdr) img 15
  | 15 =>
    let c := s.atPlanCopy
    if s.fpErr c.1 ≠ 0 then (s.wrs [(L.AW_FAILS, max 2 (s.rd L.AW_FAILS + 1)), (L.AT_PC, 10)]).atHoldPage
    else if c.2.2 then s.awStart 2 (fpCopy (1 - c.1)) 0x2000 [] 16
    else s.wr L.AT_PC 16
  | 16 => if bit (hdrAt hdr 2 2) 0 then s.wr L.AT_PC 9 else s.reloadGo.wr L.AT_PC 17
  | 17 => if s.on R.FLOOR_STATUS_RELOAD_BUSY then s else s.wr L.AT_PC 9
  | 11 => s.awStart 1 0x083F0000 (compLen hdr) s.atStaged 9
  | 12 => if !s.online 10 then s else
    ((s.wrRun (mcBank (if s.rd R.LINK_MC_STAT_ACTIVE = 1 then 1 else 0)) s.atStaged).atSwap).wrs [(L.AT_TRY, 0), (L.AT_PC, 18)]
  | 18 =>
    if s.mcBusy then s
    else if s.rd R.LINK_MC_STAT_REASON = 1 then s.wr L.AT_PC 19
    else if s.rd R.LINK_MC_STAT_REASON = 7 ∧ s.rd L.AT_TRY < 99 then (s.inc L.AT_TRY 1).atSwap
    else s.wrs [(R.ATTIC_STAT_PHASE, 1), (L.AT_PC, 0)]
  | 19 => s.awStart 3 0x083E0000 (compLen hdr) s.atStaged 9
  | 13 =>
    if s.on R.ATTIC_CMD_STAT_BUSY then s
    else if s.atReasons ≠ 0 ∧ !s.on R.ATTIC_STAT_FLASH_HOLD then s.atPause
    else ((s.wrs [(R.ATTIC_PFW_SRC, atStaging (compPage hdr)), (R.ATTIC_PFW_LEN, compLen hdr)]).pfCmd 4).wr L.AT_PC 24
  | 24 =>
    if s.on R.ATTIC_CMD_STAT_BUSY then s
    else if s.rd R.ATTIC_CMD_STAT_RESULT = 1 then (s.atUnhold.pfCmd 5).wr L.AT_PC 25
    else if s.rd R.ATTIC_CMD_STAT_RESULT = 2 then s.wr L.AT_PC 13
    else (s.wrs [(L.AW_FAILS, max 2 (s.rd L.AW_FAILS + 1)), (L.AT_PC, 13)]).atHoldPage
  | 25 =>
    if s.on R.ATTIC_CMD_STAT_BUSY then s
    else if s.rd R.ATTIC_CMD_STAT_RESULT = 1 then s.atUnhold.wr L.AT_PC 9
    else (s.wrs [(L.AW_FAILS, max 2 (s.rd L.AW_FAILS + 1)), (L.AT_PC, 13)]).atHoldPage
  | 14 =>
    if s.on R.ATTIC_CMD_STAT_BUSY || !s.atFree then s
    else if s.atReasons ≠ 0 ∧ !s.on R.ATTIC_STAT_FLASH_HOLD then s.atPause
    else
      let f := s.rd L.AT_FROM
      ((s.wrs [(R.ATTIC_COPY_SRC, atStaging (compPage hdr + f)), (R.ATTIC_COPY_DST, 0x08020000 + 0x1000 * f),
        (R.ATTIC_COPY_N, compPages hdr - f)]).cpGo).wr L.AT_PC 26
  | 26 =>
    if s.on R.ATTIC_CMD_STAT_BUSY then s
    else if s.rd R.ATTIC_CMD_STAT_RESULT = 1 then s.wr L.AT_PC 27
    else if s.rd R.ATTIC_CMD_STAT_RESULT = 2 ∨ s.rd R.ATTIC_CMD_STAT_RESULT = 3 then s.wr L.AT_PC 14
    else (s.wrs [(L.AW_FAILS, max 2 (s.rd L.AW_FAILS + 1)), (L.AT_FROM, s.rd L.AT_FROM + s.rd R.ATTIC_COPY_PROG_DONE), (L.AT_PC, 14)]).atHoldPage
  | 27 =>
    if s.on R.FLASHC_STAT_BUSY0 then s
    else if crc32c (s.rdBs 0x08020000 (compLen hdr)) = compCrc hdr then s.wr L.AT_PC 9
    else (s.wrs [(L.AW_FAILS, max 2 (s.rd L.AW_FAILS + 1)), (L.AT_FROM, 0), (L.AT_PC, 14)]).atHoldPage
  | 9 =>
    let s1 := s.freeStep.freeStep.atJournalThen 0x14 s.atCode (s.freeVal 32) (s.freeStep.freeVal 32) 3
    if s1.rd L.AT_PC = 3 then s1.wrs [(L.AT_I, s.rd L.AT_I + 1), (L.AT_FROM, 0)] else s1
  | 20 => s.awStart 1 (atHeaderSet (match s.hdrSetPage with | some p => 1 - p | none => 0)) 328 s.atNewSet 21
  | 21 => s.freeStep.freeStep.atJournalThen 0x15 0 (s.freeVal 32) (s.freeStep.freeVal 32) 22
  | 22 => (s.wr R.ATTIC_S_WP_INDEX 0).awStart 2 atStageLog 0x4000 [] 23
  | 23 => if (s.ff L.AT_ORD).contains 4 then s.wrs [(R.ATTIC_STAT_PHASE, 4), (L.AT_PC, 28)] else s.wrs [(R.ATTIC_STAT_PHASE, 0), (L.AT_PC, 0)]
  | 28 => s.wrs [(R.ATTIC_STAT_PHASE, 0), (L.AT_PC, 0)]
  | _ => s

/-! ### What the loader's calls leave in FLASHC -/

/-- R335, R339, R349: after a call that wrote whole pages: the last command's address and data, its RESULT, and pulse
counts within their bounds, which the spec leaves open. -/
def State.ldrWrote (s : State) (a : Nat) (l : List Byte) : State :=
  let p := 1 + s.freeVal 3
  let e := 1 + s.freeStep.freeVal 4
  let d := ofLe l
  s.freeStep.freeStep.wrs [(R.FLASHC_ADDR, a), (R.FLASHC_DATA_0, d), (R.FLASHC_DATA_1, d / 2 ^ 32), (R.FLASHC_DATA_2, d / 2 ^ 64),
    (R.FLASHC_DATA_3, d / 2 ^ 96), (R.FLASHC_STAT_RESULT, 1), (R.FLASHC_EVT_DONE, 1), (R.FLASHC_PGM_PULSES_LAST, p),
    (R.FLASHC_PGM_PULSES_MAX, max p (s.rd R.FLASHC_PGM_PULSES_MAX)), (R.FLASHC_ERS_PULSES_LAST, e),
    (R.FLASHC_ERS_PULSES_MAX, max e (s.rd R.FLASHC_ERS_PULSES_MAX))]

/-- R337, R339: a page of a call that failed its verify: undefined, with the command's result. -/
def State.ldrFailed (s : State) (a : Nat) : State :=
  (((s.flUndef (a, 0x1000)).wr R.FLASHC_ADDR a).flResult 9).fire 0x24 a

/-- A page erased and written by a call. -/
def State.ldrPage (s : State) (a : Nat) (l : List Byte) : State :=
  let n := (l.length + 15) / 16 - 1
  (((s.flErase (a, 0x1000)).wrRun a l).ldrWrote (a + 16 * n) (fit 0xFF#8 16 (l.drop (16 * n))))

/-- A record a call appends to the STAGE LOG; SEQ and, but for PKG, ARG are left open. -/
def State.attLog (s : State) (typ comp page : Nat) (arg : Option Nat) : State :=
  (s.freeStep.freeStep).atAppend true (atRecBytes typ comp page (s.freeVal 32) (arg.getD (s.freeStep.freeVal 32))) true

/-- R356: the component of the package that chunk p belongs to. -/
def pkgChunk (h : List Byte) (p : Nat) : Option (List Byte) :=
  (pkgComps h).find? fun c => decide (compPage c ≤ p) && decide (p < compPage c + compPages c)
/-- Whether the STAGE LOG has a CHUNK record for every page of a component. -/
def chunksDone (rs : List AtRec) (c : List Byte) : Bool :=
  (List.range (compPages c)).all fun i => rs.any fun r => r.typ == 2 && r.page == compPage c + i

/-! ### The ends of the calls' writes (R284, R359) -/

/-- R359, R363: attic_begin ends: STAGING page 0 and a STAGE LOG of one record written, or the page failed. -/
def State.beginEnd (s : State) (ok : Bool) (h : List Byte) : Nat × State :=
  if !ok then (6, s.ldrFailed (atStaging 0))
  else (0, ((((s.flErase (atStageLog, 0x4000)).ldrPage (atStaging 0) h).wr R.ATTIC_S_WP_INDEX 0).attLog 1 0 0 (some (pkgId h))).wr R.ATTIC_STAT_PHASE 1)

/-- R356, R359: attic_stage ends: the page written and logged, and the component's CRC checked after its last chunk. -/
def State.stageEnd (s : State) (p : Nat) (ok : Bool) (l : List Byte) : Nat × State :=
  match pkgChunk (s.atPkg.getD []) p with
  | none => (2, s)
  | some c =>
    if !ok then (6, s.ldrFailed (atStaging p))
    else
      let s1 := (s.ldrPage (atStaging p) l).attLog 2 (compCode c) p none
      if s1.rd R.ATTIC_CMD_STAT_RESULT ≠ 1 then (6, s1)
      else if !chunksDone s1.atStageRecs c then (0, s1)
      else if crc32c (s1.rdBs (atStaging (compPage c)) (compLen c)) ≠ compCrc c then (2, s1)
      else
        let s2 := s1.attLog 3 (compCode c) 0 none
        (if s2.rd R.ATTIC_CMD_STAT_RESULT = 1 then 0 else 6, s2)

/-- R359: attic_abandon ends: the STAGE LOG erased, or its first page failed. -/
def State.abandonEnd (s : State) (ok : Bool) : Nat × State :=
  if !ok then (6, s.ldrFailed atStageLog)
  else (0, (s.flErase (atStageLog, 0x4000)).wrs [(R.ATTIC_S_WP_INDEX, 0), (R.ATTIC_STAT_PHASE, 0), (L.AT_BAD, 0)])

/-- R362: attic_owner_lock ends: the record in the LOCK LOG page in use, or in the other one when that is full. -/
def State.lockEnd (s : State) (ok : Bool) (c : List Byte) : Nat × State :=
  let op := hdrAt c 4 1
  let e0 := s.atEnd (atLockLog 0) 256
  let e1 := s.atEnd (atLockLog 1) 256
  let pg := if e0 = 0 ∧ 0 < e1 then 1 else 0
  let w := atWord (atRecBytes op 0 0 0 (hdrAt c 8 4))
  let e := if pg = 0 then e0 else e1
  let a := if e < 256 then atLockLog pg + 16 * e else atLockLog (1 - pg) + 16
  if !ok then (6, ((s.flUndef (a, 16)).wr R.FLASHC_ADDR a).flResult 9 |>.fire 0x24 a)
  else
    let s1 :=
      if e < 256 then s.wrBs a w
      else
        let keep := match s.lockLatest with | some r => atWord (atRecBytes r.typ r.comp r.page r.seq r.arg) | none => []
        (((s.flErase (atLockLog (1 - pg), 0x1000)).wrBs (atLockLog (1 - pg)) keep).flErase (atLockLog pg, 0x1000)).wrBs a w
    (0, ((s1.ldrWrote a w).wr R.ATTIC_STAT_OWNER_LOCK (b2n (op == 1))).atResult 1)

/-- R364: the record of an APPEND ends: it stands at its word, or left the word undefined. -/
def State.appendEnd (s : State) (stage ok : Bool) (l : List Byte) : State :=
  let a := s.rd L.AC_ARG
  let base := if stage then atStageLog else atJournal (s.rd R.ATTIC_J_WP_HALF)
  let s1 := s.wrs [(if stage then R.ATTIC_S_WP_INDEX else R.ATTIC_J_WP_INDEX, (a - base) / 16 + 1), (R.ATTIC_CMD_STAT_BUSY, 0)]
  if ok then (s1.wrBs a (atWord l)).atResult 1 else (s1.flUndef (a, 16)).atResult 4

/-- R359, R364, R477: the write of a call or of the engine ends with its verify, which an injection makes fail: the call answers its
status. -/
def State.acEnd (s : State) : State :=
  let l := (s.ff L.AC_BUF).map (BitVec.ofNat 8)
  let o := (s.wrs [(L.AC_ON, 0), (L.FL_ENG, 0), (flBusy (flBank (s.rd L.FL_ENGA)), 0)]).occasion 0x24
  let ok := s.on L.AC_OK && !o.1
  let done (r : Nat × State) : State := r.2.answer r.1
  match s.rd L.AC_ON with
  | 1 => done (o.2.beginEnd ok l)
  | 2 => done (o.2.stageEnd (s.rd L.AC_ARG) ok l)
  | 3 => done (o.2.abandonEnd ok)
  | 4 => done (o.2.lockEnd ok l)
  | c => o.2.appendEnd (c == 6) ok l

/-- R341: a write of a call or of the engine ends at a tick, with the flash running and no dip; a call's also needs its core. -/
def State.acRuns (s : State) : Bool :=
  s.domOn 11 && s.islOn 9 && !s.on R.SYSCTL_SUPPLY_STAT_WARN &&
    (decide (5 ≤ s.rd L.AC_ON) || (s.domOn 5 && s.islOn 2 && !s.on L.CORE_STOP && !s.on L.DBG_HALT))

/-- R365: the install moves on, while its core and the flash run, unless it is paused or held. -/
def State.installTick (s : State) : State :=
  if s.rd L.AT_PC = 0 ∨ !s.domOn 5 ∨ !s.islOn 2 ∨ !s.domOn 11 ∨ !s.islOn 9 ∨ s.on L.CORE_STOP ∨ s.on L.DBG_HALT then s
  else if s.on R.ATTIC_STAT_FLASH_HOLD && !s.on L.AW_RPT then s
  else if s.rd R.ATTIC_STAT_PHASE = 3 ∧ !s.on R.ATTIC_STAT_FLASH_HOLD then s
  else if s.on L.AW_ON then s.awTick
  else s.atStep

/-- What the loader and the engine do at a tick: a write under way ends, else the install moves on. -/
def State.attTick (s : State) : State :=
  if s.on L.AC_ON then (if s.acRuns then s.acEnd else s) else s.installTick

end Sys2Proof.Machine
end

