-- ==== Sys2Proof/Machine/Attic.lean ====
section
/-!
DEFINITION. Machine/Attic.lean: the loader's functions and the engine's commands (R351 to R377): one meaning for each of
their rows. A call's status is what it answers.
-/
namespace Sys2Proof.Machine

open Sys2Proof

/-! ### Calls of the loader (R359) -/

/-- R359: a call of the application core, which runs: `eff` gives the status it returns and the state after; a call that has started a
write in the array answers as that ends (State.acEnd), and the core makes no other call until then. -/
def State.attCall (s : State) (eff : State → Nat × State) : Out :=
  if !s.domOn 5 || !s.islOn 2 || !s.online 20 || s.on L.CORE_STOP || s.on L.FP_LOADING || s.on L.TEST_HOLD then .next s.err
  else if s.on L.AC_ON && decide (s.rd L.AC_ON < 5) then .next s.waits
  else
    let r := eff s
    .next ((if r.2.on L.AC_ON && decide (r.2.rd L.AC_ON < 5) then r.2.waits else r.2.answer r.1).settle)

/-- R354, R356: the key of a package: its slot must permit the ATTIC user. -/
def pkgSlot (h : List Byte) : Nat := hdrAt h 7 1 % 16
def State.pkgKey (s : State) (h : List Byte) : List Byte :=
  s.jobKey (pkgSlot h) ((h.drop 0x10).take 16) ((h.drop 0x20).take 16) (bit (hdrAt h 7 1) 4) false
def pkgNonce (h : List Byte) : List Byte := (h.drop 0x30).take 8

/-- Whether cipher channel 2 takes a job. -/
def State.attCipher (s : State) : Bool := s.online 13 && s.on R.CIPHER_STAT_READY && !s.chRun 2

/-- R354: the header's authentication. -/
def State.pkgTagOk (s : State) (h : List Byte) : Bool :=
  let n := 0x40 + 64 * pkgN h
  gcmTag (s.pkgKey h) (pkgNonce h ++ beBytes 4 0xFFFFFFFF) (h.take n) [] 16 == (h.drop n).take 16

/-- R359, R363: attic_begin. -/
def State.attBegin (s : State) (hdr : Nat) (ok : Bool) : Nat × State :=
  let h := s.rdBs hdr (pkgLen (s.rdLe (hdr + 6) 1 % 8))
  if 2 ≤ s.rd R.ATTIC_STAT_PHASE ∨ !s.attCipher ∨ !s.atFree then (7, s)
  else if !pkgOk h then (2, s)
  else if !s.slotAllowed (pkgSlot h) 3 then (4, s.keyRefused)
  else if !s.pkgTagOk h then (3, s)
  else
    let s0 := s.wr L.AT_BAD (b2n (s.atOrder h).isNone)
    if s0.atReasons ≠ 0 then (1, s0.atRefuse)
    else if s.atPkg.any fun p => pkgId p == pkgId h then (0, s0.wr R.ATTIC_STAT_PHASE 1)
    else (0, s0.acGo 1 0 (atStaging 0) ok h)

def execAtticBegin (hdr : Word) (ok : Bool) (s : State) : Out := s.attCall fun s => s.attBegin hdr.toNat ok

/-- R287, R356, R359: attic_stage: `len` octets of ciphertext at `src`, their tag after them; a chunk that lies in a packet buffer while
APP stands above its share is a pause. -/
def State.attStage (s : State) (p src len : Nat) (ok : Bool) : Nat × State :=
  if !s.attCipher ∨ !s.atFree ∨ (regionOf src = .pbm ∧ s.overShare ownApp 0) then (7, s)
  else
    match s.atPkg with
    | none => (2, s)
    | some h =>
      match pkgChunk h p with
      | none => (2, s)
      | some c =>
        if len ≠ min 4096 (compLen c - 4096 * (p - compPage c)) ∨ 2 ≤ s.rd R.ATTIC_STAT_PHASE then (2, s)
        else if !s.slotAllowed (pkgSlot h) 3 then (4, s.keyRefused)
        else
          let key := s.pkgKey h
          let iv := pkgNonce h ++ beBytes 4 p
          let ct := s.rdBs src len
          if gcmTag key iv (leBytes 4 (pkgId h) ++ leBytes 4 p) ct 16 ≠ s.rdBs (src + len) 16 then (3, s)
          else if s.atReasons ≠ 0 then (1, s.atRefuse)
          else (0, s.acGo 2 p (atStaging p) ok (gcmCrypt key iv ct))

def execAtticStage (p : BitVec 9) (src : Word) (len : BitVec 13) (ok : Bool) (s : State) : Out :=
  s.attCall fun s => s.attStage p.toNat src.toNat len.toNat ok

/-- R372: a handoff block: its MAGIC and CRC, and HVER within what the new image reads, where the package holds one. -/
def State.handoffOk (s : State) (a : Nat) (h : List Byte) : Bool :=
  let len := s.rdLe (a + 6) 2
  let b := s.rdBs a len
  let img := atStaging (compPage (pkgComp h 4))
  let ver := s.rdLe (a + 4) 2
  s.rdLe a 4 == 0x46464F48 && decide (0x2C ≤ len) && decide (len ≤ 4096) && crc32c (b.take 8 ++ zeros 4 ++ b.drop 12) == s.rdLe (a + 8) 4 &&
    ((pkgComp h 4).isEmpty || (decide (s.rdLe (img + 0x1E) 2 ≤ ver) && decide (ver ≤ s.rdLe (img + 0x1C) 2)))

/-- R365: attic_install: its checks; the install then runs a step at a time. -/
def State.attInstall (s : State) (handoff : Nat) : Nat × State :=
  match s.atPkg with
  | none => (5, s)
  | some h =>
    if s.on L.AT_PC ∨ !s.atFree then (7, s)
    else if !((pkgComps h).all fun c => s.atStageRecs.any fun r => r.typ == 3 && r.comp == compCode c) then (5, s)
    else if !s.handoffOk handoff h then (8, s)
    else if s.atReasons ≠ 0 then (1, s.atRefuse)
    else
      match s.atOrder h with
      | none => (1, (s.wr L.AT_BAD 1).atRefuse)
      | some ord =>
        (0, (s.setFf L.AT_ORD ord).wrs [(R.ATTIC_STAT_PHASE, 2), (R.ATTIC_STAT_FLASH_HOLD, 0), (L.AT_PC, 1), (L.AT_NEXT, 2), (L.AT_I, 0), (L.AT_COLD, 0),
          (L.AT_FROM, 0), (L.AW_ON, 0), (L.AW_FAILS, 0), (L.AW_RPT, 0)])

def execAtticInstall (handoff : Word) (s : State) : Out := s.attCall fun s => s.attInstall handoff.toNat

/-- R359: attic_status: the phase, the next missing chunk (0 none), the order, a component a nibble with 0xF past its
end, and the reasons with the held page's address, as five words. -/
def State.attStatus (s : State) (info : Nat) : Nat × State :=
  let h := s.atPkg.getD []
  let rs := s.atStageRecs
  let pages := (if s.atPkg.isSome then pkgComps h else []).flatMap fun c => (List.range (compPages c)).map fun i => compPage c + i
  let missing := (pages.find? fun p => !rs.any fun r => r.typ == 2 && r.page == p).getD 0
  let ord := (if s.atPkg.isSome then s.atOrder h else none).getD []
  let packed := (List.range 8).foldl (fun a i => a + ord.getD i 15 * 16 ^ i) 0
  (0, s.wrBs info (leBytes 4 (s.rd R.ATTIC_STAT_PHASE) ++ leBytes 4 missing ++ leBytes 4 packed ++ leBytes 4 s.atReasons ++
    leBytes 4 (if s.on R.ATTIC_STAT_FLASH_HOLD then (if s.on L.AW_ON then s.rd R.FLASHC_ADDR else s.rd R.ATTIC_COPY_DST + 0x1000 * s.rd R.ATTIC_COPY_PROG_DONE) else 0)))

def execAtticStatus (info : Word) (s : State) : Out := s.attCall fun s => s.attStatus info.toNat

/-- R362: an owner-lock command: its checks, then its record. -/
def State.attOwnerLock (s : State) (cmd : Nat) (ok : Bool) : Nat × State :=
  let c := s.rdBs cmd 32
  let op := hdrAt c 4 1
  let slot := hdrAt c 5 1 % 16
  let cnt := hdrAt c 8 4
  let uid := s.rdPs 0 7
  let key := kdfStage (s.rootKey slot) 1 ([0x4F, 0x57, 0x4E, 0x45, 0x52, 0x4C, 0x4F, 0x43, 0x4B] ++ uid) false
  if !s.attCipher ∨ !s.atFree then (7, s)
  else if hdrAt c 0 4 ≠ 0x4B434C4F ∨ (op ≠ 1 ∧ op ≠ 2) then (2, s)
  else if !s.slotAllowed slot 3 then (4, s.keyRefused)
  else if cmac key (c.take 16 ++ uid ++ [0]) ≠ (c.drop 16).take 16 then (3, s)
  else if s.lockLatest.any fun r => decide (cnt ≤ r.arg) then (1, s)
  else
    (0, s.acGo 4 0 (atLockLog 0) ok c)

def execAtticOwnerLock (cmd : Word) (ok : Bool) (s : State) : Out := s.attCall fun s => s.attOwnerLock cmd.toNat ok

/-- R370: attic_link_load: the staged microcode where an install of it is open, the installed one otherwise, into bank 0,
and SWAP. -/
def State.attLinkLoad (s : State) : Nat × State :=
  let rs := s.atSession
  let opened := (rs.any fun r => r.typ == 0x12 && r.comp == 2) && !rs.any fun r => r.typ == 0x14 && r.comp == 2
  let st := pkgComp (s.atPkg.getD []) 2
  let ins := s.atInstalled.getD 2 []
  let src := if opened ∧ !st.isEmpty then atStaging (compPage st) else 0x083E0000
  let len := if opened ∧ !st.isEmpty then compLen st else if ins.isEmpty then min (s.rdLe (0x083E0000 + 0x0C) 4) 65536 else compLen ins
  if !s.online 10 ∨ s.rd R.LINK_MC_STAT_ACTIVE = 1 ∨ s.mcBusy then (7, s)
  else (0, (s.wrRun (mcBank 0) (s.rdBs src len)).atSwap)

def execAtticLinkLoad (s : State) : Out := s.attCall State.attLinkLoad

/-- R359: attic_abandon. -/
def State.attAbandon (s : State) (ok : Bool) : Nat × State :=
  if 2 ≤ s.rd R.ATTIC_STAT_PHASE ∨ (s.atSession.any fun r => s.atPkg.any fun h => r.typ == 0x11 && r.arg == pkgId h) then (1, s)
  else if !s.atFree then (7, s)
  else (0, s.acGo 3 0 atStageLog ok [])

def execAtticAbandon (ok : Bool) (s : State) : Out := s.attCall fun s => s.attAbandon ok

/-! ### Engine commands (R375) -/

/-- R375, R376: a write of CMD by the application core while no command runs. -/
def State.atCmd (s : State) (m : Master) (eff : State → State) : State :=
  s.write m R.ATTIC_CMD_OP fun s => if m = .app ∧ !s.on R.ATTIC_CMD_STAT_BUSY then eff s else s

/-- R364: octets 0 to 11 as REC_0 to REC_2 hold them. -/
def State.recBytes (s : State) : List Byte := leBytes 4 (s.rd R.ATTIC_REC_0) ++ leBytes 4 (s.rd R.ATTIC_REC_1) ++ leBytes 4 (s.rd R.ATTIC_REC_2)

def execAppendJ (m : Master) (ok : Bool) (s : State) : Out := .next ((s.atCmd m fun s => s.atAppendGo false s.recBytes ok).settle)
def execAppendS (m : Master) (ok : Bool) (s : State) : Out := .next ((s.atCmd m fun s => s.atAppendGo true s.recBytes ok).settle)
def execCopy (m : Master) (s : State) : Out := .next ((s.atCmd m State.cpGo).settle)

/-- R367: the present page of a COPY ends; a dip holds it (R341). -/
def execCopyPageDone (fail : Bool) (s : State) : Out :=
  if s.on L.CP_ON && !s.on L.AT_HELD && s.online 21 && !s.on R.SYSCTL_SUPPLY_STAT_WARN then .next ((s.cpPage fail).settle) else .next s

def execPfwWrite (m : Master) (s : State) : Out := .next ((s.atCmd m fun s => s.pfCmd 4).settle)

/-- R353: the page of the program store being programmed ends. -/
def execPfwPageDone (ok : Bool) (s : State) : Out :=
  if s.on L.PF_BUSY && s.online 21 then .next ((s.pfPage ok).settle) else .next s

def execPfwSelect (m : Master) (s : State) : Out := .next ((s.atCmd m fun s => s.pfCmd 5).settle)
def execSetLock (m : Master) (s : State) : Out := .next (s.atCmd m fun s => (s.wr R.ATTIC_STAT_OWNER_LOCK 1).atResult 1)
def execClearLock (m : Master) (s : State) : Out := .next (s.atCmd m fun s => (s.wr R.ATTIC_STAT_OWNER_LOCK 0).atResult 1)

/-! ### Refusal conditions (R360, R361, R368) -/

/-- R391, R360: an edge on MOTION of a configured kind, past its filter. -/
def execMotionEdge (rising : Bool) (s : State) : Out :=
  if !s.domOn 1 || !bit (s.rd R.SYSCTL_WAKE_CFG_MOTION_EDGE) (if rising then 0 else 1) || s.on (L.VIO_LOW 0) then .next s
  else .next ((((s.wr L.AT_MOT 1).atMoving).wakeFire 5).settle)

/-- R360: 60 s after the last speed above the threshold (`speed`), or 30 s after the last MOTION edge. -/
def execMovingExpire (speed : Bool) (s : State) : Out :=
  if speed then .next ((s.wrs [(L.AT_SPD, 0), (R.ATTIC_SPEED_AGE, max 60 (s.rd R.ATTIC_SPEED_AGE))]).atMoving)
  else .next ((s.wr L.AT_MOT 0).atMoving)

/-- R360: a 100 ms sample of the battery source. -/
def execLowbatSample (v : BitVec 16) (s : State) : Out :=
  if !s.online 21 || !s.online 38 then .next s
  else
    let lvl := s.rd R.ATTIC_LIMITS_LOWBAT_LEVEL
    let low := if v.toNat < lvl then min 3 (s.rd L.AT_LOW + 1) else 0
    let high := if lvl + (if s.on R.ATTIC_UPD_CFG_LOWBAT_SRC then 32 else 100) < v.toNat then min 3 (s.rd L.AT_HIGH + 1) else 0
    let lb := if low = 3 then 1 else if high = 3 then 0 else s.rd R.ATTIC_STAT_LOWBAT
    .next ((s.sat R.ADC_STOLEN 1).wrs [(R.ATTIC_LOWBAT_LAST, v.toNat), (L.AT_LOW, low), (L.AT_HIGH, high), (R.ATTIC_STAT_LOWBAT, lb)])

/-- R361: every reason has cleared: a paused install or a waiting engine command goes on. -/
def execInstallResume (s : State) : Out :=
  let paused := s.rd R.ATTIC_STAT_PHASE == 3 && !s.on R.ATTIC_STAT_FLASH_HOLD
  if s.atReasons ≠ 0 ∨ !(paused || s.on L.AT_HELD) ∨ s.flRunning ∨ !s.online 21 then .next s
  else
    let s1 := (s.wrs [(R.ATTIC_EVT_RESUMED, 1), (L.AT_HELD, 0)]).when paused fun s => s.wr R.ATTIC_STAT_PHASE 2
    .next (((s1.when (s1.on L.CP_ON) State.cpBegin).when (s1.on L.PF_ST) State.porchArb).settle)

/-- R368: the held page is repeated, at most eight times; a refusal reason keeps it back. -/
def execFlashHoldRetry (s : State) : Out :=
  if !s.on R.ATTIC_STAT_FLASH_HOLD || s.on L.AW_RPT || decide (10 ≤ s.rd L.AW_FAILS) then .next s
  else if s.atReasons ≠ 0 then .next s.atRefuse
  else .next (s.wr L.AW_RPT 1)

end Sys2Proof.Machine
end

