-- ==== Sys2Proof/Machine/Buffers.lean ====
section
/-!
DEFINITION. Machine/Buffers.lean: the rows of the lottery arbiter (R246 to R255) and of the packet buffers, their commands,
zeroing, audit and reclaim (R256 to R268): one meaning for each of their rows.
-/
namespace Sys2Proof.Machine

open Sys2Proof

/-! ### The lottery -/

/-- R248 to R254: one slot of a draw point; a unit that it grants at LANE is a block of that channel's job. `ready` are the
requesters with a unit in this slot, `more` those with a further one after it. -/
def execDraw (port : Bool) (ready more : BitVec 5) (s : State) : Out :=
  if !s.domOn 7 then .next s
  else
    let r := s.slot (b2n port) ((List.range 5).filter fun q => ready.getLsbD q) fun q => more.getLsbD q
    match r.1 with
    | some w => .next ((if port then r.2 else r.2.laneUnit w).answer w)
    | none => .next r.2

/-- R253: a write of TKT_q: ignored while LOCK is 1 or where a field is out of range; it breaks the holder's
burst, and that of another holder while q is ready. -/
def execTktWrite (m : Master) (q : Fin 5) (tickets : BitVec 8) (burst : BitVec 7) (s : State) : Out :=
  .next (s.write m (R.ARB_TKT_TICKETS q.val) fun s =>
    if s.on R.ARB_CTRL_LOCK then s
    else
      let b := burst.toNat
      let s1 := s.wr (R.ARB_TKT_TICKETS q.val) tickets.toNat
      let s2 := s1.when (decide (1 ≤ b) && decide (b ≤ 64)) fun s => s.wr (R.ARB_TKT_BURST q.val) b
      s2.each [0, 1] fun p s =>
        s.when (s.rd (arbHolder p) != 7 && (s.rd (arbHolder p) == q.val || bit (s.rd (L.READY p)) q.val)) fun s => s.wr (L.BREAK p) 1)

/-- R255: HINT_CMD with GO from a master that acts for the requester. DEDUCED: the link cores reach this register of ARB, which R42's
table leaves out for them, and no other. -/
def execHintCmd (m : Master) (q : BitVec 3) (port : Bool) (s : State) : Out :=
  let eff (s : State) : State :=
    let q := q.toNat
    if (m = .app ∧ (q = 0 ∨ q = 2)) ∨ (m = .link ∧ q = 4) then s.postHint (b2n port) q else s
  if m = .link then .next (s.cross m (blockAddr 15 0x3C) (blkDom 15) (blkIsl 15) true true fun s => (eff s).ok)
  else .next (s.write m R.ARB_HINT_CMD_GO eff)

/-- R254: a live hint ends unused and its requester is barred for 256 cycles. -/
def execHintExpire (q : Fin 5) (port : Bool) (s : State) : Out :=
  let p := b2n port
  if bit (s.rd (L.HINT p)) q.val then
    .next ((((s.clrBitF (L.HINT p) q.val).setBitF (L.BARRED p) q.val).sat R.ARB_HINT_CNT_EXPIRED 1).wr R.ARB_EVT_HINT_EXP 1)
  else .next s

/-- R254: the bar ends. -/
def execHintBlockEnd (q : Fin 5) (port : Bool) (s : State) : Out := .next (s.clrBitF (L.BARRED (b2n port)) q.val)

/-! ### Commands on buffers (R260, R261) -/

/-- R260: what a command set may allocate to, and between whom it may transfer. DEDUCED: the link cores' "among the four radio owners
and FREE" takes in FREE as a source; a buffer so taken while it waits to be zeroed is zeroed all the same. -/
def mayAlloc (l o : Nat) : Bool := if l = 0 then o == 5 else decide (1 ≤ o) && decide (o ≤ 4)
def mayXfer (l f t : Nat) : Bool :=
  if l = 0 then f == 5 && [0, 6, 7, 3, 4].contains t
  else decide (f ≤ 4) && (decide (t ≤ 4) || ((f == 1 || f == 2) && t == 5))

/-- The result fields of a command set: 0 the A_ set, 1 the L_ set; HEAD names the chain of the last allocation only (R270). -/
def State.pbmBusy (s : State) (l : Nat) : Bool := if l = 0 then s.on R.PBM_A_RES_BUSY else s.on L.L_BUSY
def State.pbmStart (s : State) (l : Nat) : State := if l = 0 then s.wr R.PBM_A_RES_BUSY 1 else s.wr L.L_BUSY 1
def State.pbmRes (s : State) (l result count : Nat) : State :=
  if l = 0 then s.wrs [(R.PBM_A_RES_RESULT, result), (R.PBM_A_RES_BUSY, 0), (R.PBM_A_RES_COUNT, count)]
  else s.wrs [(L.L_RESULT, result), (L.L_BUSY, 0), (L.L_COUNT, count)]
def State.pbmHead (s : State) (l b : Nat) : State := if l = 0 then s.wr R.PBM_A_RES_HEAD b else s.wr L.L_HEAD b

/-- A command refused. -/
def State.pbmRefuse (s : State) (l result : Nat) : State := ((s.pbmRes l result 0).wr R.PBM_EVT_REFUSED 1).ifEnd (7 + l)

/-- An allocation completes: the lowest-numbered zeroed FREE buffers, linked in order. -/
def State.allocTake (s : State) (l tgt n : Nat) : State :=
  let bs := s.freeBufs n true
  ((((s.takeBufs tgt bs).pbmRes l 1 n).pbmHead l (bs.headD 0)).wr (L.ALLOC_WAIT l) 0).ifEnd (7 + l)

/-- R261, R262: an ALLOC of a set: refused, done, or left waiting for the buffers it will take to be zeroed. -/
def State.pbmAlloc (s : State) (l src tgt n : Nat) : State :=
  let s := s.wr (L.CMD_WORD l) (1 + src * 16 + tgt * 256 + n * 4096)
  if s.on R.PBM_STAT_RECLAIMING && (bit (s.rd L.RECL) tgt || bit (s.rd L.RECL) src) then s.pbmRefuse l 6
  else if 8 < src ∨ 8 < tgt ∨ n = 0 ∨ 16 < n ∨ !mayAlloc l tgt then s.pbmRefuse l 5
  else if s.overShare tgt n then s.pbmRefuse l 2
  else if (s.freeBufs n false).length < n then s.pbmRefuse l 7
  else if (s.freeBufs n true).length = n then s.allocTake l tgt n
  else
    let dirty := (s.freeBufs n false).filter fun b => dZeroing (s.desc b)
    let s1 := s.pbmStart l
    ((s1.each dirty fun b s => s.zqPut 2 b).wr (L.ALLOC_WAIT l) 1).ifStart (7 + l) 1 1 0 0 0

/-- R261: the check walk of a chain: the result and the buffers met. -/
def State.checkWalk (s : State) (from_ : Nat) : Nat → Nat → Nat × List Nat
  | 0, _ => (4, [])
  | n + 1, b =>
      if s.owner b ≠ from_ then (3, [])
      else if dLast (s.desc b) then (1, [b])
      else
        let r := s.checkWalk from_ n (dNext (s.desc b))
        (r.1, b :: r.2)

/-- Whether an XFER of a set is under way. -/
def State.xferRuns (s : State) (l : Nat) : Bool := s.pbmBusy l && s.rd (L.CMD_WORD l) % 4 == 2

/-- R261: an XFER of a set begins its check walk, or is refused. -/
def State.pbmXfer (s : State) (l f t head : Nat) : State :=
  let s := s.wr (L.CMD_WORD l) (2 + f * 16 + t * 256 + head * 2 ^ 21)
  if s.on R.PBM_STAT_RECLAIMING && (bit (s.rd L.RECL) t || bit (s.rd L.RECL) f) then s.pbmRefuse l 6
  else if 8 < f ∨ 8 < t ∨ !mayXfer l f t then s.pbmRefuse l 5
  else ((s.when (s.xferRuns (1 - l)) fun s => s.wr L.XFER_2ND (l + 1)).pbmStart l).ifStart (7 + l) 2 1 0 head 0

/-- R261: the set's check walk began after the other set's, which is under way and whose chain it meets: it waits at that buffer. -/
def State.xferWaits (s : State) (l : Nat) : Bool :=
  let walk (l : Nat) : List Nat := s.chain 2048 (bits (s.rd (L.CMD_WORD l)) 31 21)
  s.rd L.XFER_2ND == l + 1 && s.xferRuns (1 - l) && (walk l).any fun b => (walk (1 - l)).contains b

/-- R261: both walks end: owners and counts are committed in one cycle, or the command is refused. -/
def State.xferEnd (s : State) (l : Nat) (uncorr : Bool) : State :=
  let w := s.rd (L.CMD_WORD l)
  let f := bits w 7 4
  let t := bits w 11 8
  let s := s.wr L.XFER_2ND 0
  let r := s.checkWalk f 2048 (bits w 31 21)
  if uncorr then (s.ledgerErr 7 f 0 0 false).pbmRefuse l 4
  else if r.1 ≠ 1 then s.pbmRefuse l r.1
  else if t ≠ 0 ∧ t ≠ f ∧ s.overShare t r.2.length then s.pbmRefuse l 2
  else ((s.handBufs r.2 f t).pbmRes l 1 r.2.length).ifEnd (7 + l)

/-- Which command set a master's writes reach. -/
def pbmSet (m : Master) : Nat := if m = .link then 1 else 0
def pbmCmd (m : Master) : Fld := if m = .link then R.PBM_L_CMD else R.PBM_A_CMD_OP

/-- R261: an ALLOC command of the writing master's set. -/
def execBufAlloc (m : Master) (own : Owners) (count : BitVec 5) (s : State) : Out :=
  .next ((s.write m (pbmCmd m) fun s =>
    if s.pbmBusy (pbmSet m) then s else s.pbmAlloc (pbmSet m) own.src.toNat own.tgt.toNat count.toNat).settle)

/-- R261: a command word whose OP is neither ALLOC nor XFER. -/
def State.pbmBad (s : State) (l w : Nat) : State :=
  s.pbmRefuse l (if s.on R.PBM_STAT_RECLAIMING && (bit (s.rd L.RECL) (bits w 11 8) || bit (s.rd L.RECL) (bits w 7 4)) then 6 else 5)

/-- R261: a write of such a word to a command register. -/
def execBufMalformed (m : Master) (w : Nat) (s : State) : Out :=
  .next ((s.write m (pbmCmd m) fun s => if s.pbmBusy (pbmSet m) then s else s.pbmBad (pbmSet m) w).settle)

/-- R262: an allocation that waited completes once its buffers are zeroed. -/
def execBufAllocDone (link : Bool) (s : State) : Out :=
  let l := b2n link
  let w := s.rd (L.CMD_WORD l)
  let n := bits w 16 12
  if s.on (L.ALLOC_WAIT l) && (s.freeBufs n true).length == n then .next ((s.allocTake l (bits w 11 8) n).settle) else .next s

/-- R261: an XFER command of the writing master's set. -/
def execBufXfer (m : Master) (src dst : BitVec 4) (head : BitVec 11) (s : State) : Out :=
  .next ((s.write m (pbmCmd m) fun s =>
    if s.pbmBusy (pbmSet m) then s else s.pbmXfer (pbmSet m) src.toNat dst.toNat head.toNat).settle)

/-- R261: an XFER's walks end; `uncorr` tells that the walk met an uncorrectable descriptor. -/
def execXferDone (link uncorr : Bool) (s : State) : Out :=
  if s.xferRuns (b2n link) && !s.xferWaits (b2n link) then .next ((s.xferEnd (b2n link) uncorr).settle) else .next s

/-- R261: a write of NEXT, LAST and LEN of the selected buffer, where its owner permits it. -/
def execDescWrite (m : Master) (d : Word) (s : State) : Out :=
  .next (s.write m (if m = .link then R.PBM_L_DESC else R.PBM_A_DESC) fun s =>
    let b := s.rd (if m = .link then R.PBM_L_DESC_SEL_INDEX else R.PBM_A_DESC_SEL_INDEX)
    let o := s.owner b
    let v := d.toNat
    if mayAlloc (pbmSet m) o && decide (dLen v ≤ 128) then
      s.setDesc b (mkDesc (dNext v) (b2n (dLast v)) (dLen v) o (b2n (dZeroing (s.desc b))))
    else s.wr R.PBM_EVT_REFUSED 1)

/-- R262: the zero engine finishes a buffer: the head of its queue, or any waiting one when the queue is empty. -/
def execBufferZeroed (b : Fin 2048) (s : State) : Out :=
  let d := s.desc b.val
  if dZeroing d && (s.zq.isEmpty || (s.zq.headD 0) % 2048 == b.val) then
    let s1 := (s.dropMem (bufAddr b.val) (bufAddr b.val + 128)).setDesc b.val
      (mkDesc (dNext d) (b2n (dLast d)) (dLen d) (dOwner d) 0)
    .next ((s1.zqDrop b.val).wr R.PBM_STAT_ZEROING (s1.rd R.PBM_STAT_ZEROING - 1))
  else .next s

/-- R265, R266: an audit pass ends: each count compared with the descriptors; `uncorr` tells of an
uncorrectable descriptor met. -/
def execAuditPassEnd (uncorr : Bool) (s : State) : Out :=
  if !s.on R.PBM_CTRL_AUDIT_EN || !s.domOn 6 then .next s
  else
    let s1 := s.each (List.range 9) fun o s =>
      let n := countBelow (fun b => s.owner b == o) 2048
      s.when (n != s.rd (R.PBM_LEDGER o)) fun s => s.ledgerErr 2 o (s.rd (R.PBM_LEDGER o)) n false
    let s2 := s1.when uncorr fun s => s.ledgerErr 7 0 0 0 false
    .next ((s2.inc R.PBM_AUDIT_CNT 1).settle)

/-! ### Reclaim -/

/-- R267 step 2: the buffers a reclaim of an owner returns. -/
def State.reclaimList (s : State) (o : Nat) : List Nat :=
  let held := if 1 ≤ o ∧ o ≤ 4 then s.radioHeld else []
  (List.range 2048).filter fun b => s.owner b == o && !held.contains b

/-- R267: one owner's buffers moved to FREE with one count change. -/
def State.reclaimOwner (s : State) (o : Nat) : State := s.handBufs (s.reclaimList o) o ownFree

/-- R267, R270: the record of a reclaim. -/
def State.reclaimLog (s : State) (owner count cause : Nat) : State :=
  (s.wrs [(R.PBM_RECLAIM_LOG_OWNER, owner), (R.PBM_RECLAIM_LOG_COUNT, count), (R.PBM_RECLAIM_LOG_CAUSE, cause),
    (R.PBM_EVT_RECLAIM, 1)]).sat R.PBM_RECLAIM_CNT 1

/-- R267: a reclaim commits: the four radio owners together after a LOCKSTEP or WDT_LINK reset, else the
lowest owner still to be reclaimed. -/
def execReclaimDone (s : State) : Out :=
  let mask := s.rd L.RECL
  let c := s.rd L.RECL_CAUSE
  if c ≠ 0 then
    let n := [1, 2, 3, 4].foldl (fun t o => t + (s.reclaimList o).length) 0
    let s1 := s.each [1, 2, 3, 4] fun o s => s.reclaimOwner o
    let left := clrMask mask 0x1E
    .next ((((s1.reclaimLog 15 n c).wrs [(L.RECL, left), (L.RECL_CAUSE, 0), (R.PBM_STAT_RECLAIMING, b2n (left != 0))]).ifEnd 9).settle)
  else
    match firstBelow (fun o => bit mask o) 9 with
    | none => .next s
    | some o =>
      let n := (s.reclaimList o).length
      let left := clrBit mask o
      let cause := if o = 5 then 1 else if o = 6 then 2 else 3
      .next (((((s.reclaimOwner o).reclaimLog o n cause).wrs [(L.RECL, left), (R.PBM_STAT_RECLAIMING, b2n (left != 0))]).ifEnd 9).settle)

end Sys2Proof.Machine
end

