-- ==== Sys2Proof/Machine/Trim.lean ====
section
/-!
DEFINITION. Machine/Trim.lean: the calendar trim's update (R416) and the mesh reference (R202, R418), and the
fleet-time correction of R201.
-/
namespace Sys2Proof.Machine

open Sys2Proof

/-- A quotient rounded to the nearest integer, halves away from zero. -/
def roundDiv (n : Int) (d : Nat) : Int :=
  if 0 ≤ n then ((2 * n + d) / (2 * d : Nat)) else -((2 * (-n) + d) / (2 * d : Nat))

/-- R416: an update of the rate correction from a residual, by a source (1 PPS, 2 MESH). -/
def State.trimUpdate (s : State) (r : Int) (src : Nat) : State :=
  let v := s.rdS R.CAL_TRIM_VALUE + roundDiv r (2 ^ s.rd R.CAL_TRIM_CFG_GAIN)
  let lim := max (-2147) (min v 2147)
  let s1 := (s.wrS R.CAL_TRIM_VALUE lim).wrS R.CAL_TRIM_ERR (clampS 16 r)
  let s2 := (s1.sat R.CAL_TRIM_STAT_UPDATES 1).wrs [(R.CAL_TRIM_STAT_SRC_LAST, src), (R.CAL_EVT_TRIM_UPD, 1)]
  s2.when (lim != v) fun s => s.wr R.CAL_TRIM_STAT_LIMIT 1

/-- R416: whether the trim follows fleet time. -/
def State.trimMesh (s : State) : Bool :=
  s.rd R.CAL_TRIM_CFG_MODE == 2 || (s.rd R.CAL_TRIM_CFG_MODE == 3 && s.on R.CAL_STAT_PPS_LOST)

/-- R202, R418: a measurement offered to the trim; `use` is false for a step and for the first one. -/
def State.trimOffer (s : State) (e : Int) (use : Bool) : State :=
  let a := s.lt - s.rd L.TR_T0
  let ok := use && s.on L.TR_ON && s.trimMesh && !s.on L.TR_BAD && !s.on R.HALL_CLK_STAT_LF_SRC &&
    decide (s.rd R.CAL_TRIM_CFG_INTERVAL * 256000000 ≤ a) && decide (99 * a ≤ 100 * s.rd L.TR_CARRIED)
  let s1 := if ok then s.trimUpdate (roundDiv (e * 16384 * 256) (max 1 a)) 2 else s
  s1.wrs [(L.TR_T0, s.lt), (L.TR_ON, 1), (L.TR_CARRIED, 0), (L.TR_BAD, 0)]

/-- R201: a correction applied to fleet time. -/
def State.ftApply (s : State) (e : Int) (stratum : Option Nat) (step : Bool) : State :=
  let ofs := ux 64 ((s.rd R.MAC_FT_OFS_LO + 2 ^ 32 * s.rd R.MAC_FT_OFS_HI : Nat) + e)
  let first := !s.on R.MAC_FT_STAT_VALID
  let s1 := (s.wrs [(R.MAC_FT_OFS_LO, ofs), (R.MAC_FT_OFS_HI, ofs / 2 ^ 32), (R.MAC_FT_STAT_VALID, 1), (L.FT_T0, s.lt),
    (L.FT_OUT, 0)]).sat R.MAC_FT_CNT_APPLIED 1
  let s2 := match stratum with | some n => s1.wr R.MAC_FT_STAT_STRATUM (min (n + 1) 15) | none => s1
  s2.trimOffer e (!step && !first)

/-- R201: a fleet-time measurement E, with the beacon's STRATUM where there is one. -/
def State.ftMeasure (s : State) (e : Int) (stratum : Option Nat) : State :=
  let s1 := s.wrS R.MAC_FT_ERR (clampS 32 e)
  if e.natAbs ≤ s.rd R.MAC_FT_CFG_STEP_MAX_US * 256 then s1.ftApply e stratum false
  else
    let s2 := (s1.sat R.MAC_FT_CNT_OUTLIER 1).wr R.MAC_EVT_FT_OUTLIER 1
    if s2.rd L.FT_OUT = 2 then (s2.wr R.MAC_EVT_FT_STEP 1).ftApply e stratum true
    else s2.inc L.FT_OUT 1

end Sys2Proof.Machine
end

