-- ==== Sys2Proof/Machine/Calendar.lean ====
section
/-!
DEFINITION. Machine/Calendar.lean: the calendar clock, its alarms, its trim measurement and its backup supply (R403 to R420).
-/
namespace Sys2Proof.Machine

open Sys2Proof

namespace L

/-- R409: a capture waits for the end of the next CAL cycle. -/
def CAL_CAP : Fld := latch 22 0 1 .w 0
/-- R415: the accumulator of the rate correction, in units of 2^-22 of a SUBSEC step. -/
def CAL_ACC : Fld := latch 22 1 22 .b 0
/-- R411: a commit has replaced the count of the CAL cycle under way. -/
def CAL_OPEN : Fld := latch 22 2 1 .b 0
/-- R417: whether the measurement has an edge to count from; the accepted seconds and the raw cycles of the interval
under way; the edges accepted since PPS_LOST was set. -/
def PPS_ON : Fld := latch 22 3 1 .b 0
def PPS_N : Fld := latch 22 4 7 .b 0
def PPS_SUM : Fld := latch 22 5 22 .b 0
def PPS_GOOD : Fld := latch 22 6 2 .b 0
/-- R416: the part of a CAL cycle that has passed, in units of 1/125000 cycle: 256 of them are 1/16 µs. -/
def CAL_PH : Fld := latch 22 7 17 .b 0

end L

/-! ### The Gregorian calendar of R403 -/

/-- R403: whether year 2000 + y is a leap year, the days of a month, and the days before a year and before a month. -/
def calLeap (y : Nat) : Bool := y % 4 == 0 && y != 100
def calMonthDays (y m : Nat) : Nat :=
  if m = 2 then 28 + b2n (calLeap y) else [0, 31, 28, 31, 30, 31, 30, 31, 31, 30, 31, 30, 31].getD m 0
def calYearDays (y : Nat) : Nat := y * 365 + (y + 3) / 4 - b2n (decide (100 < y))
def calMonthStart (y m : Nat) : Nat := ((List.range m).map (calMonthDays y)).sum

/-- The fields of the TIME and DATE layouts (R419). -/
def timeSec (t : Nat) : Nat := bits t 5 0
def timeMin (t : Nat) : Nat := bits t 13 8
def timeHour (t : Nat) : Nat := bits t 20 16
def dateDay (d : Nat) : Nat := bits d 4 0
def dateMonth (d : Nat) : Nat := bits d 11 8
def dateYear (d : Nat) : Nat := bits d 23 16

/-- R6, R419: the bits of a word that the TIME and the DATE layout (the weekday apart) give to fields. -/
def timeBits (v : Nat) : Nat := v &&& 0x1F3F3F
def dateBits (v : Nat) : Nat := v &&& 0xFF0F1F

/-- R410: a time and a date that R403 has. -/
def calOk (t d : Nat) : Bool :=
  decide (timeHour t ≤ 23) && decide (timeMin t ≤ 59) && decide (timeSec t ≤ 59) && decide (1 ≤ dateMonth d) &&
    decide (dateMonth d ≤ 12) && decide (dateYear d ≤ 199) && decide (1 ≤ dateDay d) &&
    decide (dateDay d ≤ calMonthDays (dateYear d) (dateMonth d))

/-- The days and the seconds from 2000-01-01 00:00:00 on, and the seconds of the whole range of R403. -/
def calDays (d : Nat) : Nat := calYearDays (dateYear d) + calMonthStart (dateYear d) (dateMonth d) + dateDay d - 1
def calSecs (t d : Nat) : Nat := calDays d * 86400 + timeHour t * 3600 + timeMin t * 60 + timeSec t
def calRange : Nat := calYearDays 200 * 86400

/-- The TIME layout of a second of the day, and the DATE layout of a day, its weekday with 0 for Monday. -/
def timeOf (n : Nat) : Nat := n % 60 + n / 60 % 60 * 256 + n / 3600 * 65536
def dateOf (n : Nat) : Nat :=
  let y := (firstBelow (fun y => decide (n < calYearDays (y + 1))) 200).getD 0
  let r := n - calYearDays y
  let m := (firstBelow (fun m => decide (r < calMonthStart y (m + 1))) 13).getD 12
  (r - calMonthStart y m + 1) + m * 256 + y * 65536 + (n + 5) % 7 * 16777216

/-! ### Counting -/

/-- The calendar time, in seconds. -/
def State.calNow (s : State) : Nat := calSecs (s.rd R.CAL_TIME) (s.rd R.CAL_DATE)

/-- R406: the calendar counts. -/
def State.calRuns (s : State) : Bool := s.domOn 0 && s.on R.CAL_STAT_OSC_RUN

/-- R415: what one CAL cycle adds, in units of 2^-22 of a step. -/
def State.calRate (s : State) : Nat := (2 ^ 22 + s.rdS R.CAL_TRIM_VALUE).toNat

/-- R404, R415: n CAL cycles counted. -/
def State.calCount (s : State) (n : Nat) : State :=
  let a := s.rd L.CAL_ACC + n * s.calRate
  let sub := s.rd R.CAL_SUBSEC + a / 2 ^ 22
  let t := s.calNow + sub / 32768
  let s1 := s.wrs [(L.CAL_ACC, a), (R.CAL_SUBSEC, sub)]
  if sub < 32768 then s1
  else (s1.wrs [(R.CAL_TIME, timeOf (t % calRange % 86400)), (R.CAL_DATE, dateOf (t % calRange / 86400))]).when
    (decide (calRange ≤ t)) fun s => s.wr R.CAL_STAT_EPOCH_WRAP 1

/-- R412: the instant of alarm n, in seconds; whether it is armed. -/
def State.alarmAt (s : State) (n : Nat) : Nat := calSecs (s.rd (R.CAL_ALARM_TIME n)) (s.rd (R.CAL_ALARM_DATE n))
def State.alarmOn (s : State) (n : Nat) : Bool := bit (s.rd R.CAL_ALARM_STAT_ARMED) n

/-- R413: alarm n fires, after its instant or at it. -/
def State.alarmFire (s : State) (n : Nat) (late : Bool) : State :=
  (((s.clrBitF R.CAL_ALARM_STAT_ARMED n).setBitF R.CAL_ALARM_STAT_FIRED n).when late fun s =>
    s.setBitF R.CAL_ALARM_STAT_SKIPPED n).wakeFire 6

/-- R410, R411: the commit at a CAL edge. -/
def State.calCommit (s : State) : State :=
  s.wrs [(R.CAL_TIME, timeBits (s.rd R.CAL_SH_TIME)), (R.CAL_DATE, dateOf (calDays (s.rd R.CAL_SH_DATE))), (R.CAL_SUBSEC, 0),
    (R.CAL_COMMIT_STAT_BUSY, 0), (R.CAL_COMMIT_STAT_RESULT, 1), (R.CAL_COMMIT_STAT_SET_SINCE_OSF, 1), (R.CAL_EVT_COMMIT_DONE, 1),
    (L.CAL_OPEN, 1)]

/-- R409, R413: the end of a CAL cycle: the alarms due fire, a waiting capture is made. -/
def State.calEnd (s : State) : State :=
  let s1 := s.each [0, 1] fun n s =>
    s.when (s.alarmOn n && decide (s.alarmAt n ≤ s.calNow)) fun s => s.alarmFire n (decide (s.alarmAt n < s.calNow))
  s1.when (s1.on L.CAL_CAP) fun s => s.wrs [(R.CAL_CAP_TIME, s.rd R.CAL_TIME), (R.CAL_CAP_DATE, s.rd R.CAL_DATE),
    (R.CAL_CAP_SUBSEC, s.rd R.CAL_SUBSEC), (R.CAL_CAP_STAT_DONE, 1), (L.CAL_CAP, 0)]

/-- R404, R409, R411, R413: one CAL cycle. -/
def State.calCycle (s : State) : State :=
  (if s.on L.CAL_OPEN then s.wr L.CAL_OPEN 0
   else if s.on R.CAL_COMMIT_STAT_BUSY then s.calCommit.wr L.CAL_OPEN 0
   else s.calCount 1).calEnd

/-- R404, R413: n CAL cycles; an alarm whose instant the count passes over is reached exactly. -/
def State.calRun (s : State) : Nat → State
  | 0 => s
  | n + 1 =>
    let s1 := s.calCycle
    if n = 0 then s1
    else
      let s2 := s1.calCount n
      let t := s1.calNow + (s1.rd R.CAL_SUBSEC + (s1.rd L.CAL_ACC + n * s1.calRate) / 2 ^ 22) / 32768
      s2.each [0, 1] fun k s => s.when (s.alarmOn k && decide (s.alarmAt k ≤ t)) fun s => s.alarmFire k false

/-- The CAL cycles until the count reaches a second that lies ahead. -/
def State.calUntil (s : State) (t : Nat) : Nat :=
  (((t - s.calNow) * 32768 - s.rd R.CAL_SUBSEC) * 2 ^ 22 - s.rd L.CAL_ACC + s.calRate - 1) / s.calRate

/-- The CAL cycle under way brought to its end where a commit is made in it. -/
def State.calClose (s : State) : State :=
  if s.on L.CAL_OPEN || s.on R.CAL_COMMIT_STAT_BUSY then s.calCycle else s

/-- R404 to R413: 1/16 µs of the calendar's own clock. -/
def State.calTick (s : State) : State :=
  if !s.calRuns then s
  else
    let p := s.rd L.CAL_PH + 256
    if p < 125000 then s.wr L.CAL_PH p else (s.wr L.CAL_PH (p - 125000)).calCycle

/-! ### The commands and events -/

/-- R409: a write of CAPTURE.GO. -/
def execCalCapture (m : Master) (s : State) : Out :=
  .next (s.write m R.CAL_CAPTURE_GO fun s => s.wrs [(R.CAL_CAP_STAT_DONE, 0), (L.CAL_CAP, 1)])

/-- R409: the end of the first CAL cycle after a capture was asked for. -/
def execCaptureDone (s : State) : Out := .next (s.when (s.calRuns && s.on L.CAL_CAP) State.calCycle)

/-- R410: a write of COMMIT.GO. -/
def execCalCommit (m : Master) (s : State) : Out :=
  .next (s.write m R.CAL_COMMIT_GO fun s =>
    if s.on R.CAL_COMMIT_STAT_BUSY then s
    else if calOk (s.rd R.CAL_SH_TIME) (s.rd R.CAL_SH_DATE) then s.wr R.CAL_COMMIT_STAT_BUSY 1
    else s.wr R.CAL_COMMIT_STAT_RESULT 2)

/-- R410, R411: the first CAL edge after a commit was accepted. -/
def execCommitDone (s : State) : Out :=
  .next (s.when (s.calRuns && s.on R.CAL_COMMIT_STAT_BUSY) State.calCommit)

/-- R412: alarm n armed, or its arming refused. -/
def State.alarmArm (s : State) (n : Nat) : State :=
  if calOk (s.rd (R.CAL_ALARM_TIME n)) (s.rd (R.CAL_ALARM_DATE n)) then s.setBitF R.CAL_ALARM_STAT_ARMED n
  else (s.clrBitF R.CAL_ALARM_STAT_ARMED n).setBitF R.CAL_ALARM_STAT_INVALID n

/-- R412: a write of ALARM_CMD.ARM and of ALARM_CMD.DISARM, one bit for each alarm. -/
def execAlarmArm (m : Master) (mask : BitVec 2) (s : State) : Out :=
  .next (s.write m R.CAL_ALARM_CMD_ARM fun s => s.each ([0, 1].filter fun n => bit mask.toNat n) fun n s => s.alarmArm n)
def execAlarmDisarm (m : Master) (mask : BitVec 2) (s : State) : Out :=
  .next (s.write m R.CAL_ALARM_CMD_DISARM fun s =>
    s.wr R.CAL_ALARM_STAT_ARMED (clrMask (s.rd R.CAL_ALARM_STAT_ARMED) mask.toNat))

/-- R413: the calendar runs up to the end of the CAL cycle in which an armed alarm is due. -/
def execAlarmFire (s : State) : Out :=
  if s.calRuns && s.rd R.CAL_ALARM_STAT_ARMED != 0 then
    let s0 := s.calClose
    match (([0, 1].filter fun n => s0.alarmOn n).map fun n => s0.alarmAt n).min? with
    | none => .next s0
    | some t => .next (s0.calRun (max 1 (s0.calUntil t)))
  else .next s

/-- R404, R414: the calendar runs up to its wrap. -/
def execEpochWrap (s : State) : Out :=
  .next (s.when s.calRuns fun s => let s0 := s.calClose; s0.calRun (s0.calUntil calRange))

/-- R406, R407: no LFXO edge for 4 ms. -/
def execOscStop (s : State) : Out :=
  .next (s.when (s.domOn 0) fun s => s.wrs [(R.CAL_STAT_OSF, 1), (R.CAL_COMMIT_STAT_SET_SINCE_OSF, 0), (R.CAL_EVT_OSC_STOP, 1),
    (R.CAL_STAT_OSC_RUN, 0), (R.HALL_CLK_STAT_LFXO_OK, 0)])

/-- R406: the LFXO runs again. -/
def execOscResume (s : State) : Out :=
  .next (s.when (s.domOn 0) fun s => s.wrs [(R.CAL_STAT_OSC_RUN, 1), (R.HALL_CLK_STAT_LFXO_OK, 1)])

/-- R407: a write of 1 to STAT.OSF. -/
def State.osfClear (s : State) : State := if s.on R.CAL_COMMIT_STAT_SET_SINCE_OSF then s.wr R.CAL_STAT_OSF 0 else s
def execOsfClear (m : Master) (s : State) : Out := .next (s.write m R.CAL_STAT_OSF State.osfClear)

/-- R408: the backup switch changes source. -/
def execBackupSwitch (onBackup : Bool) (s : State) : Out :=
  .next (s.when (s.domOn 0) fun s =>
    (s.wrs [(R.CAL_STAT_ON_BACKUP, b2n onBackup), (R.SYSCTL_SUPPLY_STAT_ON_BACKUP, b2n onBackup)]).when
      (onBackup && !s.on R.CAL_STAT_ON_BACKUP) fun s => s.wr R.CAL_STAT_BACKUP_SEEN 1)

/-- R11, R405: PD_CAL without power: every field and latch of CAL and every class B field elsewhere goes. -/
def State.calClear (s : State) : State :=
  { s with regs := Cells.keep (fun k => keyBlk k != 22 && keyKeep k != 0) s.regs }

/-- R408: the source in use falls below 1.6 V. -/
def execPdCalLost (s : State) : Out := .next (((s.calClear.setDom 0 false).setIsl 1 false).wr R.CAL_STAT_OSC_RUN 0)

/-- R405: PD_CAL powers up after both supplies were absent. -/
def execCalPowerUp (s : State) : Out :=
  .next (((s.calClear.setDom 0 true).setIsl 1 true).wr R.SYSCTL_SUPPLY_STAT_ON_BACKUP 0)

/-- R415: a write of TRIM.VALUE. -/
def execTrimWrite (m : Master) (v : BitVec 13) (s : State) : Out :=
  .next (s.write m R.CAL_TRIM_VALUE fun s => if -2147 ≤ v.toInt ∧ v.toInt ≤ 2147 then s.wr R.CAL_TRIM_VALUE v.toNat else s)

/-- R417: an interval of the trim measurement ends with a count of raw cycles. -/
def State.ppsEnd (s : State) (c n : Nat) : State :=
  let s1 := s.wrs [(R.CAL_PPS_CNT, c), (L.PPS_N, 0), (L.PPS_SUM, 0)]
  let r := roundDiv (-((c : Int) - 32768 * n) * 128) n - s1.rdS R.CAL_TRIM_VALUE
  s1.when (s1.rd R.CAL_TRIM_CFG_MODE == 1 || (s1.rd R.CAL_TRIM_CFG_MODE == 3 && !s1.on R.CAL_STAT_PPS_LOST)) fun s => s.trimUpdate r 1

/-- R417: an edge of PPS_IN, `cycles` raw LFXO cycles after the last one of its kind. -/
def execPpsEdge (rising : Bool) (cycles : Nat) (s : State) : Out :=
  if !s.domOn 0 || rising != !s.on R.CAL_TRIM_CFG_PPS_EDGE then .next s
  else if !s.on L.PPS_ON then .next (s.wrs [(L.PPS_ON, 1), (L.PPS_N, 0), (L.PPS_SUM, 0)])
  else if cycles < 32735 ∨ 32801 < cycles then
    .next ((s.sat R.CAL_PPS_REJ 1).wrs [(R.CAL_EVT_PPS_REJ, 1), (L.PPS_N, 0), (L.PPS_SUM, 0)])
  else
    let s1 := ((s.inc L.PPS_N 1).inc L.PPS_SUM cycles).when (s.on R.CAL_STAT_PPS_LOST) fun s =>
      if s.rd L.PPS_GOOD = 0 then s.wr L.PPS_GOOD 1 else s.wrs [(L.PPS_GOOD, 0), (R.CAL_STAT_PPS_LOST, 0)]
    let n := max 1 (s1.rd R.CAL_TRIM_CFG_INTERVAL)
    .next (s1.when (decide (n ≤ s1.rd L.PPS_N)) fun s => s.ppsEnd (s.rd L.PPS_SUM) (s.rd L.PPS_N))

/-- R417: no PPS edge accepted for 2 s. -/
def execPpsLost (s : State) : Out := .next (s.when (s.domOn 0) fun s => s.wrs [(R.CAL_STAT_PPS_LOST, 1), (L.PPS_GOOD, 0)])

end Sys2Proof.Machine
end

