-- ==== Sys2Proof/Machine/Cipher.lean ====
section
/-!
DEFINITION. Machine/Cipher.lean: the key store, the cipher channels, the lock and the IV table (R215 to
R245): one meaning for each of their rows.
-/
namespace Sys2Proof.Machine

open Sys2Proof

/-! ### Key store -/

/-- R225, R228, R477 0x25: the key store loads its slots; `bad` names the slots whose ECC check fails. -/
def State.loadSlots (s : State) (bad : BitVec 16) : State :=
  let o := s.occasion 0x25
  let hit (k : Nat) : Bool := o.1 && s.rd L.INJ_A % 16 == k
  let s1 := o.2.each (List.range 16) fun k s =>
    let fails := bad.getLsbD k || hit k
    let st := if fails then 3 else if bit (s.rd R.KEYS_REVOKE_PEND) k || s.on (L.OTP_REV k) then 2 else s.rd (L.OTP_STATE k)
    let s2 := s.wrs [(R.KEYS_SLOT_STATE k, st), (R.KEYS_SLOT_KSIZE k, s.rd (L.OTP_KSIZE k)), (R.KEYS_SLOT_POLICY k, s.rd (L.OTP_POLICY k))]
    s2.when fails fun s => s.fire 0x25 k (hit k)
  let s2 := s1.wr R.CIPHER_STAT_READY 1
  match firstBelow (fun k => bit (s2.rd R.KEYS_REVOKE_PEND) k) 16 with
  | some k => (s2.wrs [(R.KEYS_REVOKE_STAT_BUSY, 1), (R.KEYS_REVOKE_STAT_RESULT, 2), (L.REV_SLOT, k)]).ifStart 10 2 0 0 k 0
  | none => s2

/-- R221 step 4: the slots are reloaded after a LANE reset and the engine accepts work. -/
def execLaneResetDone (bad : BitVec 16) (s : State) : Out :=
  if s.on L.LANE_RST then .next ((((s.setDom 7 true).wr L.LANE_RST 0).loadSlots bad).settle) else .next s

/-- R225: the load after a power-up or another reset of PD_CIPHER ends. -/
def execKeystoreLoadDone (bad : BitVec 16) (s : State) : Out :=
  if s.domOn 7 && s.islOn 4 && !s.on R.CIPHER_STAT_READY && !s.on L.LANE_RST then .next ((s.loadSlots bad).settle) else .next s

/-- R151, R164, R226, R230: the key of a received frame is derived, refused, or lost to a lane mismatch. -/
def State.deriveFrame (s : State) (r : Radio) (differs : Bool) : State :=
  let k := s.rd (L.RX_KCTX r) - 1
  if s.rd (L.RX_KEYST r) ≠ 1 then s
  else if s.on L.LANE_RST then s.wr (L.RX_KEYST r) 4
  else if !s.on R.CIPHER_STAT_READY then s
  else if !s.linkKeyOk k then s.keyRefused.wr (L.RX_KEYST r) 3
  else
    let o := s.laneOp 2 k differs
    if o.1 then o.2.wr (L.RX_KEYST r) 4
    else
      (o.2.wrs [(L.RX_KEYST r, 2), (L.RX_KEY r, ofLe (s.linkKey k)), (L.RX_SLOT r, s.ctxRd k 0x30 1 % 16)]).when
        (s.rd (L.RX_CTX r) == k + 1) fun s => s.ctxWr k 0x75 1 3

/-- R226, R229, R232: the key of a software job is derived, refused, or lost to a lane mismatch. -/
def State.deriveJob (s : State) (q : Nat) (differs : Bool) : State :=
  let d := s.dscAt (s.rd (R.CIPHER_Q_CUR q))
  if s.rd (L.JOB_ST q) ≠ 1 ∨ !s.on R.CIPHER_STAT_READY then s
  else if !s.slotAllowed (dscSlot d) (chanUser q) then (s.keyRefused.wrs [(L.JOB_BAD q, 5), (L.JOB_ST q, 2)])
  else
    let o := s.laneOp 3 q differs
    if o.1 then o.2.wrs [(L.JOB_BAD q, 8), (L.JOB_ST q, 2)]
    else (o.2.wrs [(L.JOB_KEY q, ofLe (s.jobKey (dscSlot d) (dscLabel d) (dscDiv d) (dscDepth d) (dscK256 d))), (L.JOB_ST q, 2)]).ifStep
      (q + 2) 2 0 (s.rd (R.CIPHER_Q_CUR q)) (dscDataLen d)

/-- R231: a derivation ends; `differs` tells that the two lanes' results differ. -/
def execKeyDerived (who : KeyUser) (differs : Bool) (s : State) : Out :=
  match who with
  | .frame r => .next ((s.deriveFrame r differs).settle)
  | .job q => .next ((s.deriveJob q.val differs).settle)

/-- R227, R228, R245: a KEYSEQ write of the application core advances the sequence or restarts it. -/
def execKeyseqWrite (m : Master) (v : BitVec 16) (s : State) : Out :=
  .next (s.write m R.KEYS_KEYSEQ fun s =>
    if m = .app ∧ v = 0x0D6E#16 then s.wr L.KEYSEQ 1
    else if m = .app ∧ v = 0x0B71#16 ∧ s.rd L.KEYSEQ = 1 then s.wr L.KEYSEQ 2
    else s.wr L.KEYSEQ 0)

/-- R227, R245: a PROG_CFG write with GO. -/
def execKeyProvision (m : Master) (slot : Fin 16) (k256 : Bool) (policy : BitVec 5) (s : State) : Out :=
  .next (s.write m R.KEYS_PROG_CFG_GO fun s0 =>
    let seq := s0.rd L.KEYSEQ
    let s := s0.wr L.KEYSEQ 0
    let bad : Nat := if seq ≠ 2 then 6 else if s.rd R.FLASHC_RDP_LEVEL ≠ 0 then 5
      else if s.rd (R.KEYS_SLOT_STATE slot.val) ≠ 0 then 4 else 0
    if m ≠ .app ∨ s.on R.KEYS_PROG_STAT_BUSY ∨ s.on R.KEYS_REVOKE_STAT_BUSY then s
    else if bad ≠ 0 then s.wrs [(R.KEYS_PROG_STAT_RESULT, bad), (R.KEYS_EVT_PROG_DONE, 1)]
    else (s.wrs [(R.KEYS_PROG_STAT_BUSY, 1), (L.PROG_SLOT, slot.val), (L.PROG_KSIZE, b2n k256), (L.PROG_POLICY, policy.toNat)]).ifStart
      10 1 0 0 slot.val 0)

/-- R227: programming and read-back end; `same` tells that the read-back agrees. A supply dip holds them. -/
def execKeyProgDone (same : Bool) (s : State) : Out :=
  if s.on R.KEYS_PROG_STAT_BUSY && !s.on R.SYSCTL_SUPPLY_STAT_WARN then
    let k := s.rd L.PROG_SLOT
    let words := if s.on L.PROG_KSIZE then 8 else 4
    let key := (List.range words).foldl (fun t i => t + s.rd (R.KEYS_PROG_DATA i) * 2 ^ (32 * i)) 0
    let st := if same then 1 else 3
    let s1 := s.wrs [(L.OTP_KEY k, key), (L.OTP_KSIZE k, s.rd L.PROG_KSIZE), (L.OTP_POLICY k, s.rd L.PROG_POLICY), (L.OTP_STATE k, st),
      (R.KEYS_SLOT_STATE k, st), (R.KEYS_SLOT_KSIZE k, s.rd L.PROG_KSIZE), (R.KEYS_SLOT_POLICY k, s.rd L.PROG_POLICY),
      (R.KEYS_PROG_STAT_BUSY, 0), (R.KEYS_PROG_STAT_RESULT, if same then 1 else 7), (R.KEYS_EVT_PROG_DONE, 1)]
    .next ((s1.each (List.range 8) fun i s => s.wr (R.KEYS_PROG_DATA i) 0).ifEnd 10)
  else .next s

/-- R228: a revocation takes effect: every frame and job that holds a key from the slot is refused. -/
def State.revoke (s : State) (k : Nat) : State :=
  let s1 := (s.wr (R.KEYS_SLOT_STATE k) 2).setBitF R.KEYS_REVOKE_PEND k
  let s2 := s1.each [Radio.cirrus, Radio.stratus] fun r s =>
    s.when (s.rd (L.RX_KEYST r) == 2 && s.rd (L.RX_SLOT r) == k) fun s => s.wr (L.RX_KEYST r) 3
  s2.each (List.range 5) fun q s =>
    let d := s.dscAt (s.rd (R.CIPHER_Q_CUR q))
    s.when (s.chRun q && s.rd (L.JOB_ST q) == 2 && s.rd (L.JOB_BAD q) == 0 && dscKsrc d == 1 && dscSlot d == k) fun s => s.jobKill q 5

/-- R228, R245: a REVOKE write with GO. -/
def execKeyRevoke (m : Master) (slot : Fin 16) (s : State) : Out :=
  .next (s.write m R.KEYS_REVOKE_GO fun s0 =>
    let seq := s0.rd L.KEYSEQ
    let s := s0.wr L.KEYSEQ 0
    if m ≠ .app ∨ s.on R.KEYS_PROG_STAT_BUSY ∨ s.on R.KEYS_REVOKE_STAT_BUSY then s
    else if seq ≠ 2 then s.wr R.KEYS_REVOKE_STAT_RESULT 6
    else if s.rd (R.KEYS_SLOT_STATE slot.val) ≠ 1 then s.wr R.KEYS_REVOKE_STAT_RESULT 3
    else ((s.revoke slot.val).wrs [(R.KEYS_REVOKE_STAT_BUSY, 1), (R.KEYS_REVOKE_STAT_RESULT, 2), (L.REV_SLOT, slot.val)]).ifStart
      10 2 0 0 slot.val 0)

/-- R228: the four revocation bits are programmed; the next pending slot, if any, is taken up. -/
def execRevokeDone (s : State) : Out :=
  if s.on R.KEYS_REVOKE_STAT_BUSY then
    let k := s.rd L.REV_SLOT
    let s1 := ((s.wrs [(L.OTP_REV k, 15), (R.KEYS_REVOKE_STAT_RESULT, 1), (R.KEYS_REVOKE_STAT_BUSY, 0), (R.KEYS_EVT_REVOKE_DONE, 1)]).clrBitF
      R.KEYS_REVOKE_PEND k).ifEnd 10
    match firstBelow (fun j => bit (s1.rd R.KEYS_REVOKE_PEND) j) 16 with
    | some j => .next ((s1.wrs [(R.KEYS_REVOKE_STAT_BUSY, 1), (R.KEYS_REVOKE_STAT_RESULT, 2), (L.REV_SLOT, j)]).ifStart 10 2 0 0 j 0)
    | none => .next s1
  else .next s

/-! ### Software jobs -/

/-- R236: a write of Q_CMD.GO. -/
def execJobGo (m : Master) (q : Fin 5) (s : State) : Out :=
  .next (s.write m (R.CIPHER_Q_CMD_GO q.val) fun s =>
    if chanMaster m q.val && !s.chRun q.val then (s.wr (R.CIPHER_Q_CUR q.val) (s.rd (R.CIPHER_Q_DESC q.val))).jobBegin q.val else s)

/-- R235, R236, R239, R240: channel q's job ends, `done` octets in where it fails part-way; `unzeroed` octets
could not be zeroed by a fill that met error responses. -/
def execJobEnd (q : Fin 5) (done : Nat) (parity busErr : Bool) (unzeroed : Nat) (s : State) : Out :=
  let q := q.val
  if !s.chRun q || (s.rd (L.JOB_ST q) != 2 && !s.on (L.JOB_ABORT q)) then .next s
  else
    let bad := s.rd (L.JOB_BAD q)
    let stop (s : State) (st : Nat) : Out := .next (((s.jobStop q st done unzeroed).lockSettle).settle)
    if s.portWaits (Fin.ofNat 5 q) (s.jobAll q) then .next s
    else if bad ≠ 0 then stop s bad
    else if s.on (L.JOB_ABORT q) then stop s 10
    else if s.jobGate q ≠ 0 then stop (s.when (s.jobGate q == 11) fun s => s.portLog q false (s.jobAll q)) (s.jobGate q)
    else
      let o := s.occasion 0x15
      if o.1 || parity then stop (o.2.fire 0x15 q o.1 (some 7)) 9
      else if busErr then stop s 11
      else stop s 0

/-- R236: a write of Q_CMD.ABORT: the job ends with ABORTED at the next block boundary. -/
def execJobAbort (m : Master) (q : Fin 5) (s : State) : Out :=
  .next (s.write m (R.CIPHER_Q_CMD_ABORT q.val) fun s =>
    if chanMaster m q.val && s.chRun q.val then s.wrs [(L.JOB_ABORT q.val, 1), (R.CIPHER_Q_STAT_STATE q.val, 3)] else s)

/-! ### The cipher lock -/

/-- R237: LOCK_CMD ACQUIRE of a channel. -/
def execLockAcquire (m : Master) (id : BitVec 3) (s : State) : Out :=
  .next (s.write m R.CIPHER_LOCK_CMD_OP fun s =>
    if id ≠ 0#3 ∧ lockMaster m (id.toNat - 1) ∧ s.rd R.CIPHER_LOCK_OWNER = 0 then s.setLock id.toNat else s)

/-- R237: LOCK_CMD RELEASE: at once, or once the holder's SWKEY jobs have ended. -/
def execLockRelease (m : Master) (id : BitVec 3) (s : State) : Out :=
  .next (s.write m R.CIPHER_LOCK_CMD_OP fun s =>
    if id ≠ 0#3 ∧ lockMaster m (id.toNat - 1) ∧ s.rd R.CIPHER_LOCK_OWNER = id.toNat then
      (if s.jobUsesSw (id.toNat - 1) then s.wr R.CIPHER_LOCK_RELEASING 1 else s.setLock 0)
    else s)

/-- R237: the release that waited takes place. -/
def execLockReleaseDone (s : State) : Out := .next s.lockSettle

/-- R237: LOCK_CMD FORCE of the application core: the lock is free at once and jobs on SWKEY end. -/
def execLockForce (m : Master) (id : BitVec 3) (s : State) : Out :=
  .next (s.write m R.CIPHER_LOCK_CMD_OP fun s =>
    if m = .app ∧ id ≠ 0#3 ∧ lockMaster m (id.toNat - 1) then
      let q := s.rd R.CIPHER_LOCK_OWNER - 1
      let s1 := s.when (s.rd R.CIPHER_LOCK_OWNER != 0 && s.jobUsesSw q) fun s => s.jobKill q 6
      (s1.setLock 0).wr R.CIPHER_EVT_LOCK_FORCED 1
    else s)

/-- R238: a write of SWKEY word k, or of SWKEY_CFG for k = 8. -/
def execSwkeyWrite (m : Master) (k : Fin 9) (v : Word) (s : State) : Out :=
  .next (s.write m R.CIPHER_SWKEY_CFG_KSIZE fun s =>
    let o := s.rd R.CIPHER_LOCK_OWNER
    if o ≠ 0 ∧ lockMaster m (o - 1) ∧ !s.jobUsesSw (o - 1) then
      (if k.val = 8 then s.wr R.CIPHER_SWKEY_CFG_KSIZE v.toNat else s.wr (R.CIPHER_SWKEY k.val) v.toNat)
    else s.wr R.CIPHER_EVT_SWKEY_IGNORED 1)

/-! ### The IV table -/

/-- R223: IV_CMD READ of an entry by the link cores. -/
def execIvRead (m : Master) (k : BitVec 8) (s : State) : Out :=
  .next (s.write m R.KEYS_IV_CMD_OP fun s =>
    if m = .link then (s.wrs [(R.KEYS_IV_LO, s.rd (L.IV k.toNat)), (R.KEYS_IV_HI, s.rd (L.IV k.toNat) / 2 ^ 32)]).wr L.KEYSEQ 0
    else s.wr L.KEYSEQ 0)

/-- R223: IV_CMD WRITE of an entry by the link cores. -/
def execIvWrite (m : Master) (k : BitVec 8) (s : State) : Out :=
  .next (s.write m R.KEYS_IV_CMD_OP fun s =>
    if m = .link then (s.wr (L.IV k.toNat) (s.rd R.KEYS_IV_LO + s.rd R.KEYS_IV_HI * 2 ^ 32)).wr L.KEYSEQ 0
    else s.wr L.KEYSEQ 0)

end Sys2Proof.Machine
end

