-- ==== Sys2Proof/Machine/Nfc.lean ====
section
/-!
DEFINITION. Machine/Nfc.lean: the contactless reader (R290 to R303, R498): one meaning for each of its rows.
-/
namespace Sys2Proof.Machine

open Sys2Proof

/-- R298: a cipher job of the command in progress is ended before the command is. -/
def State.nfKillJob (s : State) : State :=
  if s.rd L.NF_STG = 3 then (s.wr L.NF_STG 0).jobKill 3 10 else s

/-- R303: the driver stops in a dip, or with VNFC low. A reader that the loss of the HFXO has halted stays HALTED. -/
def State.nfDip (s : State) : State :=
  if s.rd R.NFCR_STAT_STATE = 5 then s else (s.wr L.NF_REF (s.rd L.NF_ON)).nfKillJob.nfDrop

/-- R303: after the recovery the field returns under R293 when AUTO_REFIELD asks it then. -/
def State.nfRefield (s : State) : State :=
  if s.on L.NF_REF ∧ s.on R.NFCR_CTRL_AUTO_REFIELD ∧ s.rd R.NFCR_STAT_STATE ≠ 5 ∧ s.rd L.NF_OP = 0 ∧ !s.on L.NF_ON then ((s.wrs [(L.NF_REF, 0), (L.NF_OP, 7)])).nfField else s.wr L.NF_REF 0

/-- A write of CMD.OP of the reader. -/
def State.nfWrite (s : State) (m : Master) (op : Nat) : State := s.write m R.NFCR_CMD_OP fun s => s.nfCmd op

/-- R293, R295: FIELD_ON. -/
def execFieldOn (m : Master) (s : State) : Out := .next (s.nfWrite m 1)

/-- R295: FIELD_OFF. -/
def execFieldOff (m : Master) (s : State) : Out :=
  .next (s.write m R.NFCR_CMD_OP fun s => if s.nfTakes 2 then s.nfKillJob.nfCmd 2 else s)

/-- R299: INVENTORY. -/
def execInventory (m : Master) (s : State) : Out := .next (s.nfWrite m 3)

/-- R296: TRANSCEIVE. -/
def execTransceive (m : Master) (s : State) : Out := .next (s.nfWrite m 4)

/-- R295: ABORT. -/
def execNfcAbort (m : Master) (s : State) : Out := .next (s.write m R.NFCR_CMD_OP fun s => s.nfKillJob.nfCmd 5)

/-- R293: the synthesiser locks; a command that waited for it starts its sensing interval. -/
def execNfcSynLocked (s : State) : Out :=
  if s.domOn 10 && s.islOn 7 then
    let s1 := s.wr R.HALL_CLK_STAT_NFC_SYN_LOCK 1
    .next (s1.when (s1.rd R.NFCR_STAT_STATE == 1 && !s1.on L.NF_CA) State.nfSense)
  else .next s

/-- R293, R294: the sensing interval ends: the unmodulated field comes on. -/
def execCaIntervalEnd (s : State) : Out :=
  if !s.online 18 || !s.on L.NF_CA then .next s
  else .next (s.wrs [(L.NF_CA, 0), (L.NF_ON, 1), (L.NF_LOW, 0), (L.NF_GRD, 1), (R.NFCR_STAT_STATE, 2)])

/-- R294: an external field reaches or leaves CA.THRESH; while the reader senses, one that reaches it ends the command. STAT.EXT_FIELD
shows it unless the reader's own field is on. -/
def execExtField (present : Bool) (s : State) : Out :=
  .next ((s.wr L.EXT_LVL (b2n present)).when (present && s.online 18 && s.on L.NF_CA) State.nfExt)

/-- R293: the guard ends. -/
def execGuardEnd (s : State) : Out :=
  if !s.online 18 || s.rd R.NFCR_STAT_STATE != 2 then .next s
  else if s.rd L.IV_PH = 5 then .next s.ivStartB
  else .next ((s.wr L.NF_GRD 0).nfGo)

/-! ### Inventory (R299 to R301) -/

/-- R299 step 3: the anticollision frame of a cascade level, with the identifier bits known. -/
def State.ivAnti (s : State) : State :=
  let nb := s.rd L.IV_NB
  (s.nfSend false false true (nb % 8) ([BitVec.ofNat 8 (0x93 + 2 * s.rd L.IV_CL), BitVec.ofNat 8 ((2 + nb / 8) * 16 + nb % 8)] ++
    leBytes ((nb + 7) / 8) (s.rd L.IV_BITS))).wr L.IV_PH 2

/-- R299 step 4: the SELECT of a cascade level. -/
def State.ivSelect (s : State) : State :=
  let id := leBytes 4 (s.rd L.IV_BITS)
  (s.nfSend false true true 0 ([BitVec.ofNat 8 (0x93 + 2 * s.rd L.IV_CL), 0x70] ++ id ++ [id.foldl (· ^^^ ·) 0])).wr L.IV_PH 3

/-- The Porch's own UID (R299). -/
def ownUid : List Byte := (List.range 7).map Config.porchByte

/-- An entry stored. -/
def State.ivStore (s : State) (type : Nat) (id : List Byte) (info : Nat) : State :=
  let n := s.rd R.NFCR_STAT_INV_N
  s.wrs [(R.NFCR_INV_TYPE n, type), (R.NFCR_INV_ID_LEN n, id.length), (R.NFCR_INV_INFO n, info), (R.NFCR_INV_VALID n, 1),
    (R.NFCR_INV_ID_0 n, ofLe (id.take 4)), (R.NFCR_INV_ID_1 n, ofLe ((id.drop 4).take 4)),
    (R.NFCR_INV_ID_2 n, ofLe ((id.drop 8).take 2)), (R.NFCR_STAT_INV_N, n + 1)]

/-- R299 step 4: a SAK: the next cascade level, or the UID complete, stored and halted. -/
def State.ivSak (s : State) (sak : Nat) : State :=
  let id := leBytes 4 (s.rd L.IV_BITS)
  if bit sak 2 ∧ s.rd L.IV_CL < 2 then
    ((s.setFf L.IV_UID (s.ff L.IV_UID ++ (id.drop 1).map BitVec.toNat)).wrs [(L.IV_CL, s.rd L.IV_CL + 1), (L.IV_BITS, 0), (L.IV_NB, 0)]).ivAnti
  else
    let uid := (s.ff L.IV_UID).map (BitVec.ofNat 8) ++ id
    let s1 := if s.on R.NFCR_INV_CFG_SKIP_OWN && uid == ownUid then s else s.ivStore 0 uid sak
    (s1.nfSend false true true 0 [0x50, 0x00]).wr L.IV_PH 4

/-- R300: the slot of a round ends: the next slot's marker, the next round, or the end of the part. -/
def State.ivNextSlot (s : State) : State :=
  let n := s.rd L.IV_N
  let sl := s.rd L.IV_S
  let c := s.rd L.IV_C
  let e := s.rd L.IV_E
  if sl < 2 ^ n ∧ !s.ivFilled then
    ((s.nfSend true true false 0 [BitVec.ofNat 8 (sl * 16 + 5)]).wrs [(L.IV_S, sl + 1), (L.IV_PH, 6)])
  else
    let s1 := s.when (s.ivFilled && (c != 0 || s.on L.IV_MORE)) State.ivFull
    if c = 0 then s1.ivEnd
    else
      let n' := if 2 ^ n < 2 * c then min (n + 1) 4 else if 2 ^ n < 2 * e then n - 1 else n
      let round := s.rd L.IV_ROUND + 1
      let again := decide (round < s.rd R.NFCR_INV_CFG_MAX_ROUNDS) && !s.ivFilled
      let s2 := s1.when (!again) fun s => s.wr L.IV_PART 1
      (s2.wrs [(L.IV_N, n'), (L.IV_ROUND, round), (L.IV_S, 1), (L.IV_C, 0), (L.IV_E, 0)]).ivReqB false (if again then 6 else 8)

/-- R300: an ATQB stored and its PICC halted. -/
def State.ivAtqb (s : State) (l : List Byte) : State :=
  let pupi := (l.drop 1).take 4
  ((s.ivStore 1 pupi (l.getD 9 0).toNat).nfSend true true false 0 (0x50 :: pupi)).wr L.IV_PH 7

/-- R299: a response during the Type A part: ATQA, anticollision bits, or SAK. A frame in error starts the
PICC's resolution again. -/
def State.ivRespA (s : State) (l : List Byte) (bad : Bool) (coll : Option Nat) : State :=
  let v := ofLe l
  match s.rd L.IV_PH with
  | 1 => ((s.setFf L.IV_UID []).wrs [(L.IV_CL, 0), (L.IV_BITS, 0), (L.IV_NB, 0), (L.IV_MORE, s.rd L.IV_MORE ||| b2n coll.isSome)]).ivAnti
  | 2 =>
    let nb := s.rd L.IV_NB
    match coll with
    | some p =>
      let nb' := min (nb + p + 1) 32
      let s1 := s.wrs [(L.IV_BITS, s.rd L.IV_BITS + (v % 2 ^ p + 2 ^ p) * 2 ^ nb), (L.IV_NB, nb'), (L.IV_MORE, 1)]
      if nb' = 32 then s1.ivSelect else s1.ivAnti
    | none =>
      if bad then s.ivReqA false
      else (s.wrs [(L.IV_BITS, s.rd L.IV_BITS + v * 2 ^ nb), (L.IV_NB, 32)]).ivSelect
  | _ => if bad || coll.isSome then s.ivReqA false else s.ivSak (v % 256)

/-! ### Frames and responses -/

/-- R296, R297, R299, R300: the reader's frame ends: its response window opens, or a halt command is over. -/
def execNfcFrameSent (s : State) : Out :=
  if !s.online 18 || s.rd L.NF_STG != 1 then .next s
  else
    match s.rd L.IV_PH with
    | 4 => .next (if s.ivFilled then s.ivEndA else s.ivReqA false)
    | 7 => .next s.ivNextSlot
    | 8 => .next s.ivEnd
    | _ => .next ((s.nfFreeTx.wr L.NF_STG 2).ifStep 12 3 0 (s.rd R.NFCR_TX_HEAD) 0).settle

/-- R30, R296 step 3: buffers allocated to NFC for a response, filled with it; not so when the share, the stock or a refused crossing
forbids it. -/
def State.nfStore (s : State) (l : List Byte) : Bool × State :=
  let n := bufsFor l.length
  let bs := s.freeBufs n false
  match s.unitOff .nfc (bufAddr (bs.headD 0)) true with
  | some t => (false, t)
  | none =>
    if s.overShare ownNfc n || decide (bs.length < n) then (false, s)
    else (true, (((s.portBeats 3 ((l.length + 15) / 16)).zeroNow bs).takeBufs ownNfc bs).fillBufs ownNfc bs l |>.wrs
      [(L.NF_RX, bs.headD 0 + 1), (R.NFCR_RX_HEAD, bs.headD 0)])

/-- R233, R298: the cipher job of a response: hints at both draw points, the descriptor's source and length, along its chain, and
channel 3 started. -/
def State.nfJob (s : State) : State :=
  let a := s.rd R.NFCR_JOB_DESC
  let len := s.rd R.NFCR_RX_LEN
  let s1 := (s.postHints 3).wr L.NF_STG 3
  let s2 := match s1.jobSegs 3 false a 96 with
    | some l => (s1.writeSegs (dropSegs 8 l) (leBytes 4 (len - s1.rd R.NFCR_JOB_SKIP))).writeSegs (dropSegs 0x10 l)
        (leBytes 4 (bufAddr (s1.rd R.NFCR_RX_HEAD)))
    | none => s1
  let s3 := s2.ifStep 12 4 len (s.rd R.NFCR_TX_HEAD) 0
  if s3.domOn 7 && !s3.chRun 3 then (s3.wrs [(R.CIPHER_Q_DESC 3, a), (R.CIPHER_Q_CUR 3, a)]).jobBegin 3 else s3.nfJobEnd 3 10

/-- R291, R296, R297: a response of a TRANSCEIVE received to its end. -/
def State.nfResp (s : State) (l : List Byte) (lastBits : Nat) (crc par : Bool) (coll : Option Nat) : State :=
  let typeA := s.rd R.NFCR_MODE_TYPE == 0
  let crcE := crc && s.on R.NFCR_MODE_CRC_RX
  let parE := par && s.on R.NFCR_MODE_PARITY && typeA
  let collE := coll.isSome && typeA
  let s1 := s.wrs [(R.NFCR_RX_INFO_COLL_POS, if collE then coll.getD 0 else 0), (R.NFCR_RX_INFO_LAST_BITS, lastBits),
    (R.NFCR_RX_INFO_CRC_ERR, b2n crcE), (R.NFCR_RX_INFO_PARITY_ERR, b2n parE), (R.NFCR_RX_INFO_COLL, b2n collE), (R.NFCR_RX_LEN, l.length)]
  let res := if collE then 5 else if parE then 4 else if crcE then 3 else 1
  let r := if l.isEmpty then (true, s1) else s1.nfStore l
  if !r.1 then (r.2.wr R.NFCR_RX_LEN 0).nfEnd 9
  else if res = 1 ∧ r.2.on R.NFCR_JOB_EN then r.2.nfJob
  else r.2.nfDeliver res

/-- R297, R299, R300: a PICC's response received to its end: its octets without the CRC, the bits of its last
octet where incomplete, what its checks found, and the first colliding bit. -/
def execPiccResponse (octets : List Byte) (lastBits : BitVec 3) (crcErr parErr : Bool) (coll : Option (BitVec 8)) (s : State) : Out :=
  if !s.online 18 || s.rd L.NF_STG != 2 then .next s
  else
    let c := coll.map BitVec.toNat
    match s.rd L.IV_PH with
    | 0 => .next (s.nfResp octets lastBits.toNat crcErr parErr c).settle
    | 6 => .next (if crcErr || coll.isSome then (s.inc L.IV_C 1).ivNextSlot else s.ivAtqb octets)
    | _ => .next (s.ivRespA octets (crcErr || parErr) c)

/-- R297, R299, R300: no response starts in time. -/
def execResponseTimeout (s : State) : Out :=
  if !s.online 18 || s.rd L.NF_STG != 2 then .next s
  else
    match s.rd L.IV_PH with
    | 0 => .next (s.nfEnd 2)
    | 1 => .next s.ivEndA
    | 6 => .next (s.inc L.IV_E 1).ivNextSlot
    | _ => .next (s.ivReqA false)

/-- R292: the driver current reaches the limit: the amplitude goes down by a number of steps. -/
def execIlim (steps : BitVec 5) (s : State) : Out :=
  if !s.online 18 || !s.on L.NF_ON then .next s
  else .next (((s.wr L.NF_LOW (min (s.rd L.NF_LOW + steps.toNat) (s.rd R.NFCR_DRV_LEVEL))).sat R.NFCR_ILIM_CNT 1).wr R.NFCR_EVT_ILIM 1)

/-- R498: VNFC falls below 2.8 V. -/
def execVnfcLow (s : State) : Out :=
  .next (((s.wr L.VNFC_LOW 1).when (s.online 18) fun s => s.nfKillJob.nfDrop).settle)

/-- R498: VNFC is back at 2.8 V or above. -/
def execVnfcRestored (s : State) : Out := .next (s.wr L.VNFC_LOW 0)

end Sys2Proof.Machine
end

