-- ==== Sys2Proof/Machine/Clocks.lean ====
section
/-!
DEFINITION. Machine/Clocks.lean: the crystals, the PLL, LINK_TIME and the Hallway's log (R16 to R25, R44, R489 to R491):
one meaning for each of their rows.
-/
namespace Sys2Proof.Machine

open Sys2Proof

/-- The islands whose clock stops, and those that start again, of powered domains. -/
def State.islsOff (s : State) (l : List Nat) : State := s.each l fun i s => s.setIsl i false
def islDom (i : Nat) : Nat := [1, 0, 5, 6, 7, 8, 9, 10, 2, 11, 12].getD i 12
def State.islsOn (s : State) (l : List Nat) : State :=
  s.each (l.filter fun i => s.domOn (islDom i) && !(s.on L.ENT_CLK && [2, 9, 10].contains i)) fun i s => s.setIsl i true

/-- R17, R303, R457, R489: what the loss of the HFXO stops: the PLL-fed islands, the radios, the reader and the CAN
controllers; LINK_TIME is carried. -/
def State.hfxoStop (s : State) : State :=
  let s1 := (((s.wr R.HALL_CLK_STAT_PLL_LOCK 0).islsOff [2, 3, 4, 5, 6, 7, 9, 10]).ltToCarry).wrs [(R.HALL_CLK_STAT_NFC_SYN_LOCK, 0), (L.PLL_WAIT, 1)]
  let s2 := (s1.when (s1.domOn 8) fun s => s.radioHalt .cirrus).when (s1.domOn 9) fun s => s.radioHalt .stratus
  let s3 := s2.when (s2.domOn 10) fun s => (((s.freeze 14 12).nfKillJob).wrs [(L.NF_ON, 0), (L.NF_LOW, 0), (L.NF_CA, 0), (L.NF_GRD, 0), (L.NF_REF, 0)]).when (s.on L.NF_OP) (fun s => s.nfDeliver 8)
    |>.wr R.NFCR_STAT_STATE 5
  s3.when (s3.domOn 12) fun s => (s.canHalt 0).canHalt 1

/-- R17, R477: the HFXO is lost. On the HFRC only its qualification ends; during a return the fallback is taken again. -/
def execHfxoLoss (s : State) : Out :=
  if !s.on R.HALL_CLK_STAT_HFXO_OK then .next s
  else
    let o := s.occasion 0x00
    let s1 := o.2.wr R.HALL_CLK_STAT_HFXO_OK 0
    if s.on R.HALL_CLK_STAT_PLL_SRC ∧ s.rd L.PLL_WAIT ≠ 3 then .next s1
    else .next ((((s1.wr R.HALL_CLK_EVT_HFXO_LOST 1).fire 0x00 0 o.1).hfxoStop).settle)

/-- R17: the PLL has locked on the HFRC and the islands it feeds restart, the radios' and the reader's apart. -/
def execPllRelockHfrc (s : State) : Out :=
  if s.rd L.PLL_WAIT ≠ 1 then .next s
  else .next ((s.wrs [(R.HALL_CLK_STAT_PLL_SRC, 1), (R.HALL_CLK_STAT_PLL_LOCK, 1), (L.PLL_WAIT, 0)]).islsOn [2, 3, 4, 9, 10])

/-- R477 0x01: the PLL loses lock outside a commanded switch. -/
def execPllUnlock (s : State) : Out :=
  if !s.on R.HALL_CLK_STAT_PLL_LOCK then .next s
  else
    let o := s.occasion 0x01
    let s1 := (((o.2.wrs [(R.HALL_CLK_STAT_PLL_LOCK, 0), (R.HALL_CLK_EVT_PLL_UNLOCK, 1), (L.PLL_WAIT, 2)]).ltToCarry).islsOff [2, 3, 4, 5, 9, 10]).fire 0x01 0 o.1
    .next s1.settle

/-- R477 0x01: it locks again and its islands restart. -/
def execPllRelock (s : State) : Out :=
  if s.rd L.PLL_WAIT ≠ 2 then .next s
  else .next ((s.wrs [(R.HALL_CLK_STAT_PLL_LOCK, 1), (L.PLL_WAIT, 0)]).islsOn ([2, 3, 4, 9, 10] ++ (if s.on R.HALL_CLK_STAT_PLL_SRC then [] else [5])))

/-- R19: 64 µs within tolerance, while the HFXO is enabled: in RUN and IDLE, in a wake and in a listen window. -/
def execHfxoQualified (s : State) : Out :=
  if !s.on R.HALL_CLK_STAT_HFXO_OK && s.domOn 1 && (decide (s.pwr ≤ 1) || (s.on L.WAKING && decide (s.pwr ≤ 3)) || s.on R.SYSCTL_PWR_STAT_LISTEN) then
    .next (s.wr R.HALL_CLK_STAT_HFXO_OK 1)
  else .next s

/-- R19: a write of CLK_CMD.RETURN_HFXO. -/
def execReturnHfxo (m : Master) (s : State) : Out :=
  .next (s.write m R.HALL_CLK_CMD_RETURN_HFXO fun s =>
    if s.on R.HALL_CLK_STAT_HFXO_OK && s.on R.HALL_CLK_STAT_PLL_SRC && s.rd L.PLL_WAIT == 0 then
      (s.wrs [(R.HALL_CLK_STAT_PLL_LOCK, 0), (L.PLL_WAIT, 3)]).islsOff [2, 3, 4, 5, 9, 10]
    else s)

/-- R19, R22, R87, R303, R457: the return completes `cycles` CELLAR cycles after LINK_TIME was last carried. -/
def execReturnHfxoDone (cycles : Nat) (s : State) : Out :=
  if s.rd L.PLL_WAIT ≠ 3 then .next s
  else
    let s1 := (s.carry cycles).wrs [(R.HALL_CLK_STAT_PLL_SRC, 0), (R.HALL_CLK_STAT_PLL_LOCK, 1), (L.PLL_WAIT, 0), (R.HALL_CLK_EVT_RETURNED, 1),
      (R.HALL_CLK_STAT_LT_SRC, b2n !(s.domOn 6))]
    let s2 := s1.islsOn [2, 3, 4, 5, 6, 7, 9, 10]
    let s3 := s2.each [Radio.cirrus, Radio.stratus] fun r s => s.when (s.rd (R.FE_STAT_STATE r) == 8) fun s => s.wr (R.FE_STAT_STATE r) 0
    let s4 := s3.when (s3.rd R.NFCR_STAT_STATE == 5) fun s => s.wrs [(R.NFCR_STAT_STATE, 0), (R.NFCR_STAT_RESULT, 8)]
    .next ((s4.canReturn 0).canReturn 1)

/-- R20: the LFXO stands still for 4 ms. -/
def execLfxoLost (s : State) : Out :=
  if s.on R.HALL_CLK_STAT_LF_SRC || s.on L.FP_LF_SRC || !s.domOn 1 then .next s
  else
    let o := s.occasion 0x02
    .next (((o.2.wrs [(R.HALL_CLK_STAT_LF_SRC, 1), (R.HALL_CLK_STAT_LFXO_OK, b2n o.1), (R.HALL_CLK_EVT_LFXO_LOST, 1), (L.TR_BAD, 1)]).fire 0x02 0 o.1).settle)

/-- R22: LINK_TIME resumes at the first CELLAR edge after HFXO_OK, `cycles` CELLAR cycles after it was last carried. -/
def execLinkTimeResume (cycles : Nat) (s : State) : Out :=
  if s.on R.HALL_CLK_STAT_LT_SRC && s.on R.HALL_CLK_STAT_HFXO_OK && !s.on R.HALL_CLK_STAT_PLL_SRC && s.domOn 6 && s.islOn 3 then
    .next ((s.carry cycles).wr R.HALL_CLK_STAT_LT_SRC 0)
  else .next s

/-- R25, R195, R202: a write of HALL.LT_CMD.SNAP. -/
def execLtSnap (m : Master) (s : State) : Out :=
  .next (s.write m R.HALL_LT_CMD_SNAP fun s =>
    let lt := s.lt
    let s1 := s.wrs [(R.HALL_LT_SNAP_LO, lt % 2 ^ 32), (R.HALL_LT_SNAP_HI, lt / 2 ^ 32), (R.HALL_LT_STAT_SNAP_DONE, 1)]
    s1.when (s1.domOn 6) fun s => s.wrs [(R.MAC_FT_SNAP_LO, s.fleet lt % 2 ^ 32), (R.MAC_FT_SNAP_HI, s.fleet lt / 2 ^ 32),
      (R.MAC_ASN_SNAP_LO, s.asn lt % 2 ^ 32), (R.MAC_ASN_SNAP_HI, s.asn lt / 2 ^ 32)])

/-- R43, R44: a write of 1 to STALL_LOG.VALID. -/
def State.stallClear (s : State) : State :=
  ({ s with late := s.late.map fun w => { w with logged := false } } : State).wrs [(R.HALL_STALL_LOG_SRC, 0), (R.HALL_STALL_LOG_DST, 0), (R.HALL_STALL_LOG_REASON, 0), (R.HALL_STALL_LOG_WRITE, 0),
    (R.HALL_STALL_LOG_LATE_DONE, 0), (R.HALL_STALL_LOG_VALID, 0), (R.HALL_STALL_ADDR, 0), (R.HALL_STALL_CNT, 0)]
def execStallLogClear (m : Master) (s : State) : Out := .next (s.write m R.HALL_STALL_LOG_VALID State.stallClear)

end Sys2Proof.Machine
end

