-- ==== Sys2Proof/Machine/Dma.lean ====
section
/-!
DEFINITION. Machine/Dma.lean: the settings of the DMA's channels, and how a channel starts and stops (R45, R46).
-/
namespace Sys2Proof.Machine

open Sys2Proof

namespace L

/-- R46: channel n's next source and destination addresses. -/
def DM_SRC (n : Nat) : Fld := latch 4 n 32 .w 0
def DM_DST (n : Nat) : Fld := latch 4 (16 + n) 32 .w 0
/-- R46: channel n is to stop at the next element boundary. -/
def DM_STOP (n : Nat) : Fld := latch 4 (32 + n) 1 .w 0
/-- R47: the channels that have moved an element since the others ready at their priority did. -/
def DM_SERVED : Fld := latch 4 48 16 .w 0
/-- R46: the channels whose request has moved no element yet. -/
def DM_REQ : Fld := latch 4 49 16 .w 0

end L

/-- R45: the element width of channel n, bytes. -/
def State.dmaWidth (s : State) (n : Nat) : Nat := 2 ^ s.rd (R.DMA_CH_CFG_WIDTH n)

/-- R46, R48: channel n stops; `ok` where it has finished its count. DESIGN CHOICE: EN clears then too; the spec says so only of an
error. -/
def State.dmaEnd (s : State) (n : Nat) (ok : Bool) : State :=
  (((s.wrs [(R.DMA_CH_CFG_EN n, 0), (R.DMA_CH_STAT_BUSY n, 0), (L.DM_STOP n, 0)]).clrBitF L.DM_REQ n).setBitF (if ok then R.DMA_DONE else R.DMA_ERR) n).when
    (!((List.range 16).any fun k => k != n && s.on (R.DMA_CH_STAT_BUSY k))) fun s => s.ifEnd 13

/-- R45: the settings a write of CH_CFG_n stores; WIDTH takes no value that its table does not list (R13). -/
def State.dmaCfg (s : State) (n v : Nat) : State :=
  (s.wrs [(R.DMA_CH_CFG_EN n, v), (R.DMA_CH_CFG_SRC_INC n, v / 2), (R.DMA_CH_CFG_DST_INC n, v / 4), (R.DMA_CH_CFG_REQ n, v / 32),
    (R.DMA_CH_CFG_SW n, v / 2 ^ 11), (R.DMA_CH_CFG_PRIO n, v / 2 ^ 12)]).when (bits v 4 3 != 3) fun s => s.wr (R.DMA_CH_CFG_WIDTH n) (v / 8)

/-- R46: a write of CH_CFG_n with EN = 1. -/
def State.dmaStart (s : State) (n v : Nat) : State :=
  if s.on (R.DMA_CH_STAT_BUSY n) then s
  else
    let s1 := s.dmaCfg n v
    if !s.on R.DMA_CTRL_EN then s1.wr (R.DMA_CH_CFG_EN n) 0
    else
      let c := s1.rd (R.DMA_CH_CNT n)
      if c = 0 ∨ c % s1.dmaWidth n ≠ 0 then (s1.wr (R.DMA_CH_CFG_EN n) 0).setBitF R.DMA_ERR n
      else
        (s1.wrs [(R.DMA_CH_STAT_BUSY n, 1), (R.DMA_CH_STAT_REMAIN n, c), (L.DM_SRC n, s1.rd (R.DMA_CH_SRC n)),
          (L.DM_DST n, s1.rd (R.DMA_CH_DST n)), (L.DM_STOP n, 0)]).ifStart 13 1 1 0 n c

/-- R46: a write of CH_CFG_n with EN = 0: the other fields of a running channel keep their values. -/
def State.dmaStop (s : State) (n v : Nat) : State :=
  if s.on (R.DMA_CH_STAT_BUSY n) then s.wrs [(L.DM_STOP n, 1), (R.DMA_CH_CFG_EN n, 0)] else s.dmaCfg n v

/-- R46: a channel that was told to stop does so at an element boundary. -/
def State.dmaSettle (s : State) : State :=
  s.each ((List.range 16).filter fun n => s.on (L.DM_STOP n)) fun n s =>
    (s.wrs [(R.DMA_CH_STAT_BUSY n, 0), (L.DM_STOP n, 0), (L.DM_REQ, clrBit (s.rd L.DM_REQ) n)]).when (!((List.range 16).any fun k => k != n && s.on (R.DMA_CH_STAT_BUSY k)))
      fun s => s.ifEnd 13

/-- R46: EN = 1. -/
def execDmaChannelStart (m : Master) (ch : Fin 16) (cfg : Word) (s : State) : Out :=
  .next (s.write m (R.DMA_CH_CFG_EN ch.val) fun s => s.dmaStart ch.val (setBit cfg.toNat 0))

/-- R46: EN = 0; the channel stops at the boundary it stands at. -/
def execDmaChannelStop (m : Master) (ch : Fin 16) (cfg : Word) (s : State) : Out :=
  .next (s.write m (R.DMA_CH_CFG_EN ch.val) fun s => (s.dmaStop ch.val (clrBit cfg.toNat 0)).dmaSettle)

end Sys2Proof.Machine
end

