-- ==== Sys2Proof/Machine/Faults.lean ====
section
/-!
DEFINITION. Machine/Faults.lean: the commands of the fault block: the injection of R479, the in-flight records of R485 and
the log of R494.
-/
namespace Sys2Proof.Machine

open Sys2Proof

/-- R479: a write to FAULT other than the key write that comes next discards the key sequence. -/
def State.injForget (s : State) : State := s.wr L.INJ_KEYS 0

/-- R479: a write of INJ_KEY. -/
def State.injKey (s : State) (v : Nat) : State :=
  if v = 0x1D3 then s.wr L.INJ_KEYS 1
  else if v = 0x2E4 ∧ s.rd L.INJ_KEYS = 1 then s.wr L.INJ_KEYS 2
  else s.injForget

/-- R479: an operation that detector `i` looks at is already under way. -/
def State.injUnderWay (s : State) (i : Nat) : Bool :=
  match i with
  | 0x24 => s.on R.FLASHC_STAT_BUSY0 || s.on R.FLASHC_STAT_BUSY1 || s.on L.FL_ENG
  | 0x25 => s.domOn 7 && !s.on R.CIPHER_STAT_READY
  | 0x28 => s.on L.FP_LOADING
  | 0x38 => s.on L.PW_STEP
  | _ => false

/-- R479: no injection is armed or in force. -/
def State.injOff (s : State) : State := s.wrs [(L.INJ_ON, 0), (R.FAULT_INJ_MODE_MODE, 0), (R.FAULT_INJ_STAT_ARMED, 0), (L.INJ_SKIP, 0)]

/-- R479: the levels at which arming is allowed. -/
def State.injAllowed (s : State) : Bool :=
  s.rd R.FLASHC_RDP_LEVEL == 0 || (s.rd R.FLASHC_RDP_LEVEL == 1 && s.on R.FAULT_CFG_INJ_L1)

/-- R479: a write of INJ_MODE. -/
def State.injMode (s : State) (v : Nat) : State :=
  let i := s.rd R.FAULT_INJ_SEL_INDEX
  if v = 0 then s.injForget.injOff
  else if s.rd L.INJ_KEYS = 2 ∧ s.injAllowed ∧ detectors.contains i then
    s.injForget.wrs [(L.INJ_ON, v), (L.INJ_I, i), (L.INJ_A, s.rd R.FAULT_INJ_ARG), (R.FAULT_INJ_MODE_MODE, v),
      (R.FAULT_INJ_STAT_ARMED, 1), (L.INJ_SKIP, b2n (decide (v = 2) && s.injUnderWay i))]
  else s.injForget.wr R.FAULT_INJ_STAT_DENIED 1

/-- R479: the two commands. -/
def execInjKey (m : Master) (v : BitVec 12) (s : State) : Out := .next (s.write m R.FAULT_INJ_KEY fun s => s.injKey v.toNat)
def execInjMode (m : Master) (v : BitVec 2) (s : State) : Out := .next (s.write m R.FAULT_INJ_MODE_MODE fun s => s.injMode v.toNat)

/-- R485, R493: a write of 1 to FROZEN returns the whole record to NONE. -/
def State.ifClear (s : State) (n : Nat) : State :=
  if s.on (R.FAULT_INFLIGHT_FROZEN n) then
    s.wrs [(R.FAULT_INFLIGHT_OP n, 0), (R.FAULT_INFLIGHT_STEP n, 0), (R.FAULT_INFLIGHT_CAUSE n, 0), (R.FAULT_INFLIGHT_FROZEN n, 0),
      (R.FAULT_INFLIGHT_PROG n, 0), (R.FAULT_INFLIGHT_DETAIL n, 0), (R.FAULT_INFLIGHT_DETAIL2 n, 0)]
  else s
def execInflightClear (m : Master) (n : Fin 16) (s : State) : Out :=
  .next (s.write m (R.FAULT_INFLIGHT_FROZEN n) fun s => s.injForget.ifClear n)

/-- R493, R494: a write of 1 to LOG.VALID. -/
def State.faultLogClear (s : State) : State :=
  s.wrs [(R.FAULT_LOG_INDEX, 0), (R.FAULT_LOG_REACTION, 0), (R.FAULT_LOG_INJECTED, 0), (R.FAULT_LOG_VALID, 0), (R.FAULT_LOG_DETAIL, 0)]
def execFaultLogClear (m : Master) (s : State) : Out := .next (s.write m R.FAULT_LOG_VALID fun s => s.injForget.faultLogClear)

end Sys2Proof.Machine
end

