-- ==== Sys2Proof/Machine/Plic.lean ====
section
/-!
DEFINITION. Machine/Plic.lean: the platform-level interrupt controller (R34, R436): 96 sources, one context.
-/
namespace Sys2Proof.Machine

open Sys2Proof

namespace L

/-- R34: the priority of source i, the enable bits, the threshold, and the sources claimed and not yet completed. -/
def PL_PRIO (i : Nat) : Fld := latch 44 (100 + i) 3 .w 0
def PL_EN : Fld := latch 44 200 97 .w 0
def PL_THR : Fld := latch 44 201 3 .w 0
def PL_SVC : Fld := latch 44 202 97 .w 0

end L

/-- R436: the level of source i. -/
def State.plSource (s : State) (i : Nat) : Bool :=
  if i = 0 ∨ 96 < i then false
  else if i ≤ 64 then s.evRouted (i - 1)
  else s.domOn 12 && bit (s.rd R.GPIO_IRQ_STAT) (i - 65)

/-- A source is pending while its level holds and it is not being served. -/
def State.plPending (s : State) (i : Nat) : Bool := s.plSource i && !bit (s.rd L.PL_SVC) i

/-- The source a claim gets: pending, enabled, of the highest priority above 0, the lowest number first; 0 none. -/
def State.plBest (s : State) (thr : Nat) : Nat :=
  (List.range 97).foldl (fun b i =>
    if s.plPending i && bit (s.rd L.PL_EN) i && decide (thr < s.rd (L.PL_PRIO i)) && decide ((if b = 0 then 0 else s.rd (L.PL_PRIO b)) < s.rd (L.PL_PRIO i))
    then i else b) 0

/-- R34: MEIP. -/
def State.meip (s : State) : Bool := s.domOn 5 && s.plBest (s.rd L.PL_THR) != 0

/-- A read of a word of the controller's window: its value, and a claim's effect. -/
def State.plRead (s : State) (off : Nat) : Nat × State :=
  if off % 4 = 0 ∧ off / 4 ≤ 96 then (s.rd (L.PL_PRIO (off / 4)), s)
  else if 0x1000 ≤ off ∧ off < 0x1010 then
    ((List.range 32).foldl (fun a j => if s.plPending ((off - 0x1000) / 4 * 32 + j) then a + 2 ^ j else a) 0, s)
  else if 0x2000 ≤ off ∧ off < 0x2010 then (s.rd L.PL_EN / 2 ^ ((off - 0x2000) / 4 * 32) % 2 ^ 32, s)
  else if off = 0x200000 then (s.rd L.PL_THR, s)
  else if off = 0x200004 then
    let b := s.plBest 0
    (b, if b = 0 then s else s.setBitF L.PL_SVC b)
  else (0, s)

/-- A write of a word: priorities, enables, the threshold, and a completion. -/
def State.plWrite (s : State) (off v : Nat) : State :=
  if off % 4 = 0 ∧ 1 ≤ off / 4 ∧ off / 4 ≤ 96 then s.wr (L.PL_PRIO (off / 4)) v
  else if 0x2000 ≤ off ∧ off < 0x2010 then
    let sh := (off - 0x2000) / 4 * 32
    let old := s.rd L.PL_EN
    let all := old - old / 2 ^ sh % 2 ^ 32 * 2 ^ sh + v % 2 ^ 32 * 2 ^ sh
    s.wr L.PL_EN (clrBit all 0)
  else if off = 0x200000 then s.wr L.PL_THR v
  else if off = 0x200004 ∧ v ≤ 96 ∧ bit (s.rd L.PL_EN) v then s.clrBitF L.PL_SVC v
  else s

end Sys2Proof.Machine
end

