-- ==== Sys2Proof/Machine/Cpu.lean ====
section
/-!
DEFINITION. Machine/Cpu.lean: what the spec gives the application core beside its instructions: its control and status registers
(R32, R34, R35), its instruction and data caches (R33), and the debug access port (R36, R346).
-/
namespace Sys2Proof.Machine

open Sys2Proof

/-! ### Control and status registers -/

/-- R32: misa: a 32-bit core with the extensions A, C, F, I, M and U. -/
def misa : Nat := 2 ^ 30 + 2 ^ 20 + 2 ^ 12 + 2 ^ 8 + 2 ^ 5 + 2 ^ 2 + 1

/-- R35: the time and timeh registers: LINK_TIME without its four fraction bits. -/
def State.csrTime (s : State) : Nat := s.lt / 16 % 2 ^ 32
def State.csrTimeh (s : State) : Nat := s.lt / 2 ^ 36

/-- R35: whether the core's mode may read the time registers: the user mode follows bit 1 of mcounteren. -/
def State.timeOk (s : State) : Bool := s.rd L.CPU_PRIV == 3 || bit (s.rd L.MCOUNTEREN) 1

/-- R32, R34, R35: what a control and status register reads; none for one the spec does not name or the mode may not read, which is
an illegal instruction. MTIP always reads 0; MEIP follows the interrupt controller. -/
def State.csrRead (s : State) (n : Nat) : Option Nat :=
  if n = 0xC01 then (if s.timeOk then some s.csrTime else none)
  else if n = 0xC81 then (if s.timeOk then some s.csrTimeh else none)
  else if s.rd L.CPU_PRIV ≠ 3 then none
  else if n = 0x301 then some misa
  else if n = 0x300 then some (s.rd L.CPU_MPP * 2 ^ 11)
  else if n = 0x306 then some (s.rd L.MCOUNTEREN)
  else if n = 0x344 then some (b2n s.meip * 2 ^ 11)
  else if 0x3A0 ≤ n ∧ n ≤ 0x3A3 then some (bits (s.rd L.PMP_CFG) (32 * (n - 0x3A0) + 31) (32 * (n - 0x3A0)))
  else if 0x3B0 ≤ n ∧ n ≤ 0x3BF then some (s.rd (L.PMP_ADDR (n - 0x3B0)))
  else none

/-- R32: a PMP configuration byte as written: reserved bits read 0, write without read is reserved and leaves the old byte, a
locked region keeps its byte. -/
def pmpByte (old new : Nat) : Nat := if bit old 7 || (bit new 1 && !bit new 0) then old else new &&& 0x9F

/-- Whether the address register of region i is locked: by its own region, or by a locked TOR region above it. -/
def State.pmpLocked (s : State) (i : Nat) : Bool :=
  bit (s.pmpCfg i) 7 || (decide (i < 15) && bit (s.pmpCfg (i + 1)) 7 && bits (s.pmpCfg (i + 1)) 4 3 == 1)

/-- R32, R35: a write of a control and status register in machine mode. misa and mip have no bit that a write changes. -/
def State.csrPut (s : State) (n v : Nat) : State :=
  if n = 0x300 then s.wr L.CPU_MPP (if bits v 12 11 = 3 then 3 else 0)
  else if n = 0x306 then s.wr L.MCOUNTEREN v
  else if 0x3A0 ≤ n ∧ n ≤ 0x3A3 then
    s.wr L.PMP_CFG ((List.range 16).foldl (fun a i =>
      a + (if i / 4 = n - 0x3A0 then pmpByte (s.pmpCfg i) (bits v (8 * (i % 4) + 7) (8 * (i % 4))) else s.pmpCfg i) * 256 ^ i) 0)
  else if 0x3B0 ≤ n ∧ n ≤ 0x3BF then (if s.pmpLocked (n - 0x3B0) then s else s.wr (L.PMP_ADDR (n - 0x3B0)) v)
  else s

/-- A CSR write instruction: the mode must be machine and the register one that exists and is not read-only; else the core takes an
illegal-instruction exception, which its requester sees as an error. -/
def State.csrWrite (s : State) (n v : Nat) : State :=
  if (s.csrRead n).isNone || s.rd L.CPU_PRIV != 3 || decide (0xC00 ≤ n) then s.err else (s.csrPut n v).ok

/-- R32: the core takes a trap, and returns from one: the mode is saved in, and restored from, mstatus.MPP. The table has no row
for either; they are the core's own instructions. -/
def State.cpuTrap (s : State) : State := s.wrs [(L.CPU_MPP, s.rd L.CPU_PRIV), (L.CPU_PRIV, 3)]
def State.cpuMret (s : State) : State := s.wrs [(L.CPU_PRIV, s.rd L.CPU_MPP), (L.CPU_MPP, 0)]

/-! ### Debug access port -/

namespace L

/-- R36: the state of the TAP (0 Test-Logic-Reset, 1 Run-Test/Idle, 2 to 8 Select, Capture, Shift, Exit1, Pause, Exit2 and Update of
the data register, 9 to 15 those of the instruction register); the instruction in force and the one being shifted; BYPASS's bit;
the data register being shifted. -/
def TAP_ST : Fld := latch 41 300 4 .c 0
def TAP_IR : Fld := latch 41 301 5 .c 0x1F
def TAP_IRS : Fld := latch 41 302 5 .c 0
def TAP_BYP : Fld := latch 41 303 1 .c 0

end L

/-- What an instruction of the TAP selects. -/
inductive TapReg where
  | dtmcs | dmi | bypass
  deriving DecidableEq, Repr

/-- R36, R346: DTMCS is 0x10, DMI 0x11, every other instruction BYPASS; at level 2 every one is BYPASS. -/
def State.tapReg (s : State) : TapReg :=
  if s.rd R.FLASHC_RDP_LEVEL = 2 then .bypass
  else if s.rd L.TAP_IR = 0x10 then .dtmcs
  else if s.rd L.TAP_IR = 0x11 then .dmi
  else .bypass

/-- R36: the TAP's next state on a rising edge of DBG_TCK, by IEEE 1149.1. -/
def tapNext (st : Nat) (tms : Bool) : Nat :=
  let t := [(1, 0), (1, 2), (3, 9), (4, 5), (4, 5), (6, 8), (6, 7), (4, 8), (1, 2), (10, 0), (11, 12), (11, 12), (13, 15), (13, 14),
    (11, 15), (1, 2)].getD st (1, 0)
  if tms then t.2 else t.1

/-- R36: a rising edge of DBG_TCK: registers are captured, shifted and updated in the state that the edge leaves; the table has no
row for it. The data registers DTMCS and DMI are those of the External Debug Support specification, of which the spec gives no
content; BYPASS is one bit. -/
def State.tapClock (s : State) (tms tdi : Bool) : State :=
  let st := s.rd L.TAP_ST
  let s1 := match st with
    | 3 => s.wr L.TAP_BYP 0
    | 4 => s.wr L.TAP_BYP (b2n tdi)
    | 10 => s.wr L.TAP_IRS 1
    | 11 => s.wr L.TAP_IRS (s.rd L.TAP_IRS / 2 + 16 * b2n tdi)
    | _ => s
  let n := tapNext st tms
  (s1.wr L.TAP_ST n).wrs (if n = 0 then [(L.TAP_IR, 0x1F)] else if n = 15 then [(L.TAP_IR, s1.rd L.TAP_IRS)] else [])

/-- R36: what DBG_TDO shows: the bit about to leave the register being shifted; a free value for a register of the debug transport. -/
def State.tapTdo (s : State) : Bool :=
  if s.rd L.TAP_ST = 11 then bit (s.rd L.TAP_IRS) 0
  else match s.tapReg with
    | .bypass => s.on L.TAP_BYP
    | _ => s.freeVal 1 == 1

/-- R36, R346: the debug transport reaches the debug module while APP is powered; halt requests and abstract commands are taken at
level 0 only. -/
def State.dmReachable (s : State) : Bool := s.domOn 5 && s.rd R.FLASHC_RDP_LEVEL != 2
def State.dmRuns (s : State) : Bool := s.dmReachable && s.islOn 2 && s.rd R.FLASHC_RDP_LEVEL == 0

/-- R36, R346: an abstract command that reads or writes a register of the core: refused where the level withholds it. -/
def State.abstractRead (s : State) (n : Nat) : State := if !s.dmRuns then s.err else match s.csrRead n with | some v => s.answer v | none => s.err
def State.abstractWrite (s : State) (n v : Nat) : State := if !s.dmRuns then s.err else s.csrWrite n v

/-! ### Caches -/

namespace L

/-- R33: set i of the instruction cache: 256 sets of 4 lines of 32 bytes; set i of the data cache: 128 sets of 4. An entry is the
line's number in its low 32 bits and its content above; the oldest stands first. -/
def ICACHE (i : Nat) : Fld := latch 44 (400 + i) 0 .w 0
def DCACHE (i : Nat) : Fld := latch 44 (700 + i) 0 .w 0

end L

/-- A line of a cache set. -/
def cacheFind (l : List Nat) (line : Nat) : Option Nat := (l.find? fun e => e % 2 ^ 32 == line).map (· / 2 ^ 32)

/-- A set with a line filled in; a full set loses the line of a number that the spec leaves open. -/
def cacheFill (l : List Nat) (line content victim : Nat) : List Nat :=
  (if l.length < 4 then l else l.eraseIdx (victim % 4)) ++ [line + content * 2 ^ 32]

/-- The content of the 32 bytes an address lies in, as a number; n bytes of such a number from an address on. -/
def State.lineAt (s : State) (a : Nat) : Nat := s.rdLe (a / 32 * 32) 32
def lineBytes (c a n : Nat) : Nat := c / 256 ^ (a % 32) % 256 ^ n

/-- R33: the instruction cache holds the line an address lies in; the state with that line filled from memory; every line dropped by
fence.i. -/
def State.icHit (s : State) (a : Nat) : Option Nat := cacheFind (s.ff (L.ICACHE (a / 32 % 256))) (a / 32)
def State.icFill (s : State) (a : Nat) : State :=
  (s.setFf (L.ICACHE (a / 32 % 256)) (cacheFill (s.ff (L.ICACHE (a / 32 % 256))) (a / 32) (s.lineAt a) (s.freeVal 2))).freeStep
def State.fenceI (s : State) : State := s.each (List.range 256) fun i s => s.setFf (L.ICACHE i) []

/-- R33: the data cache of application SRAM: the line an address lies in, its filling, a store of the core that writes through it, and
the line dropped by a DMA or debug write. -/
def State.dcHit (s : State) (a : Nat) : Option Nat := cacheFind (s.ff (L.DCACHE (a / 32 % 128))) (a / 32)
def State.dcFill (s : State) (a : Nat) : State :=
  (s.setFf (L.DCACHE (a / 32 % 128)) (cacheFill (s.ff (L.DCACHE (a / 32 % 128))) (a / 32) (s.lineAt a) (s.freeVal 2))).freeStep
def State.dcStore (s : State) (a n v : Nat) : State :=
  s.setFf (L.DCACHE (a / 32 % 128)) ((s.ff (L.DCACHE (a / 32 % 128))).map fun e =>
    if e % 2 ^ 32 = a / 32 then
      let c := e / 2 ^ 32
      e % 2 ^ 32 + (c - lineBytes c a n * 256 ^ (a % 32) + v % 256 ^ n * 256 ^ (a % 32)) * 2 ^ 32
    else e)
def State.dcDrop (s : State) (a : Nat) : State :=
  s.setFf (L.DCACHE (a / 32 % 128)) ((s.ff (L.DCACHE (a / 32 % 128))).filter fun e => e % 2 ^ 32 != a / 32)

/-- R33: what a load of the core from application SRAM returns: the cached line where there is one, else memory, whose line is
filled. -/
def State.dcLoad (s : State) (a n : Nat) : Nat × State :=
  match s.dcHit a with
  | some c => (lineBytes c a n, s)
  | none => (s.rdLe a n, s.dcFill a)

end Sys2Proof.Machine
end

