-- ==== Sys2Proof/Machine/Flash.lean ====
section
/-!
DEFINITION. Machine/Flash.lean: the flash commands, pulses, reads and read-out protection (R329 to R350).
-/
namespace Sys2Proof.Machine

open Sys2Proof

/-- R335: a write of FLASHC.KEY. -/
def execFlashKey (m : Master) (v : BitVec 16) (s : State) : Out :=
  .next (s.write m R.FLASHC_KEY fun s => s.flKey m v.toNat)

/-- The writes that follow the two key writes, each under the access rules of the block. -/
def State.flErasing (s : State) (m : Master) (op : Nat) (a : Word) : State :=
  s.write m R.FLASHC_CMD_OP fun s => (s.flCmd m op).flAddr m a.toNat

/-- R335, R337: CMD, ADDR and DATA_0 to DATA_3 of a PROGRAM; `raw` tells that one or two raw cells of the word are
programmed although it reads as erased. -/
def execProgram (m : Master) (addr d0 d1 d2 d3 : Word) (raw : Bool) (s : State) : Out :=
  .next (s.write m R.FLASHC_CMD_OP fun s =>
    (((((s.flCmd m 1).flAddr m addr.toNat).flData m 0 d0.toNat raw).flData m 1 d1.toNat raw).flData m 2 d2.toNat raw).flData m 3 d3.toNat raw)

def execErasePage (m : Master) (addr : Word) (s : State) : Out := .next (s.flErasing m 2 addr)
def execEraseBlock (m : Master) (addr : Word) (s : State) : Out := .next (s.flErasing m 3 addr)
def execEraseBank (m : Master) (addr : Word) (s : State) : Out := .next (s.flErasing m 4 addr)

/-- R347: CMD and ADDR of a SET_RDP. -/
def execSetRdp (m : Master) (addr : Word) (s : State) : Out := .next (s.flErasing m 7 addr)

/-- R340: CMD of a SUSPEND, and of a RESUME. -/
def execSuspend (m : Master) (s : State) : Out := .next (s.write m R.FLASHC_CMD_OP fun s => s.flCmd m 5)
def execResume (m : Master) (s : State) : Out := .next (s.write m R.FLASHC_CMD_OP fun s => s.flCmd m 6)

/-- R340: the pulse is cut. -/
def execEraseSuspended (s : State) : Out :=
  .next (s.when (s.on L.FL_E_CUT) fun s => (s.flSuspend 0).flResult 1)

/-- R339, R341, R342: a pulse of the program or of the erase in progress ends, with its verify; the FLASH clock runs. -/
def execFlashPulseDone (ok : Bool) (s : State) : Out :=
  if !s.domOn 11 || !s.islOn 9 then .next s
  else if s.on L.FL_P_ON then .next ((if s.on L.FL_P_PAUSE then s else s.flPgmPulse ok).settle)
  else if s.on L.FL_E_OP && !s.on R.FLASHC_STAT_SUSPENDED then
    let s1 := s.flErsPulse ok
    .next ((s1.when (s.on L.FL_E_CUT && !s1.on L.FL_E_OP) fun s => s.flResult 11).settle)
  else .next s

/-- R347: the option row, and for level 2 the OTP bits, are written: the level applies, level 2 with a DBG reset. A dip
holds the change (R341). -/
def execSetRdpDone (s : State) : Out :=
  if s.on L.FL_RDP && !s.on R.SYSCTL_SUPPLY_STAT_WARN then
    let lv := s.rd L.FL_RDP - 1
    let s1 := ((s.wrs [(R.FLASHC_RDP_LEVEL, lv), (L.FL_RDP, 0), (R.FLASHC_STAT_OP, 0), (R.FLASHC_STAT_BUSY0, 0),
      (R.FLASHC_STAT_BUSY1, 0)]).ifEnd 0).flResult 1
    .next ((s1.when (lv == 2) fun s => s.appReset 9).settle)
  else .next s

/-- R324, R348 steps 2 to 7: the root keys revoked, the memories and the IV table zeroed, whereupon PD_PORCH is powered and the writes
of Porch pages 2 to 255 begin; those all done (step 4); both banks erased, level 0 with a SYS reset. -/
def State.lowerStep (s : State) (step : Nat) : State :=
  match step with
  | 2 => s.each (List.range 16) fun k s =>
      if s.rd (L.OTP_STATE k) = 1 ∧ !s.on (L.OTP_REV k) then ((s.revoke k).wr (L.OTP_REV k) 15).clrBitF R.KEYS_REVOKE_PEND k else s
  | 3 =>
    let s1 := (s.wrRun 0x20000000 (List.replicate 0x168000 0)).each (List.range 256) fun k s => s.wr (L.IV k) 0
    (((s1.setDom 2 true).setIsl 8 true).wr L.PL_NEXT 2).porchArb
  | 4 => s
  | 5 => s.flErase (0x08000000, 0x400000)
  | _ => (s.wrs [(R.FLASHC_RDP_LEVEL, 0), (R.FLASHC_RDP_LOWERING, 0), (L.FL_LSTEP, 0)]).wr L.DUE_SYS 1

/-- R348: a step of the lowering sequence completes; interrupted by a reset it starts again with step 2. A dip holds it, and step 4
does not end before the Porch's last page is written. -/
def execRdpLoweringStepDone (s : State) : Out :=
  if s.on R.FLASHC_RDP_LOWERING && !s.on R.SYSCTL_SUPPLY_STAT_WARN && s.rd L.RST_HELD == 0 then
    let step := max 2 (s.rd L.FL_LSTEP + 1)
    if step = 4 ∧ s.rd L.PL_NEXT < 256 then .next s else .next (((s.wr L.FL_LSTEP step).lowerStep step).settle)
  else .next s

/-- R37, R39: whether a flash address may be fetched from. -/
def flFetch (a : Nat) : Bool :=
  decide (a < 0x08010000) || (decide (0x08020000 ≤ a) && decide (a < 0x083E0000))

/-- R330 to R334, R338: what the array answers to a read that has reached it; a fetch that does not fail fills its line (R33). -/
def State.flArray (s : State) (m : Master) (fetch : Bool) (a n wrong : Nat) : State :=
  let stat (s : State) (n st su un : Nat) : State :=
    if m = .app ∧ fetch = false then
      s.wrs [(R.FLASHC_RDSTAT_ERRCNT, n), (R.FLASHC_RDSTAT_STATUS_READ, st), (R.FLASHC_RDSTAT_SUSP_HIT, su), (R.FLASHC_RDSTAT_UNCORR, un)]
    else s
  match s.flStatus a with
  | some w =>
    if fetch then (s.wr R.FLASHC_EVT_FETCH_BUSY 1).err
    else (stat s 0 1 (b2n (w / 0x1000 % 16 == 5)) 0).answer (w / 256 ^ (a % 4) % 256 ^ n)
  | none =>
    let w := a / 16 * 16
    let b := s.flBits w wrong
    let code := if fetch then 3 else match m with | .dma => 1 | .debug => 2 | _ => 0
    let s1 := b.2.2.flEcc code w b.1 b.2.1
    if 2 < b.1 then (stat s1 0 0 0 1).err
    else ((stat s1 b.1 0 0 0).when fetch fun s => s.icFill a).answer (s1.rdLe a n)

/-- R30, R32, R33, R42, R511: a read of the flash array by a master: a data read, or an instruction fetch of the application core,
which a filled line of its cache answers whatever the bank does; `wrong` is how many bits of the word read wrong, 3 for an
uncorrectable one. -/
def execFlashRead (m : Master) (kind : ReadKind) (addr : Word) (size : Size) (wrong : BitVec 2) (s : State) : Out :=
  let a := addr.toNat
  let fetch := kind != .data
  if regionOf a ≠ .flash ∨ (m ≠ .app ∧ m ≠ .dma ∧ m ≠ .debug) ∨ (m = .debug ∧ s.rd R.FLASHC_RDP_LEVEL ≠ 0) ∨
      s.allowed m a (if fetch then .fetch else .load) = false ∨ (fetch = true ∧ (m ≠ .app ∨ !flFetch a)) then .next s.err
  else if a % size.bytes ≠ 0 then .next (s.misalign m false)
  else
    let s0 := s.when (kind == .fenced) State.fenceI
    match s0.icHit a with
    | some c => .next (if fetch then s0.answer (lineBytes c a size.bytes) else (s0.cross m a 11 9 true false fun s => s.flArray m fetch a size.bytes wrong.toNat).settle)
    | none => .next (s0.cross m a 11 9 true false fun s => s.flArray m fetch a size.bytes wrong.toNat).settle

/-- R349: the largest pulse counts cleared. -/
def execPgmPulsesClear (m : Master) (s : State) : Out :=
  .next (s.write m R.FLASHC_PGM_PULSES_CLEAR fun s => (s.flOther).wr R.FLASHC_PGM_PULSES_MAX 0)
def execErsPulsesClear (m : Master) (s : State) : Out :=
  .next (s.write m R.FLASHC_ERS_PULSES_CLEAR fun s => (s.flOther).wr R.FLASHC_ERS_PULSES_MAX 0)

end Sys2Proof.Machine
end

