-- ==== Sys2Proof/Machine/Floor.lean ====
section
/-!
DEFINITION. Machine/Floor.lean: the resets that a pin, a supply or a command causes (R395, R481, R502), and the loads of
the Floor Plan (R55 to R63): one meaning for each of their rows.
-/
namespace Sys2Proof.Machine

open Sys2Proof

/-- R481, R502: VSYS comes on; `test` is TEST_MODE at the release. -/
def execPor (test : Bool) (s : State) : Out := .next ((s.coldReset 0).wrs [(L.TEST_HOLD, b2n test), (L.RST_HELD, clrBit (s.rd L.RST_HELD) 1)])

/-- R395: VSYS falls through the reset level while the Cellar is powered. -/
def execBor (s : State) : Out :=
  if s.domOn 1 && !bit (s.rd L.RST_HELD) 1 then .next ((s.coldReset 1).wr L.RST_HELD (setBit (s.rd L.RST_HELD) 1)) else .next s

/-- R395: VSYS rises above 2.66 V. -/
def execBorRelease (test : Bool) (s : State) : Out :=
  if bit (s.rd L.RST_HELD) 1 then .next ((s.clrBitF L.RST_HELD 1).wr L.TEST_HOLD (b2n test)) else .next s

/-- R481: RESET_N low for 1 µs. -/
def execPinReset (s : State) : Out :=
  if s.domOn 1 && !bit (s.rd L.RST_HELD) 0 then .next ((s.warmReset 2).wr L.RST_HELD (setBit (s.rd L.RST_HELD) 0)) else .next s

/-- R481, R502: RESET_N rises. -/
def execPinResetRelease (test : Bool) (s : State) : Out :=
  if bit (s.rd L.RST_HELD) 0 then .next ((s.clrBitF L.RST_HELD 0).wr L.TEST_HOLD (b2n test)) else .next s

/-- R399: a write of SYSCTL.SYS_RST. -/
def execSysRstKey (m : Master) (key : BitVec 16) (s : State) : Out :=
  .next (s.write m R.SYSCTL_SYS_RST_KEY fun s => if key.toNat = 0xA5C3 then s.warmReset 7 else s)

/-- R346, R481: ndmreset, where the protection level leaves the debug module reachable. -/
def execDbgReset (s : State) : Out :=
  if s.domOn 5 && s.rd R.FLASHC_RDP_LEVEL != 2 then .next ((s.appReset 9).settle) else .next s

/-- R55, R56: the load that a reset started ends; a held reset, a dip or a lowering under way keeps it back. -/
def execFloorLoadDone (errs : List (Nat × Nat)) (s : State) : Out :=
  if s.on L.FP_LOADING && s.rd L.RST_HELD == 0 && s.domOn 1 && !s.on R.FLASHC_RDP_LOWERING && !s.on R.SYSCTL_SUPPLY_STAT_WARN then .next ((s.loadDone errs).settle) else .next s

/-- R62: a write of FLOOR.CMD.RELOAD. -/
def execReload (m : Master) (s : State) : Out := .next (s.write m R.FLOOR_CMD_RELOAD State.reloadGo)

/-- R56, R63: a reload ends, not in a dip. DESIGN CHOICE: it is not the next load of R20 that ends LF_SRC = 1; only a reset load is. -/
def execReloadDone (errs : List (Nat × Nat)) (s : State) : Out :=
  if s.on R.FLOOR_STATUS_RELOAD_BUSY && !s.on R.SYSCTL_SUPPLY_STAT_WARN then .next ((s.reloadDone errs).settle) else .next s

end Sys2Proof.Machine
end

