-- ==== Sys2Proof/Machine/PowerOps.lean ====
section
/-!
DEFINITION. Machine/PowerOps.lean: power commands and their checks (R378 to R380), the entry's commit (R386), wakes
(R391, R392) and dips (R396), as shared operations.
-/
namespace Sys2Proof.Machine

open Sys2Proof

namespace L

/-- R392: a cold start waits for the application core to run. -/
def BOOT_DUE : Fld := latch 41 112 1 .c 0
/-- R397: the lowest sample of the dip in progress plus one, in mV; 0 before the first. -/
def DIP_MIN : Fld := latch 41 113 14 .c 0

end L

/-! ### Commands -/

/-- R380: the checks of a command, in order: 0 where none refuses. -/
def State.pwrRefusal (s : State) (host : Bool) (tgt : Nat) : Nat :=
  if host = s.on R.SYSCTL_PWR_CFG_AUTHORITY then 1
  else if s.on R.SYSCTL_PWR_STAT_ENTERING then 2
  else if 4 < tgt then 3
  else if tgt ≤ 1 ∨ tgt = s.pwr then 0
  else if s.on R.FLASHC_STAT_BUSY0 || s.on R.FLASHC_STAT_BUSY1 || s.on R.FLASHC_STAT_SUSPENDED then 4
  else if s.on R.CIPHER_STAT_CH_RUN then 5
  else if [2, 3, 4].contains (s.rd R.ATTIC_STAT_PHASE) then 6
  else if s.on R.FLASHC_RDP_LOWERING then 7
  else if s.on R.FLOOR_STATUS_RELOAD_BUSY then 9
  else 0

/-- R392: the application core starts in the boot ROM, where it does not resume. -/
def State.bootIfDue (s : State) : State := if s.on L.BOOT_DUE then (s.wr L.BOOT_DUE 0).attBoot else s

/-- R379, R380: a command for a state: its refusal code, 0 for none, and the state after. -/
def State.pwrGo (s : State) (host : Bool) (tgt : Nat) : Nat × State :=
  let r := s.pwrRefusal host tgt
  if r ≠ 0 then (r, s.wrs [(R.SYSCTL_PWR_STAT_REFUSE, r), (R.SYSCTL_EVT_REFUSED, 1)])
  else if tgt = s.pwr then (0, s)
  else if tgt = 0 then (0, (s.wrs [(R.SYSCTL_PWR_STAT_STATE, 0), (L.CORE_STOP, 0)]).bootIfDue)
  else if tgt = 1 then (0, s.wrs [(R.SYSCTL_PWR_STAT_STATE, 1), (L.CORE_STOP, 1)])
  else (0, s.wrs [(R.SYSCTL_PWR_STAT_ENTERING, 1), (L.ENT_TGT, tgt), (L.ENT_PT, 0), (L.ENT_ACK, 0), (L.ENT_ABORT, 0)])

/-! ### The commit of an entry (R386) -/

/-- R153, R384: the context store loses its contents: every context FREE, no IV. -/
def State.ctxLose (s : State) : State :=
  { s.dropMem 0x20160000 0x20168000 with regs := Cells.keep (fun k => !(keyBlk k == 11 && keyKeep k == 2)) s.regs }

/-- R381, R205: PD_LINK is retained in SLEEP while an event with SLEEP_OK = 1 is armed. -/
def State.keepLink (s : State) (tgt : Nat) : Bool := tgt == 2 && s.armed.any fun e => e.sleepOk

/-- The domains a state unpowers without retention lose what they hold. -/
def State.unpower (s : State) (d : Nat) : State := (s.resetDomain d).setDom d false

/-- R205, R381: PD_LINK goes to its SLEEP column: retained, or unpowered. -/
def State.linkDown (s : State) (keep : Bool) : State :=
  (if keep then s.setDom 6 false else s.unpower 6).setIsl 3 false

/-- R381, R386, R485: the domains of a state's column: jobs aborted, records frozen, buffers reclaimed, what is not
retained lost, the clocks stopped, LINK_TIME carried. -/
def State.entryDown (s : State) (tgt : Nat) : State :=
  let s1 := s.cancelWhere fun e => tgt != 2 || !e.sleepOk
  let keep := s1.keepLink tgt
  let s2 := ((s1.each (List.range 5) fun q s => s.jobReset 15 q).freezes 15 [12, 14, 15]).ifEnd 13 |>.ifEnd 1
  let s3 := if keep then (s2.startReclaim [7] 3 15).startReclaim [6] 2 15 else s2
  let s4 := s3.each [5, 7, 8, 9, 10, 11, 12] fun d s => s.unpower d
  let s5 := s4.linkDown keep
  let s6 := if tgt = 2 ∧ s5.on R.SYSCTL_PWR_CFG_PORCH_SLEEP then s5 else if s5.domOn 2 then s5.porchHostOff else s5
  let s7 := s6.each (List.range 16) fun k s => s.when (tgt == 4 || !bit (s.rd R.SYSCTL_RET_CFG_SRAM) k) fun s => s.loseMem k
  let s8 := ((s7.when (tgt == 4 || (tgt == 3 && !s7.on R.SYSCTL_RET_CFG_CTX)) State.ctxLose).setDom 3 false).setDom 4 false
  (s8.ltToCarry).each [2, 4, 5, 6, 7, 9, 10] fun i s => s.setIsl i false

/-- R386 commit, R389: entry is complete; a latched source, or a WAKE input active as a level, wakes at once. -/
def State.entryCommit (s : State) : State :=
  let tgt := s.rd L.ENT_TGT
  let s1 := (s.entryDown tgt).wrs [(R.HALL_CLK_STAT_HFXO_OK, 0), (R.HALL_CLK_STAT_PLL_LOCK, 0), (R.HALL_CLK_STAT_NFC_SYN_LOCK, 0),
    (L.PLL_WAIT, 0), (R.SYSCTL_PWR_STAT_STATE, tgt), (R.SYSCTL_PWR_STAT_ENTERING, 0), (R.SYSCTL_PWR_STAT_PENDING, 0),
    (R.SYSCTL_EVT_ENTERED, 1), (L.ENT_PT, 0), (L.ENT_ACK, 0), (L.ENT_ABORT, 0), (L.ENT_HOLD, 0), (L.ENT_RET, 0), (L.ENT_CLK, 0),
    (L.CORE_STOP, 0), (L.BOOT_DUE, 0)]
  let s2 := s1.when (tgt == 4) fun s => (s.setDom 1 false).setIsl 0 false
  let mode := s2.rd R.SYSCTL_WAKE_CFG_WAKE_MODE
  if s2.on L.WAKE_LATCHED then s2.wrs [(L.WAKE_LATCHED, 0), (L.WAKING, 1)]
  else if (mode = 2 ∧ s2.on L.WAKE_PIN) ∨ (mode = 3 ∧ !s2.on L.WAKE_PIN) then s2.wakeFire 0
  else s2

/-- R386: whether the next point of the entry is reached: A0; A1 once acknowledged, or in WFI under AUTHORITY 1, with
the reader out of BUSY; A2; A3 once no event occupies a radio and no frame is on its way; A4; A5. -/
def State.entryReady (s : State) (wfi : Bool) : Bool :=
  match s.rd L.ENT_PT with
  | 1 => (s.on L.ENT_ACK || (wfi && s.on R.SYSCTL_PWR_CFG_AUTHORITY)) && s.rd R.NFCR_STAT_STATE != 4
  | 3 => s.running.isEmpty && [Radio.cirrus, Radio.stratus].all fun r => s.rd (L.RX_ST r) == 0 && !(s.rst r == 6 || s.rst r == 7)
  | _ => true

/-- R386: what reaching the next point does. -/
def State.entryPoint (s : State) : State :=
  let p := s.rd L.ENT_PT
  let s1 := s.wr L.ENT_PT (p + 1)
  match p with
  | 0 =>
    let s2 := s1.wr L.ENT_HOLD 1
    if s2.on R.SYSCTL_PWR_CFG_AUTHORITY then s2 else (s2.wr R.SYSCTL_PWR_STAT_PENDING 1).pwrFinal 0 0
  | 1 => s1.wr R.SYSCTL_PWR_STAT_PENDING 0
  | 2 => (((s1.setIsl 2 false).setIsl 9 false).setIsl 10 false).wr L.ENT_CLK 1
  | 3 =>
    let fe := s.rst .cirrus + 16 * s.rst .stratus
    (s1.wr L.ENT_FE fe).each [Radio.cirrus, Radio.stratus] fun r s => if s.rst r = 8 then s else s.radioRest r 0
  | 4 => s1.wr L.ENT_RET 1
  | _ => s1

/-! ### Wakes -/

/-- R391: MEIP wakes IDLE under AUTHORITY 1. -/
def State.meipWakes (s : State) : Bool := s.pwr == 1 && s.on R.SYSCTL_PWR_CFG_AUTHORITY && s.meip

/-- R392: whether the boot ROM jumps to RESUME_ADDR: in APP IMAGE or in a retained SRAM block. -/
def State.resumes (s : State) : Bool :=
  let a := s.rd R.SYSCTL_RESUME_ADDR
  a != 0 && ((decide (0x08020000 ≤ a) && decide (a < 0x08200000)) ||
    (decide (0x20000000 ≤ a) && decide (a < 0x20100000) && bit (s.rd R.SYSCTL_RET_CFG_SRAM) ((a - 0x20000000) / 0x10000)))

/-- R383, R392, R394: a wake is complete: the domains of RUN and IDLE powered, the state its target. -/
def State.wakeEnd (s : State) : State :=
  let from_ := s.pwr
  let run := s.on R.SYSCTL_PWR_CFG_AUTHORITY
  let s1 := s.wrs [(R.SYSCTL_PWR_STAT_LAST_STATE, from_), (R.SYSCTL_PWR_STAT_STATE, b2n !run), (R.SYSCTL_EVT_WOKEN, 1), (L.WAKING, 0),
    (R.SYSCTL_PWR_STAT_LISTEN, 0), (R.WDA_STAT_COUNT, 0), (L.CORE_STOP, b2n !run)]
  let s2 := s1.when (!run) fun s => s.wr L.HP_IRQ 1
  if from_ = 1 then s2
  else
    let s3 := (s2.wrs [(R.HALL_CLK_STAT_PLL_SRC, b2n !s.on R.HALL_CLK_STAT_HFXO_OK), (R.HALL_CLK_STAT_PLL_LOCK, 1), (L.PLL_WAIT, 0)]).powerUp
    let s4 := (s3.hostReady).wr L.BOOT_DUE (b2n !s.resumes)
    (if run then s4.bootIfDue else s4).porchArb

/-! ### Dips (R86, R303, R341, R396, R397) -/

/-- R396, R468: a dip starts; with the ADC absent LOW_BATTERY holds while it lasts. -/
def State.dipStart (s : State) : State :=
  let s1 := s.wrs [(R.SYSCTL_SUPPLY_STAT_WARN, 1), (L.DIP_MIN, 0)]
  let s2 := (s1.when (s1.domOn 8) fun s => s.radioDip .cirrus).when (s1.domOn 9) fun s => s.radioDip .stratus
  ((s2.flDip).when (s2.domOn 10) State.nfDip).when (!s2.present 38) fun s => s.wr R.ATTIC_STAT_LOWBAT 1

def State.dipEnd (s : State) (us : Nat) : State :=
  let m := s.rd L.DIP_MIN
  let s1 := (s.wrs [(R.SYSCTL_SUPPLY_STAT_WARN, 0), (R.SYSCTL_EVT_RECOVERED, 1), (R.SYSCTL_DIP_LOG_MIN_MV, m - 1), (R.SYSCTL_DIP_LOG_UNSAMPLED, b2n (m == 0)),
    (R.SYSCTL_DIP_LOG_VALID, 1), (R.SYSCTL_DIP_DUR, min us (2 ^ 32 - 1))]).sat R.SYSCTL_DIP_CNT 1
  let s2 := s1.each [Radio.cirrus, Radio.stratus] fun r s => s.wr (R.FE_STAT_TX_INHIBIT r) 0
  let s3 := s2.when (!s2.present 38) fun s => s.wr R.ATTIC_STAT_LOWBAT 0
  (((s3.flRecover).when (s3.domOn 10) State.nfRefield).pwTry).porchArb

/-! ### MODE (R400) -/

/-- R400: the writes of MODE that take effect; NORMAL clears the timers' test bits (R428). -/
def State.modeWrite (s : State) (v : Nat) (rom : Bool) : State :=
  let startup := s.rd R.SYSCTL_MODE_MODE = 1
  if v = 0 ∧ startup then (s.wr R.SYSCTL_MODE_MODE 0).timNormal
  else if v = 2 ∧ startup ∧ s.rd R.FLASHC_RDP_LEVEL = 0 then s.wr R.SYSCTL_MODE_MODE 2
  else if v = 3 ∧ rom then s.wr R.SYSCTL_MODE_MODE 3
  else s

end Sys2Proof.Machine
end

