-- ==== Sys2Proof/Machine/HostPort.lean ====
section
/-!
DEFINITION. Machine/HostPort.lean: the Olilux host protocol (R442 to R452): one meaning for each of its rows. A command's
header row opens it; the row of its opcode carries the oldest open command of that opcode out.
-/
namespace Sys2Proof.Machine

open Sys2Proof

/-! ### Frames (R444 to R447) -/

/-- R272, R444: the FCS16 and C32 check values of a frame. -/
def hostFcs (l : List Byte) : Nat := l.foldl (crcByte 0x8408) 0
def hostC32 (l : List Byte) : Nat := crc32c l

/-- R445: a header is discarded. -/
def State.hostBadHdr (s : State) : State := (s.sat R.HOSTP_CNT_HDR_ERR 1).wr R.HOSTP_EVT_HDR_ERR 1

/-- The opcodes of R448. -/
def hostOps : List Nat := [1, 2, 3, 4, 5, 6, 7, 8]

/-- R30, R255, R445, R446, R451: a command whose header is accepted: its credit taken, its payload put into a HOST chain, and what
ends it at once. DESIGN CHOICE: a payload whose crossing to the packet buffers is refused ends with ST_BUSY; a hint is posted as the
payload comes. -/
def State.hostAccept (s : State) (seq op : Nat) (payload : List Byte) (pcrcOk : Bool) : State :=
  if s.rd R.PBM_CREDITS_HOST = 0 then
    (s.sat R.HOSTP_CNT_NO_CREDIT 1).hostSend ⟨2, seq, op, 4, true, 0, 0, []⟩
  else
    let s1 := s.creditTake
    let n := if payload.isEmpty then 0 else bufsFor payload.length
    let bufs := s1.freeBufs n false
    let ends (s : State) (c : HostCmd) (status : Nat) : State := { s.hostEnd c status 0 [] with hcmd := s.hcmd }
    let off := s1.unitOff .host (bufAddr (bufs.headD 0)) true
    if n ≠ 0 ∧ (s1.overShare ownHost n ∨ bufs.length < n ∨ off.isSome) then ends (off.getD s1) ⟨seq, op, true, 0, payload.length, false⟩ 1
    else
      let s2 := if n = 0 then s1 else ((((s1.postHints 1).portBeats 1 ((payload.length + 15) / 16)).zeroNow bufs).takeBufs ownHost bufs).fillBufs
        ownHost bufs payload
      let c : HostCmd := ⟨seq, op, true, if n = 0 then 0 else bufs.headD 0 + 1, payload.length, false⟩
      if !pcrcOk then ends s2 c 5
      else if op ≠ 1 ∧ [2, 3, 4].contains (s2.rd R.ATTIC_STAT_PHASE) then ends s2 c 1
      else if !hostOps.contains op then ends s2 c 2
      else ({ s2 with hcmd := s2.hcmd ++ [c] } : State).when (op != 1 && s2.on R.SYSCTL_PWR_STAT_ENTERING && decide (s2.rd L.ENT_PT < 6))
        fun s => s.wr L.ENT_ABORT 1

/-- R445: a frame from the host: its header's octets as numbers, its payload and both check values. -/
def execHostCmdHeader (typ seq op : BitVec 8) (len hcrc : BitVec 16) (payload : List (BitVec 8)) (pcrc : Word) (s : State) : Out :=
  if !s.online 33 || s.on (L.VIO_LOW 0) then .next s
  else
    let h : List Byte := [0x7E#8, typ, seq, op] ++ leBytes 2 len.toNat
    if hostFcs h ≠ hcrc.toNat ∨ typ.toNat ≠ 1 ∨ 1024 < len.toNat then .next s.hostBadHdr
    else
      let p := fit 0#8 len.toNat payload
      .next ((s.hostAccept seq.toNat op.toNat p (p.isEmpty || hostC32 p == pcrc.toNat)).settle)

/-- R445: a partial frame and 1 ms of silence. -/
def execHostFrameTimeout (s : State) : Out := if s.online 33 then .next s.hostBadHdr else .next s

/-- R447: 500 µs after its last octet a command has not ended: a non-final ST_OK. -/
def execHostInterimStatus (s : State) : Out :=
  match s.hcmd.find? fun c => !c.interim with
  | none => .next s
  | some c =>
    if !s.online 33 then .next s
    else
      let s1 := { s with hcmd := s.hcmd.replace c { c with interim := true } }
      .next (s1.hostSend ⟨2, c.seq, c.op, 0, false, 0, 0, []⟩)

/-! ### Opcodes (R448) -/

/-- The payload octets of a command. -/
def State.hostPayload (s : State) (c : HostCmd) : List Byte :=
  if c.head = 0 then [] else (s.chainBytes (s.chain 2048 (c.head - 1))).take c.len

/-- R258: the data path reaches a command's payload: its chain lies in buffers that HOST owns, and LINK is powered. -/
def State.hostHolds (s : State) (c : HostCmd) : Bool :=
  c.head == 0 || ((s.unitOff .host (bufAddr (c.head - 1)) false).isNone && s.chainEnds 2048 (c.head - 1) &&
    (s.chain 2048 (c.head - 1)).all fun b => s.owner b == ownHost)

/-- R30, R447: a command whose payload is out of reach ends with ST_FAULT. -/
def State.hostUnread (s : State) (c : HostCmd) : State := ((s.unitOff .host (bufAddr (c.head - 1)) false).getD s).hostEnd c 5 0 []

/-- The oldest open command of an opcode carried out, with its payload, after `skip` that wait for their end. -/
def State.hostRun (s : State) (op skip : Nat) (eff : HostCmd → List Byte → State → State) : Out :=
  match (s.hcmd.filter fun c => c.op == op).drop skip with
  | [] => .next s
  | c :: _ =>
    if !s.online 33 then .next s
    else if [2, 7, 8].contains op && !s.hostHolds c then .next ((s.hostUnread c).settle)
    else .next ((eff c (s.hostPayload c) s).settle)

/-- R448: STATUS: six words. -/
def execStatus (s : State) : Out :=
  s.hostRun 1 0 fun c _ s => s.hostEnd c 0 0 (leBytes 4 (s.tabRead R.rowsSYSCTL 0x14) ++ leBytes 4 (s.tabRead R.rowsSYSCTL 0x30) ++
    leBytes 4 (s.tabRead R.rowsSYSCTL 0x38) ++ leBytes 4 (s.tabRead R.rowsFLOOR 0x8) ++ leBytes 4 (s.tabRead R.rowsFLOOR 0xC) ++
    leBytes 4 (s.tabRead R.rowsATTIC 0x4))

/-- R448: the entry in progress is one that a SET_POWER commanded, which A0 has still to end. -/
def State.setPowerWaits (s : State) : Bool :=
  s.on R.SYSCTL_PWR_STAT_ENTERING && s.rd R.SYSCTL_PWR_CFG_AUTHORITY == 0 && s.rd L.ENT_PT == 0

/-- R379, R380, R448: SET_POWER: RUN, IDLE and the present state end at once; an entry ends the command at A0. -/
def execSetPower (s : State) : Out :=
  s.hostRun 2 (b2n s.setPowerWaits) fun c p s =>
    if p.length ≠ 1 then s.hostEnd c 2 0 []
    else
      let r := s.pwrGo true (ofLe p)
      if r.1 ≠ 0 then r.2.hostEnd c 2 r.1 []
      else if r.2.on R.SYSCTL_PWR_STAT_ENTERING then r.2
      else r.2.hostEnd c 0 0 []

/-- R392, R448: GET_WAKE: the WAKE_STAT word and LAST_STATE; HP_IRQ_N is released. -/
def execGetWake (s : State) : Out :=
  s.hostRun 3 0 fun c _ s => (s.wr L.HP_IRQ 0).hostEnd c 0 0 (leBytes 4 (s.tabRead R.rowsSYSCTL 0x30) ++ leBytes 4 (s.rd R.SYSCTL_PWR_STAT_LAST_STATE))

/-- R62, R448: FLOOR_RELOAD: refused at once, or ended by the reload's own end. -/
def execFloorReload (s : State) : Out :=
  s.hostRun 4 0 fun c _ s =>
    if s.on R.FLOOR_STATUS_RELOAD_BUSY then s
    else
      let s1 := s.reloadGo
      if s1.on R.FLOOR_STATUS_RELOAD_BUSY then s1 else s1.hostEnd c 2 (s1.rd R.FLOOR_RELOAD_STAT_REASON) []

/-- R448: SET_BAUD: in UART mode and within range. -/
def execSetBaud (s : State) : Out :=
  s.hostRun 7 0 fun c p s =>
    if s.rd R.HOSTP_CFG_HP_MODE ≠ 1 ∨ p.length ≠ 2 ∨ ofLe p < 24 then s.hostEnd c 2 0 []
    else (s.hostEnd c 0 0 []).wr R.HOSTP_UART_DIV (ofLe p)

/-- R448: SYS_RESET with 0xA5C3: ST_OK goes out, then the SYS reset. -/
def execSysReset (s : State) : Out :=
  s.hostRun 8 0 fun c p s => if p.length = 2 ∧ ofLe p = 0xA5C3 then (s.hostEnd c 0 0 []).warmReset 7 else s.hostEnd c 2 0 []

/-! ### Messages (R449) -/

/-- The APP_MSG commands firmware has been given, oldest first. -/
def State.openMsgs (s : State) : List HostCmd := (s.hcmd.filter fun c => c.op == 5).take (s.rd L.H_NMSG)

/-- R452: MSG and MSG_LEN show the oldest open one. -/
def State.showMsg (s : State) : State :=
  match s.openMsgs with
  | c :: _ => s.wrs [(R.HOSTP_MSG_HEAD, c.head - 1), (R.HOSTP_MSG_SEQ, c.seq), (R.HOSTP_MSG_LEN, c.len)]
  | [] => s

/-- R449: APP_MSG: the chain goes to APP, where the state, the share and the four places allow it. -/
def execAppMsg (s : State) : Out :=
  match (s.hcmd.filter fun c => c.op == 5).drop (s.rd L.H_NMSG) with
  | [] => .next s
  | c :: _ =>
    if !s.online 33 then .next s
    else if s.pwr ≠ 0 then .next (s.hostEnd c 2 1 [])
    else if c.head = 0 then .next (s.hostEnd c 2 0 [])
    else
      let w := s.checkWalk ownHost 2048 (c.head - 1)
      if (s.unitOff .host (bufAddr (c.head - 1)) true).isSome then
        .next ((((s.unitOff .host (bufAddr (c.head - 1)) true).getD s).hostEnd c 1 0 []).settle)
      else if w.1 ≠ 1 ∨ s.overShare ownApp w.2.length ∨ 4 ≤ s.rd L.H_NMSG then .next (s.hostEnd c 1 0 [])
      else .next (((((s.handBufs w.2 ownHost ownApp).inc L.H_NMSG 1).wr R.HOSTP_EVT_MSG 1).showMsg).settle)

/-- R30, R449: a chain of APP moved to HOST for a frame of n octets: its octets (none where the move is refused) and the state after.
The buffers return to FREE once the frame has been taken. -/
def State.appChain (s : State) (head n : Nat) : Option (List Byte) × State :=
  if n = 0 then (some [], s)
  else
    let w := s.checkWalk ownApp 2048 head
    match s.unitOff .host (bufAddr head) false with
    | some t => (none, t)
    | none =>
      if w.1 ≠ 1 ∨ s.overShare ownHost w.2.length then (none, s)
      else (some ((s.chainBytes w.2).take n), ((s.portBeats 1 ((n + 15) / 16)).handBufs w.2 ownApp ownHost).handBufs w.2 ownHost ownFree)

/-- R449: a write of RSP_GO answers the oldest open APP_MSG; an answer to one that has timed out is discarded. -/
def execRspGo (m : Master) (s : State) : Out :=
  .next ((s.write m R.HOSTP_RSP_GO fun s =>
    if s.on L.H_DISC then s.wr L.H_DISC (s.rd L.H_DISC - 1)
    else
      match s.openMsgs with
      | [] => s
      | c :: _ =>
        let s0 := s.wr L.H_NMSG (s.rd L.H_NMSG - 1)
        match s0.appChain (s0.rd R.HOSTP_RSP_DATA_HEAD) (s0.rd R.HOSTP_RSP_DATA_LEN) with
        | (some d, t) => (t.hostFinal c (s.rd R.HOSTP_RSP_STATUS) (s.rd R.HOSTP_RSP_DETAIL) d).showMsg
        | (none, t) => (t.hostFinal c 5 (s.rd R.HOSTP_RSP_DETAIL) []).showMsg).settle)

/-- R449: APP_TMO ms without RSP_GO. -/
def execAppTmoExpire (s : State) : Out :=
  match s.openMsgs with
  | [] => .next s
  | c :: _ =>
    if !s.online 33 then .next s
    else .next (((s.wrs [(L.H_NMSG, s.rd L.H_NMSG - 1), (L.H_DISC, s.rd L.H_DISC + 1), (R.HOSTP_EVT_TMO, 1)]).hostFinal c 5 0 []).showMsg)

/-- R449: a write of POST_GO queues an event of firmware. -/
def execPostGo (m : Master) (s : State) : Out :=
  .next ((s.write m R.HOSTP_POST_GO fun s =>
    match s.appChain (s.rd R.HOSTP_POST_DATA_HEAD) (s.rd R.HOSTP_POST_DATA_LEN) with
    | (some d, t) => t.hostEvent (s.rd R.HOSTP_POST_TYPE) 0 d
    | (none, t) => t).settle)

/-! ### CIPHER_JOB (R450) -/

/-- R450: the descriptor of a payload with its offsets turned into addresses of the chain's buffers, its output at `out`, a
computed tag after the output, LAST set. -/
def hostDsc (d : List Byte) (bufs outs : List Nat) (len : Nat) : List Byte :=
  let place (l : List Nat) (lim o : Nat) : Nat := if o < lim then bufAddr (l.getD (o / 128) 0) + o % 128 else 0
  let m := dscMode d
  let verify := modeDec m || ((m == 2 || m == 3) && dscVerify d)
  let tag := if verify then place bufs len (dscWord d 0x18) else place outs (dscDataLen d + dscTagLen d) (if modeOut m then dscDataLen d else 0)
  leBytes 4 (setBit (dscWord d 0) 31) ++ (d.drop 4).take 8 ++ leBytes 4 (place bufs len (dscWord d 0x0C)) ++
    leBytes 4 (place bufs len (dscWord d 0x10)) ++ leBytes 4 (bufAddr (outs.headD 0)) ++ leBytes 4 tag ++ leBytes 4 0 ++ d.drop 0x20

/-- R450: CIPHER_JOB: one job on channel 1, its output in HOST. -/
def State.hostJob (s : State) (c : HostCmd) (p : List Byte) : State :=
  let d := p.take 96
  let m := dscMode d
  let verify := modeDec m || ((m == 2 || m == 3) && dscVerify d)
  let n := (if modeOut m then dscDataLen d else 0) + (if modeTag m && !verify then dscTagLen d else 0)
  if !s.online 13 ∨ s.chRun 1 then s.hostEnd c 1 0 []
  else if p.length < 96 then s.hostEnd c 2 3 []
  else if dscKsrc d ≠ 1 then s.hostEnd c 2 6 []
  else if 0x40000 < n then s.hostEnd c 2 4 []
  else
    let k := bufsFor n
    let outs := s.freeBufs k false
    if s.overShare ownHost k ∨ outs.length < k then s.hostEnd c 1 0 []
    else
      let bufs := s.chain 2048 (c.head - 1)
      let s1 := ((((s.postHints 1).portBeats 1 6).zeroNow outs).takeBufs ownHost outs).wrBs (bufAddr (c.head - 1)) (hostDsc d bufs outs p.length)
      (s1.wrs [(L.H_OUT, outs.headD 0 + 1), (L.H_OUTN, n), (R.CIPHER_Q_CUR 1, bufAddr (c.head - 1))]).jobBegin 1

def execCipherJob (s : State) : Out :=
  match s.hcmd.find? fun c => c.op == 6 && !(s.on L.H_OUT && s.rd (R.CIPHER_Q_CUR 1) == bufAddr (c.head - 1)) with
  | none => .next s
  | some c =>
    if !s.online 33 then .next s
    else if !s.hostHolds c then .next ((s.hostUnread c).settle)
    else .next ((s.hostJob c (s.hostPayload c)).settle)

end Sys2Proof.Machine
end

