-- ==== Sys2Proof/Machine/Mac.lean ====
section
/-!
DEFINITION. Machine/Mac.lean: arming and running radio events (R183 to R188), encryption for transmission
(R152), fleet time (R203) and the duty windows (R208, R209): one meaning for each of their rows.
-/
namespace Sys2Proof.Machine

open Sys2Proof

/-! ### Arming -/

/-- R184, R204: whether an event kind is listed and serves a context type. -/
def kindOk (kind typ : Nat) : Bool :=
  match kind with
  | 1 => decide (1 ≤ typ) && decide (typ ≤ 5)
  | 2 => typ == 3 || typ == 4 || typ == 5
  | 3 | 4 => typ == 3 || typ == 5
  | 5 => typ == 2
  | 6 | 7 => typ == 1
  | 8 => typ == 4
  | 9 => typ == 3 || typ == 4
  | _ => false

/-- R189: the acknowledgement gap of a context type. -/
def State.gapUs (s : State) (typ : Nat) : Nat :=
  if typ = 3 ∨ typ = 4 then s.rd R.MAC_GAP2_MESH_US else if typ = 5 then s.rd R.MAC_GAP_OQPSK_US else s.rd R.MAC_GAP_LE_US

/-- The event that the ARM registers describe, for a context, with its guard and front-end start time
(R183, R186, R204, R214). -/
def State.armEvent (s : State) (k freq : Nat) : Armed :=
  let kind := bits (s.rd R.MAC_ARM_0) 11 8
  let typ := s.ctxType k
  let r : Radio := if typeRadio typ = 1 then .stratus else .cirrus
  let start := s.rd R.MAC_ARM_1 + 2 ^ 32 * s.rd R.MAC_ARM_2
  let periph := kind = 5 ∧ !s.ctxFlag k 2
  let g := if kind = 1 ∨ kind = 9 ∨ periph then s.guardUs k start (s.rd R.MAC_ARM_3 % 65536) else 0
  { handle := 0, ctx := k, kind := kind, sleepOk := bit (s.rd R.MAC_ARM_0) 13, cls := bits (s.rd R.MAC_ARM_0) 18 16,
    chan := bits (s.rd R.MAC_ARM_0) 31 24, freqKhz := freq, start := start, guard := g,
    txLen := bits (s.rd R.MAC_ARM_3) 26 16, buf := s.rd R.MAC_ARM_4 % 2048, maxDur := s.rd R.MAC_ARM_4 / 65536,
    fest := if kind = 4 then start - (20 + s.rd (R.MDM_CCA_LEN r)) * 256 else start - g * 256,
    gap := s.gapUs typ, tol := s.rd R.MAC_GAP2_ACK_TOL,
    exp := if 5 ≤ kind ∧ kind ≤ 7 then 0 else if r = .stratus then s.rd R.MAC_ACK_CFG_EXP_LEN_S else s.rd R.MAC_ACK_CFG_EXP_LEN_C,
    slot := s.rd R.MAC_MESH_CFG_SLOT_US, pre := s.rd R.MAC_MESH_CFG2_PRE_LEN }

/-- R185: the result of ARM_GO, with the event armed where it is OK. R175: with no active bank no event can be armed. DESIGN CHOICE:
ARM_GO then changes nothing, since R185 names no result for it. -/
def State.armGo (s : State) : State :=
  let refuse (n : Nat) : State := (s.wr R.MAC_ARM_RES_RESULT n).wr R.MAC_EVT_ARM_REFUSED 1
  let k := s.rd R.MAC_ARM_0 % 256
  if s.rd R.LINK_MC_STAT_ACTIVE = 0 then s
  else if !s.ctxLive k then refuse 4
  else if !kindOk (bits (s.rd R.MAC_ARM_0) 11 8) (s.ctxType k) then refuse 5
  else
    match s.chanKhz k (bits (s.rd R.MAC_ARM_0) 31 24) with
    | none => refuse 6
    | some f =>
      let e := s.armEvent k f
      let r : Radio := if typeRadio (s.ctxType k) = 1 then .stratus else .cirrus
      let used (p : Nat) : Bool := (s.armed ++ s.running).any fun x => x.handle == 8 * r.idx + p
      match firstBelow (fun p => !used p) 8 with
      | none => refuse 2
      | some p =>
        if e.fest < s.lt + s.leadUs r (txKind e.kind) * 256 then refuse 3
        else ({ s with armed := s.armed ++ [{ e with handle := 8 * r.idx + p }] }).wrs
          [(R.MAC_ARM_RES_RESULT, 1), (R.MAC_ARM_RES_HANDLE, 8 * r.idx + p)]

/-- R183, R185: ARM_GO of the link cores. -/
def execArmGo (m : Master) (s : State) : Out :=
  .next (s.write m R.MAC_ARM_GO fun s => if m = .link then s.armGo else s)

/-- R186: CANCEL with GO of the link cores. -/
def execCancel (m : Master) (h : BitVec 4) (s : State) : Out :=
  .next ((s.write m R.MAC_CANCEL_GO fun s =>
    if m ≠ .link then s
    else
      match s.armed.find? fun e => e.handle == h.toNat with
      | some e => s.cancelEv e
      | none =>
        match s.running.find? fun e => e.handle == h.toNat with
        | some e => s.cancelRunning e
        | none => s).settle)

/-! ### Running -/

/-- R66, R126: the RF channel of an LE channel index, and the index of an RF channel, by the Core Specification's mapping. -/
def leRf (c : Nat) : Nat := if c = 37 then 0 else if c = 38 then 12 else if c = 39 then 39 else if c ≤ 10 then c + 1 else c + 2
def leIndex (k : Nat) : Nat := if k = 0 then 37 else if k = 12 then 38 else if k = 39 then 39 else if k ≤ 11 then k - 1 else k - 2

/-- R66, R126, R211: the frequency of an LE channel index, kHz. -/
def leKhz (c : Nat) : Nat := 2402000 + 2000 * leRf c

/-- R66, R112, R154, R187: the registers of the radio that the engine loads for an event, and LAST_CHAN. PRESUMED: CHAN is R66's
RF channel, the channels of CHMAP are the Core Specification's indices, and LAST_CHAN is in the event's own numbering. -/
def State.loadRadio (s : State) (e : Armed) : State :=
  let r := e.radio
  let typ := s.ctxType e.ctx
  let s1 := s.wrs [(R.FE_CHAN_FREQ_KHZ r, if r = .cirrus then e.freqKhz - 2400000 else e.freqKhz),
    (R.FE_PA_DBM r, s.ctxRd e.ctx 0x37 1), (R.MDM_MODE_PHY r, s.ctxRd e.ctx 3 1)] |>.ctxWr e.ctx 0x68 1 e.chan
  if typ = 1 ∨ typ = 2 then
    s1.wrs [(R.MDM_SYNC_AA r, s.ctxRd e.ctx 0x0C 4), (R.MDM_CRC_INIT r, s.ctxRd e.ctx 0x34 3), (R.MDM_WHITE_CHAN r, if e.kind = 5 ∨ e.kind = 6 then e.chan else leIndex e.chan)]
  else s1

/-- R186, R192, R491: an event's front-end start time: it runs, or is dropped where its radio is occupied. -/
def State.evStart (s : State) (h : BitVec 4) (kinds : List Nat) (run : Armed → State → State) : State :=
  match s.armed.find? fun e => e.handle == h.toNat && kinds.contains e.kind with
  | none => s
  | some e =>
    let r := e.radio
    let go (s : State) : State :=
      let s1 := { s with armed := s.armed.filter fun x => x.handle != e.handle, running := s.running ++ [e] }
      run e (s1.loadRadio e)
    if s.rst r = 8 then (if txKind e.kind then s.finish e 8 else s.missedEv e)
    else if s.on (R.FE_CTRL_DIRECT r) || s.on (L.ACK_BUF r) then s.dropEv e
    else
      match s.runOn r with
      | none => go s
      | some x =>
        if (x.kind = 1 ∨ x.kind = 9) ∧ !s.on (L.RX_ST r) then go (((s.missedEv x).wr (L.RA_EV r) 0).radioClose r)
        else s.dropEv e

/-- R208: the airtime of an expected acknowledgement of n octets, its FCS included. -/
def State.ackAir (s : State) (radio phy n : Nat) : Nat :=
  if radio = 1 then airUs 1 (sunSymbol phy * sunSymbols phy (s.rd (R.MDM_SUN_PRE_LEN .stratus)) n (s.on (R.MDM_SUN_FEC_TX .stratus)))
  else airUs 0 (s.onAir 0 phy (n - 2))

/-- R152: the limit of a context type's transmit counter. -/
def ctrLimit (typ : Nat) : Nat := if typ = 2 then 2 ^ 39 - 1 else 2 ^ 32 - 1

/-- R207, R208: band, reservation and admission of a transmission; none where it is refused, with its result. -/
def State.admitEvent (s : State) (e : Armed) : State × Option Armed :=
  let rad := e.radio.idx
  let phy := s.ctxRd e.ctx 3 1
  let air := airUs rad (s.onAir rad phy e.txLen)
  let rsv := air + if e.kind = 3 ∨ e.kind = 4 then s.ackAir rad phy e.exp else 0
  match s.dutyBand e.ctx e.freqKhz with
  | none => if rad = 1 then (s.finish e 4, none) else (s, some { e with air := air })
  | some n =>
    let a := s.dutyAdmit n rsv false
    if a.1 then (a.2, some { e with band := n + 1, rsv := rsv, air := air }) else (a.2.finish e 3, none)

/-- R83, R207: MAX_DBM of an event's band. -/
def State.bandMax (s : State) (e : Armed) : Nat :=
  if e.band = 0 then 127 else s.rd (R.MAC_DUTY_BAND_HI_MAX_DBM (e.band - 1))

/-- R152, R198, R207, R208: what a transmission must pass before the front end is commanded. -/
def State.txChecks (s : State) (e : Armed) : State × Option Armed :=
  let sec := (s.ctxFlag e.ctx 1 || e.kind == 8) && !(s.ctxType e.ctx == 2 && decide (e.txLen ≤ 2))
  if ctrLimit (s.ctxType e.ctx) ≤ s.ctxRd e.ctx 0x38 5 then ((s.wr R.MAC_EVT_TX_CTR_LIMIT 1).finish e 9, none)
  else if sec && !s.on (L.ENC e.buf) then (s.finish e 8, none)
  else s.admitEvent e

/-- R184: the front end is commanded to transmit an event's frame at START. -/
def State.txGo (s : State) (e : Armed) : State :=
  let c := s.txChecks e
  match c.2 with
  | none => c.1
  | some e1 =>
    let e2 := { e1 with phase := 1 }
    ((c.1.setRun e2).txFrame e.radio e.buf e.txLen).radioCmd e.radio 3 e.start e.cls (c.1.bandMax e2) (e.handle + 1)

/-- R204: an RX_WINDOW is opened around START. -/
def execRxWindow (h : BitVec 4) (s : State) : Out :=
  .next ((s.evStart h [1] fun e s => (s.setRun { e with phase := 3 }).radioCmd e.radio 2 e.fest e.cls 127 (e.handle + 1)).settle)

/-- R184: TX. -/
def execMacTx (h : BitVec 4) (s : State) : Out := .next ((s.evStart h [2] fun e s => s.txGo e).settle)

/-- R184: TX_ACK. -/
def execMacTxAck (h : BitVec 4) (s : State) : Out := .next ((s.evStart h [3] fun e s => s.txGo e).settle)

/-- R134, R184: CCA_TX_ACK: the receiver opens for the clear-channel check. -/
def execCcaTxAck (h : BitVec 4) (s : State) : Out :=
  .next ((s.evStart h [4] fun e s =>
    let c := s.txChecks e
    match c.2 with
    | none => c.1
    | some e1 =>
      let s1 := (c.1.setRun { e1 with phase := 4 }).radioCmd e.radio 2 e.fest e.cls 127 (e.handle + 1)
      if s1.running.any fun x => x.handle == e.handle then s1.wrs [(L.CCA_ON e.radio, 1), (L.CCA_PD e.radio, 0)] else s1).settle)

/-! ### LE events -/

/-- Channels 0 to 36 of a map. -/
def usedChans (map : Nat) : List Nat := (List.range 37).filter fun c => bit map c

/-- Bits of each of the two octets of a 16-bit number in reverse order. -/
def permByte (v : Nat) : Nat := (List.range 8).foldl (fun a i => a + (if bit v i then 2 ^ (7 - i) else 0)) 0
def csaPerm (v : Nat) : Nat := permByte (v / 256) * 256 + permByte (v % 256)
def csaMam (a b : Nat) : Nat := (17 * a + b) % 65536

/-- R211: channel selection algorithm 2 for an event counter and an access address. -/
def csa2 (ctr aa : Nat) (map : Nat) : Nat :=
  let id := (aa / 65536) ^^^ (aa % 65536)
  let u1 := csaMam (csaPerm (ctr ^^^ id)) id
  let u2 := csaMam (csaPerm u1) id
  let u3 := csaMam (csaPerm u2) id
  let prn := u3 ^^^ id
  let c := prn % 37
  let l := usedChans map
  if bit map c then c else l.getD (l.length * prn / 65536) 0

/-- R211: the channel of the next connection event of context k, and the state after its choice. -/
def State.leChan (s : State) (k : Nat) : Nat × State :=
  let map := s.ctxRd k 0x60 5
  let ctr := s.ctxRd k 0x66 2
  let s1 := s.ctxWr k 0x66 2 (ctr + 1)
  if s.ctxFlag k 4 then
    let c := csa2 ctr (s.ctxRd k 0x0C 4) map
    (c, s1)
  else
    let u := (s.rd (L.LE_UNMAPPED k) + s.ctxRd k 0x65 1) % 37
    let l := usedChans map
    let c := if bit map u then u else l.getD (u % max 1 l.length) 0
    (c, s1.wr (L.LE_UNMAPPED k) u)

/-- R211, R212: a connection event: the central transmits at START, the peripheral opens its window. -/
def execLeConnEvent (h : BitVec 4) (s : State) : Out :=
  .next ((s.evStart h [5] fun e s =>
    let c := s.leChan e.ctx
    let e1 := { e with chan := c.1, freqKhz := leKhz c.1 }
    let s1 := (c.2.setRun e1).loadRadio e1
    if s1.ctxFlag e.ctx 2 then s1.txGo e1
    else (s1.setRun { e1 with phase := 3 }).radioCmd e.radio 2 e.fest e.cls 127 (e.handle + 1)).settle)

/-- R211: an advertising event's frame on its next channel after `from_`, or its end. -/
def State.advNext (s : State) (e : Armed) (from_ : Nat) : State :=
  match (List.range 40).find? fun c => decide (37 ≤ c) && decide (from_ ≤ c) && bit (s.ctxRd e.ctx 0x60 5) c with
  | none => s.finish e 0
  | some c =>
    let e1 := { e with chan := c, freqKhz := leKhz c, start := max e.start s.lt }
    ((s.setRun e1).loadRadio e1).txGo e1

/-- R211: advDelay, a free value from 0 to 10 ms. -/
def State.advDelay (s : State) : Nat := s.freeVal 22 % 2560001

/-- R211: an advertising event on the channels of CHMAP, advDelay after START. -/
def execLeAdvEvent (h : BitVec 4) (s : State) : Out :=
  .next ((s.evStart h [6] fun e s => s.freeStep.advNext { e with start := e.start + s.advDelay } 37).settle)

/-- R204, R211: LE_SCAN opens at START. -/
def execLeScan (h : BitVec 4) (s : State) : Out :=
  .next ((s.evStart h [7] fun e s => (s.setRun { e with phase := 3 }).radioCmd e.radio 2 e.start e.cls 127 (e.handle + 1)).settle)

/-! ### Beacons and windows -/

/-- R200: BEACON_TX. -/
def execBeaconTx (h : BitVec 4) (s : State) : Out := .next ((s.evStart h [8] fun e s => s.txGo e).settle)

/-- R201, R204: BEACON_RX opens a guarded window. -/
def execBeaconRx (h : BitVec 4) (s : State) : Out :=
  .next ((s.evStart h [9] fun e s => (s.setRun { e with phase := 3 }).radioCmd e.radio 2 e.fest e.cls 127 (e.handle + 1)).settle)

/-- R193, R211: no preamble by the close of the wait for an answer. -/
def execAckWaitTimeout (r : Radio) (s : State) : Out :=
  match s.runOn r with
  | none => .next s
  | some e =>
    if e.phase ≠ 2 ∨ s.on (L.RX_ST r) then .next s
    else if s.on (R.MDM_STAT_IN_FRAME r) then .next (if e.kind = 6 ∨ e.kind = 7 then s else s.radioClose r)
    else
      let s1 := (s.wr (L.RA_EV r) 0).radioClose r
      match e.kind with
      | 6 => .next ((s1.advNext e (e.chan + 1)).settle)
      | 5 => .next ((if e.anch ∨ e.fails ≠ 0 then s1.endEv e else s1.missedEv e).settle)
      | 7 => .next (((s1.setRun { e with phase := 3 }).radioCmd r 2 s1.lt e.cls 127 (e.handle + 1)).settle)
      | _ => .next ((s1.finish e 1).settle)

/-- R117, R204: the close of a receive window; a frame detected by then is waited for. -/
def execRxWindowClose (r : Radio) (s : State) : Out :=
  match s.runOn r with
  | none => .next s
  | some e =>
    if e.phase ≠ 3 then .next s
    else if s.on (L.RX_ST r) || s.on (R.MDM_STAT_IN_FRAME r) then
      let s1 := s.when (e.kind == 7) fun s => s.setRun { e with exp := 1 }
      .next (if s.on (R.MDM_STAT_IN_FRAME r) then s1.radioClose r else s1)
    else .next ((((if e.kind = 7 then s.endEv e else s.missedEv e).wr (L.RA_EV r) 0).radioClose r).settle)

/-- R204, R211: MAXDUR_US after its start an LE event is closed; a frame under way is the last one. -/
def execMaxdurUsExpire (r : Radio) (s : State) : Out :=
  match s.runOn r with
  | none => .next s
  | some e =>
    if !(decide (5 ≤ e.kind) && decide (e.kind ≤ 7)) then .next s
    else if e.phase = 1 then .next (s.setRun { e with exp := 1 })
    else if s.on (L.RX_ST r) || s.on (R.MDM_STAT_IN_FRAME r) then .next ((s.setRun { e with exp := 1 }).radioClose r)
    else .next ((((s.leClose e).wr (L.RA_EV r) 0).radioClose r).settle)

/-! ### Encryption for transmission -/

/-- R222, R224: the nonce of a frame that this device sends from context k, and one it receives. -/
def leNonce (ctr : Nat) (dir : Bool) (iv : Nat) : List Byte := leBytes 5 (ctr % 2 ^ 39 + if dir then 2 ^ 39 else 0) ++ leBytes 8 iv
def mhrNonce (ext ctr level : Nat) : List Byte := beBytes 8 ext ++ beBytes 4 ctr ++ [BitVec.ofNat 8 level]
def State.ownExt (s : State) : Nat := s.rd R.CIPHER_OWN_EXT_LO + 2 ^ 32 * s.rd R.CIPHER_OWN_EXT_HI

/-- R224: the octets of the MIC of a security level. -/
def micLen (level : Nat) : Nat := [0, 4, 8, 16].getD (level % 4) 0

/-- CCM protection of a frame: the octets sent for its open part, its payload and its additional data. -/
def ccmSeal (key nonce aad hdr body : List Byte) (enc : Bool) (tag : Nat) : List Byte :=
  if enc then hdr ++ ccmCrypt key nonce body ++ ccmTag key nonce aad body tag
  else hdr ++ body ++ ccmTag key nonce (aad ++ body) [] tag

/-- R222: the additional data of an LE PDU: its first octet with NESN, SN and MD 0. -/
def leAad (hdr : List Byte) : List Byte := [(hdr.headD 0) &&& 0xE3#8]

/-- Octets put over a list from a place on. -/
def overwrite (l : List Byte) (off : Nat) (w : List Byte) : List Byte := l.take off ++ w ++ l.drop (off + w.length)

/-- R152, R200, R222, R224: the frame of an event encrypted with counter c: the first `hdrLen` octets are open;
an IEEE 802.15.4 frame carries the counter at `ctrOff`. -/
def State.txCipher (s : State) (e : Armed) (c hdrLen ctrOff : Nat) : State :=
  let l := s.chain 2048 e.buf
  let raw := (s.chainBytes l).take e.txLen
  let key := s.linkKey e.ctx
  let out :=
    if s.ctxType e.ctx = 2 then
      let hdr := raw.take 2
      ccmSeal key (leNonce c (s.ctxFlag e.ctx 2) (s.rd (L.IV e.ctx))) (leAad hdr) hdr ((raw.drop 2).take (e.txLen - 6)) true 4
    else
      let lv := s.ctxRd e.ctx 0x31 1 % 8
      let lv := if e.kind = 8 then 2 else if lv = 4 then 5 else lv
      let hdr := overwrite (raw.take hdrLen) ctrOff (leBytes 4 c)
      let body := (raw.drop hdrLen).take (e.txLen - hdrLen - micLen lv)
      let body := if e.kind = 8 then overwrite (overwrite body 4 (leBytes 5 (s.evAsn e))) 9 (leBytes 8 (s.fleet e.start)) else body
      ccmSeal key (mhrNonce s.ownExt c lv) hdr hdr body (decide (4 ≤ lv)) (micLen lv)
  (s.fillBufs (ownTx e.radio) l out).wr (L.ENC e.buf) (c + 1)

/-- R152, R196, R198, R220: a secured frame is encrypted before its start time with the next counter;
`d1` and `d2` tell whether the lane's copies differ at the first and at the repeated encryption. While the key store loads it waits
(R225). -/
def execTxEncrypt (h : BitVec 4) (hdrLen ctrOff : Nat) (d1 d2 : Bool) (s : State) : Out :=
  match (s.armed ++ s.running).find? fun e => e.handle == h.toNat && (txKind e.kind || e.kind == 5) with
  | none => .next s
  | some e =>
    let k := e.ctx
    let typ := s.ctxType k
    let ctr := s.ctxRd k 0x38 5
    let slot := s.evAsn e % 2 ^ 32
    if !(s.ctxFlag k 1 || e.kind == 8) || s.on (L.ENC e.buf) || s.on L.LANE_RST || !s.online 13 || !s.on R.CIPHER_STAT_READY then .next s
    else if ctrLimit typ ≤ ctr then .next (((s.wr R.MAC_EVT_TX_CTR_LIMIT 1).finish e 9).settle)
    else if typ = 4 ∧ slot < ctr then .next ((s.finish e 9).settle)
    else if !s.linkKeyOk k then .next ((s.keyRefused.finish e 8).settle)
    else
      let c := if typ = 4 then slot else ctr
      let s1 := s.ctxWr k 0x38 5 (c + 1)
      let o := s1.laneOp 1 k d1
      let o2 := if o.1 then o.2.laneOp 1 k d2 else (false, o.2)
      if o.1 && o2.1 then .next ((o2.2.finish e 8).settle)
      else .next (((o2.2.txCipher e c hdrLen ctrOff).ctxInflight k 2 1 0 c).settle)

/-! ### Fleet time and duty windows -/

/-- R203: FT_OFS_HI of the link cores commits both halves. -/
def execFtOfsHiWrite (m : Master) (v : Word) (s : State) : Out :=
  .next (s.write m R.MAC_FT_OFS_HI fun s =>
    if m = .link then s.wrs [(R.MAC_FT_OFS_LO, s.rd L.FT_LO), (R.MAC_FT_OFS_HI, v.toNat)] else s)

/-- R208: WINDOW_S / 64 has passed for a band. -/
def execDutyBucketRoll (n : Fin 8) (s : State) : Out := .next (s.dutyRoll n.val)

/-- R209: one full window after a band's restart. -/
def execDutyWindowFull (n : Fin 8) (s : State) : Out :=
  .next (if s.dutyFull n.val then s.wr (R.MAC_DUTY_WINDOW_FULL n.val) 1 else s)

end Sys2Proof.Machine
end

