-- ==== Sys2Proof/Machine/Radio.lean ====
section
/-!
DEFINITION. Machine/Radio.lean: the front ends' commands and events (R71 to R98): one meaning for each of their
rows.
-/
namespace Sys2Proof.Machine

open Sys2Proof

/-! ### Commands -/

/-- R80: a command of a radio, by its source: CMD.OP in direct mode, or the frame sequencer outside it. A command of CMD.OP starts R74's
time after its acceptance. DESIGN CHOICE: it names no event class (7, of no priority) and no duty band (127 dBm). -/
def State.radioDo (s : State) (src : RadioSrc) (r : Radio) (op : Nat) : State :=
  match src with
  | .bus m => s.write m (R.FE_CMD_OP r) fun s =>
      if !s.on (R.FE_CTRL_DIRECT r) then s
      else
        let t := s.radioCmd r op (s.lt + s.leadUs r (op == 3) * 256) 7 127 0
        t.when (t.on (L.P_OP r) && 1 ≤ op && op ≤ 3) fun t => t.wr (L.P_DIRECT r) (if op = 2 ∧ (s.rst r = 6 ∨ s.rst r = 7) then 2 else 1)
  | .seq start cls maxDbm =>
      if s.on (R.FE_CTRL_DIRECT r) || !s.online (feBlk r) then s else s.radioCmd r op start.toNat cls.toNat maxDbm.toNat 0

/-- R80: NOP takes no action. -/
def execRadioNop (src : RadioSrc) (r : Radio) (s : State) : Out := .next (s.radioDo src r 0)

/-- R74, R80: go to IDLE. -/
def execRadioIdle (src : RadioSrc) (r : Radio) (s : State) : Out := .next ((s.radioDo src r 1).settle)

/-- R74, R80: settle for a reception. -/
def execRadioRx (src : RadioSrc) (r : Radio) (s : State) : Out := .next ((s.radioDo src r 2).settle)

/-- R74, R80, R86: settle for a transmission. -/
def execRadioTx (src : RadioSrc) (r : Radio) (s : State) : Out := .next ((s.radioDo src r 3).settle)

/-- R71: calibrate, in IDLE only. -/
def execRadioCal (src : RadioSrc) (r : Radio) (s : State) : Out := .next (s.radioDo src r 4)

/-- R78: ABORT. -/
def execRadioAbort (src : RadioSrc) (r : Radio) (s : State) : Out := .next ((s.radioDo src r 5).settle)

/-- R78: OFF. -/
def execRadioOff (src : RadioSrc) (r : Radio) (s : State) : Out := .next ((s.radioDo src r 6).settle)

/-! ### Transitions -/

/-- R151: the window of an event opens: an LE context's key is asked for. -/
def State.askAtOpen (s : State) (r : Radio) : State :=
  if s.on (L.RX_ST r) then s
  else
    let s1 := s.wrs [(L.RX_KEYST r, 0), (L.RX_KEY r, 0)]
    match s.running.find? fun e => e.handle + 1 == s.rd (L.RA_EV r) with
    | some e => s1.when (s.leCtx e.ctx && s.ctxFlag e.ctx 1) fun s => s.askKey r e.ctx
    | none => s1

/-- R76, R77, R82, R119: the reception window opens, late or in time; one that reopens is never late. -/
def State.openRx (s : State) (r : Radio) (late : Bool) : State :=
  let idx := if s.ap r (R.MDM_AGC_FORCE r) = 1 then s.ap r (R.MDM_AGC_FORCE_IDX r) else s.ap r (R.MDM_AGC_START r)
  let s1 := s.wrs [(R.FE_STAT_STATE r, 4), (L.RA_TGT r, 0), (L.RA_REOPEN r, 0), (L.RA_DUE r, 0), (R.MDM_STAT_AGC_IDX r, idx)]
  (if late then s1.wrs [(R.FE_STAT_LATE r, 1), (R.FE_STAT_LAST_RESULT r, 2)]
   else s1.when (!s.on (L.RA_REOPEN r) || s.rd (R.FE_STAT_LAST_RESULT r) == 2) fun s => s.wr (R.FE_STAT_LAST_RESULT r) 1).askAtOpen r |>.takePending r

/-- R74, R16: whether a radio in OFF may leave it: the HFXO runs, and for Cirrus the PLL is locked. -/
def State.mayLeaveOff (s : State) (r : Radio) : Bool :=
  s.on R.HALL_CLK_STAT_HFXO_OK && (r == .stratus || s.on R.HALL_CLK_STAT_PLL_LOCK)

/-- R74, R82, R89: the radio has reached IDLE, with a result to record where there is one. -/
def State.nowIdle (s : State) (r : Radio) (res : Option Nat) : State :=
  let s1 := (s.radioRest r 1).when (s.rst r == 0) fun s => s.bandPin r
  match res with | some x => s1.wr (R.FE_STAT_LAST_RESULT r) x | none => s1

/-- R71, R74, R77, R79: a transition's time is over. From OFF the radio passes through IDLE, with the automatic
calibration at the first entry. -/
def execRadioTransitionDone (r : Radio) (s : State) : Out :=
  let tgt := s.rd (L.RA_TGT r)
  let st := s.rst r
  if tgt = 0 then .next (if s.on (L.RA_WAIT r) then s.wr (R.FE_STAT_SYN_LOCK r) 1 else s)
  else if st = 2 ∨ st = 8 then .next s
  else if st = 0 then
    if !s.mayLeaveOff r then .next s
    else
      let cal := s.calDue r
      let s1 := s.wr (L.RA_SEEN r) 1
      if cal then .next ((s1.wrs [(R.FE_STAT_STATE r, 2), (L.RFCAL, 0)]).bandPin r)
      else if tgt = 1 then .next (((s1.nowIdle r (if s1.on (L.RA_DUE r) then none else some 1)).takePending r).settle)
      else .next ((s1.wr (R.FE_STAT_STATE r) (if tgt = 2 then 3 else 5)).bandPin r)
  else if tgt = 1 then .next ((((s.leaveRx r).nowIdle r (some 1)).takePending r).settle)
  else
    let s1 := s.wrs [(R.FE_STAT_SYN_LOCK r, 1), (L.RA_RDY r, 1)]
    if tgt = 2 ∧ (s1.on (L.RA_REOPEN r) ∨ s1.on (L.RA_DUE r)) then .next ((s1.openRx r (s1.on (L.RA_DUE r))).settle)
    else .next s1

/-- R71: one coefficient pair after a calibration: the pair of higher rejection is kept. DESIGN CHOICE: of two equal ones the old pair,
with its SRC. -/
def State.calPair (s : State) (gain phase src irr : Fld) (x : IqMeas) : State :=
  if x.before.toNat < x.after.toNat then
    s.wrs [(gain, x.gain.toNat), (phase, x.phase.toNat), (src, 3), (irr, x.after.toNat)]
  else s.wr irr x.before.toNat

/-- R71: the calibration ends, with what its synthesiser and its measurements gave. -/
def execCalDone (r : Radio) (lock : Bool) (a b : IqMeas) (s : State) : Out :=
  if s.rst r ≠ 2 then .next s
  else
    let s1 :=
      if !lock then s.wr (R.FE_CAL_STAT_RESULT r) 3
      else
        let s1 := s.calPair (R.FE_IQ_A_GAIN r) (R.FE_IQ_A_PHASE r) (R.FE_IQ_A_SRC r) (R.FE_CAL_STAT_IRR_A r) a
        let s2 := if r = .cirrus then s1.calPair (R.FE_IQ_B_GAIN r) (R.FE_IQ_B_PHASE r) (R.FE_IQ_B_SRC r) (R.FE_CAL_STAT_IRR_B r) b else s1
        let ok := 50 ≤ s2.rd (R.FE_CAL_STAT_IRR_A r) ∧ (r = .stratus ∨ 50 ≤ s2.rd (R.FE_CAL_STAT_IRR_B r))
        s2.wr (R.FE_CAL_STAT_RESULT r) (if ok then 1 else 2)
    let s2 := s1.wr L.RFCAL 1
    match s2.rd (L.RA_TGT r) with
    | 2 => .next ((s2.wr (R.FE_STAT_STATE r) 3).bandPin r)
    | 3 => .next ((s2.wr (R.FE_STAT_STATE r) 5).bandPin r)
    | _ => .next (((s2.nowIdle r (if s2.on (L.RA_DUE r) then none else some (if lock then 1 else 12))).takePending r).settle)

/-! ### Start times and ends -/

/-- R76, R77: an RX command's start time. -/
def execRxStartTime (r : Radio) (s : State) : Out :=
  if s.rd (L.RA_TGT r) = 2 ∧ !s.on (L.RA_REOPEN r) then
    if s.coexOn r && s.ap r R.FEMCTL_COEX_CFG_RX_NEEDS_GNT == 1 && !s.on (L.CX_OK r) then .next s
    else if s.on (L.RA_RDY r) then .next ((s.openRx r false).settle)
    else .next (s.wr (L.RA_DUE r) 1)
  else if s.rd (L.P_OP r) = 2 ∧ !s.on (L.P_DIRECT r) then .next (s.wr (L.P_DUE r) 1)
  else .next s

/-- R137: a test pattern runs until ABORT or OFF. -/
def State.testPattern (s : State) (r : Radio) : Bool := s.on (R.FE_CTRL_DIRECT r) && s.ap r (R.MDM_MODE_TEST r) != 0

/-- R137: the octets a direct-mode transmission takes from TXFIFO as far as it holds them. -/
def State.txTake (s : State) (r : Radio) : State :=
  let q := s.ff (L.TXQ r)
  let n := min q.length (s.rd (L.TX_LEFT r))
  ((s.setFf (L.TXQ r) (q.drop n)).setFf (L.TX_OCT r) (s.ff (L.TX_OCT r) ++ q.take n)).wrs [(L.TX_LEFT r, s.rd (L.TX_LEFT r) - n), (R.MDM_FIFO_STAT_TX_LEVEL r, q.length - n)]

/-- R111, R212: the octets that the engine hands to the modem: those of the frame's buffers; of an LE connection's PDU, with NESN and
SN as they stand, and an empty PDU where nothing is sent. -/
def State.engineOctets (s : State) (r : Radio) : List Byte :=
  let n := s.rd (L.TX_N r)
  let l := (s.chainBytes (s.chain 2048 (s.rd (L.TX_BUF r)))).take n
  match s.running.find? fun e => e.handle + 1 == s.rd (L.RA_EV r) with
  | some e =>
    if e.kind = 5 then
      let seq := s.rd (L.LE_SEQ e.ctx)
      let raw := if n ≤ 2 then [0x01#8, 0x00#8] else l
      ((raw.headD 0) &&& 0xF3#8 ||| BitVec.ofNat 8 (4 * (seq % 2) + 8 * (seq / 2 % 2))) :: raw.tail
    else l
  | none => l

/-- R111, R137: the octets of a transmission that starts: the engine's, or those of TXFIFO; a test pattern takes none. -/
def State.txOctets (s : State) (r : Radio) : State :=
  let s0 := ((s.setFf (L.TX_OCT r) []).setFf (L.AIR r) []).wr (L.TX_LEFT r) 0
  if s.testPattern r then
    let p := s.testSymbols r
    (s0.setFf (L.AIR r) (p.1.map b2n)).setFf (L.TX_PAT r) (p.2.map b2n)
  else if s.on (R.FE_CTRL_DIRECT r) then ((s0.setFf (L.TX_PAT r) []).wr (L.TX_LEFT r) (s.rd (R.MDM_FIFO_CFG_DLEN r))).txTake r
  else (s0.setFf (L.TX_PAT r) []).setFf (L.TX_OCT r) ((s.engineOctets r).map BitVec.toNat)

/-- R75, R77, R83, R85, R86: a TX command's start time: the first preamble bit leaves, or the transmission is
not started. -/
def execTxStartTime (r : Radio) (s : State) : Out :=
  if s.rd (L.RA_TGT r) = 3 then
    if s.on (R.FE_STAT_TX_INHIBIT r) then .next (((s.txUnstarted r true).radioOut r 7 0 |>.takePending r).settle)
    else if !s.on (L.RA_RDY r) then .next (((s.txUnstarted r false).radioOut r 3 0 |>.takePending r).settle)
    else if s.coexOn r && !s.on (L.CX_OK r) then .next s
    else if s.txPower r < paBottom r then .next ((((s.txPinsOff r).txEndState r).radioOut r 8 0 |>.takePending r).settle)
    else
      let s1 := (s.wrS (R.FE_PA_APPLIED r) (s.txPower r)).wrs [(R.FE_STAT_STATE r, 6), (L.RA_TGT r, 0), (L.RA_CUT r, 0), (L.RA_OFF r, 0), (L.RA_IDLE r, 0)]
      let s2 := s1.txOctets r
      match s2.running.find? fun e => e.handle + 1 == s2.rd (L.RA_EV r) with
      | some e => .next (s2.ctxInflight e.ctx 2 2 0 (s2.txCtr e))
      | none => .next s2
  else if s.rd (L.P_OP r) = 3 ∧ !s.on (L.P_DIRECT r) then .next (s.wr (L.P_DUE r) 1)
  else .next s

/-- R75, R111: the last bit ends and the ramp-down starts; the frame has been on air. -/
def execTxLastBit (r : Radio) (s : State) : Out :=
  if s.rst r = 6 ∧ !s.testPattern r ∧ (!s.on (R.FE_CTRL_DIRECT r) ∨ s.rd (L.TX_LEFT r) = 0) then
    let l := (s.ff (L.TX_OCT r)).map (BitVec.ofNat 8)
    .next ((s.wr (R.FE_STAT_STATE r) 7).setFf (L.AIR r) ((s.airSync r ++ s.airBody r l).map b2n))
  else .next s

/-- R79, R206: the ramp-down ends; `cutUs` is the airtime of a truncated transmission. -/
def execRampDownEnd (r : Radio) (cutUs : Nat) (s : State) : Out :=
  if s.rst r ≠ 7 then .next s
  else
    let cut := s.rd (L.RA_CUT r)
    let off := s.on (L.RA_OFF r)
    let s1 := if off then s.radioRest r 0 else if cut = 0 ∧ !s.on (L.RA_IDLE r) then s.txEndState r else s.radioRest r 1
    .next (((s1.radioOut r (if cut = 0 then 1 else cut) cutUs).takePending r).settle)

/-- R79: 1000 µs without a TX command. -/
def execTxSettleTimeout (r : Radio) (s : State) : Out := .next (if s.on (L.RA_WAIT r) then s.radioRest r 1 else s)

/-- R8, R80: a write of CTRL: DIRECT is taken as 1 only while no event is armed for the radio. -/
def execDirectWrite (m : Master) (r : Radio) (val : Word) (s : State) : Out :=
  .next (s.write m (R.FE_CTRL_DIRECT r) fun s =>
    let busy := (s.armed ++ s.running).any fun e => e.radio == r
    let s1 := if s.on (R.FE_CTRL_LOCK r) then s
      else s.wrs [(R.FE_CTRL_DIRECT r, b2n (bit val.toNat 0 && !busy)), (R.FE_CTRL_CAL_AUTO r, bits val.toNat 1 1)]
    s1.when (bit val.toNat 31) fun s => s.wr (R.FE_CTRL_LOCK r) 1)

/-- R81: the synthesiser fails to lock, or loses lock. -/
def execSynthUnlock (r : Radio) (s : State) : Out :=
  match s.rst r with
  | 3 => .next ((((s.radioRest r 1).radioOut r 12 0).takePending r).settle)
  | 5 => .next (((((s.txPinsOff r).radioRest r 1).radioOut r 12 0).takePending r).settle)
  | 4 => .next (((((s.mdmTruncate r).radioRest r 1).radioOut r 12 0).takePending r).settle)
  | 6 => .next (s.radioCut r 12 false)
  | _ => .next s

/-! ### Front-end module pins -/

/-- R89 to R91: a lead or lag time elapses; `short` tells that the command came later than the lead needs. -/
def execFemPinLead (r : Radio) (edge : PinEdge) (short : Bool) (s : State) : Out :=
  let st := s.rst r
  let rise :=
    match edge with
    | .rxEn => st == 3
    | .paEn => st == 5 && r == .stratus && s.rd (L.RA_TGT r) == 3
    | .txEn => (st == 5 && s.rd (L.RA_TGT r) == 3) || st == 6
    | .lag => false
  let s1 := s.when (rise && short) fun s => (s.wr R.FEMCTL_EVT_LEAD_SHORT 1).sat R.FEMCTL_CNT_LEAD_SHORT 1
  match edge with
  | .rxEn =>
    if !rise then .next s
    else
      .next (((s1.txPinsOff r).pin (pinRx r) true).rxPins r)
  | .paEn => .next (if rise then (s1.rxPinsOff r).pin 3 true else s)
  | .txEn =>
    if !rise then .next s
    else .next (((s1.rxPinsOff r).pin (pinTx r) true).when (r == .stratus) fun s => s.pin 3 true)
  | .lag => .next (if st = 6 ∨ st = 7 then s else s.txPinsOff r)

/-! ### Coexistence -/

/-- R93: the radio's request is asserted for the command in force. -/
def execCoexReqAssert (r : Radio) (s : State) : Out :=
  let tgt := s.rd (L.RA_TGT r)
  if s.coexOn r && (tgt == 2 || tgt == 3) && !s.on (L.RA_REOPEN r) then
    .next (s.coexAssert r (s.rd (L.RA_CLS r)) (tgt == 3))
  else .next s

/-- R93: HOLD has passed since the instant from which it runs. -/
def execCoexReqRelease (r : Radio) (s : State) : Out := .next (if s.on (L.CX_END r) then s.coexRelease r else s)

/-- R98: the logical grant of a level at COEX_GNT. -/
def State.gntOf (s : State) (r : Radio) (level : Bool) : Bool := level != (s.ap r R.FEMCTL_COEX_CFG_GNT_POL == 1)

/-- R94 to R96: the radio samples COEX_GNT at its start time minus SAMPLE; from the earlier requester's sample on COEX_PRI may carry the
direction. -/
def execCoexGntSample (r : Radio) (level : Bool) (s : State) : Out :=
  let tgt := s.rd (L.RA_TGT r)
  if !s.coexOn r ∨ (tgt ≠ 2 ∧ tgt ≠ 3) ∨ s.on (L.RA_REOPEN r) then .next s
  else
    let ok := s.gntOf r level
    let s1 := (s.wrs [(R.FEMCTL_COEX_STAT_GNT, b2n ok), (L.CX_SMP, s.rd L.CX_SMP ||| b2n (s.rd L.CX_FIRST == r.idx + 1))]).coexWires
    if ok then .next (s1.wr (L.CX_OK r) 1)
    else if tgt = 3 then
      let s2 := (s1.wr R.FEMCTL_EVT_GNT_DENIED 1).sat R.FEMCTL_CNT_DENIED_TX 1
      .next ((((s2.txUnstarted r false).radioOut r 4 0).takePending r).settle)
    else if s1.ap r R.FEMCTL_COEX_CFG_RX_NEEDS_GNT = 1 then
      .next ((((s1.sat R.FEMCTL_CNT_DENIED_RX 1).txUnstarted r true |>.radioOut r 4 0).takePending r).settle)
    else .next ((s1.wr (L.CX_OK r) 1).coexEnd r)

/-- R97: the grant is withdrawn. -/
def execCoexGntLost (r : Radio) (s : State) : Out :=
  if !s.coexOn r then .next s
  else
    let s1 := s.wr R.FEMCTL_COEX_STAT_GNT 0
    if s1.rst r ≠ 6 then .next s1
    else
      let s2 := (s1.wr R.FEMCTL_EVT_GNT_LOST 1).sat R.FEMCTL_CNT_LOST_GNT 1
      .next (if s2.ap r R.FEMCTL_COEX_CFG_ABORT_ON_LOSS = 1 then s2.radioCut r 5 false else s2)

end Sys2Proof.Machine
end

