-- ==== Sys2Proof/Machine/Modem.lean ====
section
/-!
DEFINITION. Machine/Modem.lean: the modems' receptions, gain control, equaliser, reports and direct-mode FIFOs
(R106 to R141), and the reservations a frame makes at its sync instant (R150): one meaning for each of their
rows.
-/
namespace Sys2Proof.Machine

open Sys2Proof

/-- R132: an antenna-referred level from what the modem measures: less the module's receive gain, saturating at
-128 and +20 dBm. -/
def State.rssiAt (s : State) (r : Radio) (raw : Int) : Int :=
  let g : Nat :=
    match r with
    | .cirrus => if s.on R.FEMCTL_CFG_CIR_FEM ∧ !s.on R.FEMCTL_CFG_C_BYP_RX then s.ap r R.FEMCTL_GAINS_C_LNA_DB else 0
    | .stratus => if s.on R.FEMCTL_CFG_STR_FEM then s.ap r R.FEMCTL_GAINS_S_LNA_DB else 0
  max (-128) (min (raw - g) 20)

/-- R114: whether the receiver is open with no frame detected. -/
def State.rxOpen (s : State) (r : Radio) : Bool := s.rst r == 4 && !s.on (L.RA_TGT r) && s.rd (L.MF_ST r) == 0

/-- R114, R119, R122: the correlator's metric and the level it is gated with; the equaliser starts. -/
def execPreambleDetect (r : Radio) (metric : BitVec 8) (raw : BitVec 8) (s : State) : Out :=
  let rssi := s.rssiAt r raw.toInt
  let floor := sx 8 (s.ap r (R.MDM_PD_RSSI_MIN r))
  if s.rxOpen r && decide (s.ap r (R.MDM_PD_THRESH r) ≤ metric.toNat) && decide (floor = -128 ∨ floor ≤ rssi) then
    let freeze := s.ap r (R.MDM_AGC_FREEZE_EN r) == 1 && s.ap r (R.MDM_AGC_FORCE r) == 0
    let s1 := (s.sat (R.MDM_CNT_PD r) 1).wrS (R.MDM_STAT_RSSI_NOW r) rssi
    .next ((s1.wrs [(L.MF_ST r, 1), (R.MDM_STAT_IN_FRAME r, 1), (R.MDM_STAT_FROZEN r, b2n freeze), (L.MF_BYP r, 0),
      (L.MF_AGC r, s.rd (R.MDM_STAT_AGC_IDX r)), (L.MF_LEN r, 0)]).when (s1.on (L.CCA_ON r)) (fun s => s.wr (L.CCA_PD r) 1) |>.eqStart r true)
  else .next (s.when (s.rst r == 4) fun s => s.wrS (R.MDM_STAT_RSSI_NOW r) rssi)

/-! ### What the link controller does with a frame (R148, R150) -/

/-- R150: a reception abandoned for lack of buffers or of an event queue entry; its event ends. -/
def State.abandon (s : State) (r : Radio) (noBuf : Bool) : State :=
  let e := s.rxEvent r
  let k := if s.on (L.RX_CTX r) then some (s.rd (L.RX_CTX r) - 1) else e.map fun x => x.ctx
  let s1 := (s.sat (if noBuf then R.LINK_CNT_ABANDON_NO_BUF else R.LINK_CNT_ABANDON_NO_EVQ) 1).wr R.LINK_EVT_ABANDON 1
  let s2 := match k with | some k => (s1.ctxMissed k).ctxIdle k | none => s1
  let s3 := if noBuf then (s2.evqFill (mkEntry 8 (k.getD 0) 0 r.idx 0 0 (s2.rd (L.RX_TS r)) (s2.rd (L.RX_LEN r)) 0 0)).inc L.EVQ_RSV 1 else s2.inc L.EVQ_RSV 1
  let s4 := s3.dropFrame r
  match e with
  | none => s4
  | some e =>
    let s5 := s4.wr (L.RA_EV r) 0
    if e.kind = 3 ∨ e.kind = 4 then s5.finish e 1 else if e.kind = 6 then s5.finish e 0 else s5.endEv e

/-- R148, R150, R164: the sync instant at the link controller: one queue entry and one buffer. An LE frame whose window's key has been
used by a frame before it has its key asked for now. -/
def State.linkSync (s : State) (r : Radio) (ts : Nat) : State :=
  let s1 := s.wrs [(L.RX_ST r, 1), (L.RX_TS r, ts), (L.RX_LEN r, 0), (L.RX_CTX r, 0), (L.RX_IDED r, 0),
    (L.RX_EV r, s.rd (L.RA_EV r)), (L.RX_LOCKSTEP r, 0), (L.RX_FAULT r, 0), (L.RX_CRC r, 0)]
  match s1.evqReserve with
  | none => s1.abandon r false
  | some s2 =>
    match s2.reserveRx r 1 with
    | none => s2.abandon r true
    | some (l, s3) =>
      let s4 := s3.setFf (L.RX_BUFS r) l
      match s4.rxEvent r with
      | some e =>
        let s5 := s4.ctxInflight e.ctx 1 1 0 0
        if s5.leCtx e.ctx then s5.when (s5.ctxFlag e.ctx 1 && !s5.on (L.RX_KEYST r)) fun s => s.askKey r e.ctx else s5.wr (L.RX_KEYST r) 0
      | none => s4.wr (L.RX_KEYST r) 0

/-- R150: the frame's length is known: the remaining buffers. -/
def State.linkLen (s : State) (r : Radio) (n : Nat) : State :=
  if !s.on (L.RX_ST r) then s
  else
    let s1 := s.wrs [(L.RX_ST r, 2), (L.RX_LEN r, n)]
    let more := bufsFor n - 1
    if more = 0 then s1
    else
      match s1.reserveRx r more with
      | none => s1.abandon r true
      | some (l, s2) =>
        let all := s2.ff (L.RX_BUFS r) ++ l
        (s2.linkBufs (ownRx r) (all.map fun b => (b, 0))).setFf (L.RX_BUFS r) all

/-- R117: a window whose close waited for the frame: closed now. -/
def State.rxGone (s : State) (r : Radio) : State :=
  if !s.on (L.RX_CLOSE r) then s
  else
    let s1 := match s.runOn r with | some e => s.evRxLost e 1 | none => s
    (s1.wr (L.RX_CLOSE r) 0).radioClose r

/-! ### The frame at the modem -/

/-- R115, R129, R132, R133: symbols that end with the synchronisation field, with at most ERR_MAX bit errors; `ts` is the
interpolated instant at the antenna ball, with the receive path's delay removed. -/
def execSyncMatch (r : Radio) (pre sync : List Sample) (ts : Time) (raw : BitVec 8) (lqi : BitVec 8) (cfo : BitVec 16) (s : State) : Out :=
  let o := s.symbols r (pre ++ sync)
  match s.syncHit r o.1 with
  | none => .next s
  | some coded =>
    if s.rst r ≠ 4 ∨ s.rd (L.MF_ST r) ≠ 1 then .next s
    else
      let at_ := ux 64 ((ts.toNat : Int) - s.rdS (R.MDM_TS_ADJ_UNITS r))
      let s1 := (o.2.wrs [(L.MF_ST r, 2), (L.MF_TS r, at_), (L.MF_LQI r, lqi.toNat), (L.MF_CFO r, cfo.toNat),
        (L.MF_CODED r, b2n (coded && r == .stratus)), (L.MF_CI r, 0), (L.MF_DW r, 0), (L.MF_FCS16 r, 0), (L.RX_PUT r, 0)]).wrS (L.MF_RSSI r)
          (s.rssiAt r raw.toInt)
      let s2 := s1.setFf (L.RX_SYM r) (if r = .cirrus ∧ coded then (o.1.drop (o.1.length - 256)).map fun y => ux 16 y else [])
      .next ((if s2.on (R.FE_CTRL_DIRECT r) || !s2.online 10 then s2 else s2.linkSync r at_).settle)

/-- R115: no match within the search limit: the detector re-arms and the equaliser returns to its initial state. -/
def execSyncTimeout (r : Radio) (s : State) : Out :=
  if s.rd (L.MF_ST r) ≠ 1 then .next s
  else .next (((((s.sat (R.MDM_CNT_SYNC_TO r) 1).wr (R.MDM_EVT_SYNC_TIMEOUT r) 1).eqStart r false).mdmRearm r).rxGone r)

/-- R111: the mode's own limit on a length. -/
def modeLimit (r : Radio) (phy : Nat) : Nat := match r with | .stratus => 2047 | .cirrus => if phy = 4 then 127 else 255

/-- R113: the refusal of a declared length, 0 where it is accepted. -/
def State.phrRefusal (s : State) (r : Radio) (len : Nat) (ms fcs16 : Bool) : Nat :=
  let phy := s.ap r (R.MDM_MODE_PHY r)
  if r = .stratus ∧ ms then 5
  else if r = .stratus ∧ len < (if fcs16 then 2 else 4) then 3
  else if r = .cirrus ∧ phy = 4 ∧ len < 2 then 3
  else if min (s.ap r (R.MDM_RXLEN_MAX r)) (modeLimit r phy) < len then 4
  else 0

/-- R113: a decoded header is accepted, or the frame is refused. -/
def State.phrTake (s : State) (r : Radio) (h : Header) (ci : Bool) : State :=
  let s1 := s.wrs [(L.MF_ST r, 3), (L.MF_LEN r, h.len), (L.MF_FCS16 r, b2n h.short), (L.MF_DW r, b2n h.dw), (L.MF_CI r, b2n ci)]
  let bad := s1.phrRefusal r h.len h.ms h.short
  if bad = 0 then s1.linkLen r (s1.frameParts r h.short h.len).2.1
  else
    let s2 := (s1.mdmReport r bad).mdmRearm r
    (if s2.on (L.RX_ST r) then s2.dropFrame r else s2).rxGone r

/-- R113, R126, R127: the symbols up to the end of the PHY header, or of the LE length, are decided; fewer are kept for the next row. -/
def execPhrReceived (r : Radio) (ci term hdr tail pad : List Sample) (s : State) : Out :=
  if s.rst r ≠ 4 ∨ s.rd (L.MF_ST r) ≠ 2 then .next s
  else
    let s1 := s.addSym r (ci ++ term ++ hdr ++ tail ++ pad)
    let ys := s1.rxSym r
    if ys.length < s1.headerNeed r (s1.rxCoded r) ys then .next s1
    else .next ((s1.phrTake r (s1.headerOf r (s1.decode r (s1.rxCoded r) ys false).1) (r == .cirrus && s1.rxCoded r && leCi ys)).settle)

/-- R139: octets received in direct mode enter RXFIFO; what finds it full is dropped. -/
def State.rxFifoPut (s : State) (r : Radio) (data : List Byte) : State :=
  let room := 64 - (s.ff (L.RXQ r)).length
  let q := s.ff (L.RXQ r) ++ (data.take room).map BitVec.toNat
  ((s.setFf (L.RXQ r) q).wr (R.MDM_FIFO_STAT_RX_LEVEL r) q.length).when (decide (room < data.length)) fun s => s.wr (R.MDM_EVT_RXFIFO_OVF r) 1

/-- R139: in direct mode the octets of an uncoded frame enter RXFIFO as they are decided. DESIGN CHOICE: those of a coded frame enter at
its end, when the decoder has decided them. -/
def State.rxStream (s : State) (r : Radio) : State :=
  if !s.on (R.FE_CTRL_DIRECT r) || s.rxCoded r || s.rd (L.MF_ST r) != 3 then s
  else
    let b := (s.decode r false (s.rxSym r) false).1
    let p := s.frameParts r (s.on (L.MF_FCS16 r)) (s.rd (L.MF_LEN r))
    let l := (bitsOctets (b.drop p.1)).take p.2.1
    (s.rxFifoPut r (l.drop (s.rd (L.RX_PUT r)))).wr (L.RX_PUT r) l.length

/-- R139: the octets of a frame that has ended enter RXFIFO as far as they have not; the last word is filled with zeros. -/
def State.rxStreamEnd (s : State) (r : Radio) (l : List Byte) : State :=
  if !s.on (R.FE_CTRL_DIRECT r) then s
  else (s.rxFifoPut r (l.drop (s.rd (L.RX_PUT r)))).rxFifoPut r (if 64 < (s.ff (L.RXQ r)).length + (l.length - s.rd (L.RX_PUT r)) then []
    else zeros ((4 - l.length % 4) % 4))

/-- R76, R112, R125, R135, R139: the last bit is decided: the report, and the end of the reception; symbols that do not complete the
frame are kept for the next row. -/
def execRxReport (r : Radio) (body check term tail pad : List Sample) (s : State) : Out :=
  if s.rst r ≠ 4 ∨ s.rd (L.MF_ST r) ≠ 3 then .next s
  else
    let s0 := s.addSym r (body ++ check ++ term ++ tail ++ pad)
    let short := s0.on (L.MF_FCS16 r)
    let len := s0.rd (L.MF_LEN r)
    let ys := s0.rxSym r
    if ys.length < s0.frameNeed r (s0.rxCoded r) short len (s0.on (L.MF_CI r)) then .next (s0.rxStream r)
    else
      let f := s0.frameOctets r short len (s0.decode r (s0.rxCoded r) ys true).1
      let s1 := s0.mdmReport r (if f.2 then 1 else 2)
      let s2 := s1.rxStreamEnd r f.1
      let s3 := s2.when (s2.on (L.RX_ST r)) fun s => (s.wrs [(L.RX_ST r, 3), (L.RX_CRC r, b2n f.2),
        (L.RX_LOCKSTEP r, s.rd (L.RX_LOCKSTEP r) ||| s.rd L.LS_HOLD), (L.RX_RSSI r, s.rd (L.MF_RSSI r)),
        (L.RX_LQI r, s.rd (L.MF_LQI r))]).setFf (L.RX_OCT r) (f.1.map BitVec.toNat)
      let s4 := (s3.mdmRearm r).wr (L.RX_CLOSE r) 0
      .next (((s4.radioClose r).takePending r).settle)

/-- R119: what a comparison makes of the gain index: steps up or down, or a clipped ADC while it is frozen. -/
def State.agcStep (s : State) (r : Radio) (up down : Nat) (clip : Bool) : State :=
  if s.ap r (R.MDM_AGC_FORCE r) = 1 then s.wr (R.MDM_STAT_AGC_IDX r) (s.ap r (R.MDM_AGC_FORCE_IDX r))
  else if s.on (R.MDM_STAT_FROZEN r) then (if clip then s.wr (R.MDM_EVT_CLIPPED r) 1 else s)
  else s.wr (R.MDM_STAT_AGC_IDX r) (min 24 (s.rd (R.MDM_STAT_AGC_IDX r) + min up 4 - min down 2))

/-- R119, R132, R139: the AGC's comparison, every 0.5 µs: steps up or down, a clipped ADC, and the level received now; with it come the
symbols of the frame in progress that have been decided since the last row. -/
def execAgcUpdate (r : Radio) (up down : BitVec 3) (lvl : AdcLevel) (smp : List Sample) (s : State) : Out :=
  if s.rst r ≠ 4 then .next s
  else
    let s1 := (s.wrS (R.MDM_STAT_RSSI_NOW r) (s.rssiAt r lvl.raw.toInt)).agcStep r up.toNat down.toNat lvl.clip
    .next (if s.rd (L.MF_ST r) < 2 ∨ smp = [] then s1 else (s1.addSym r smp).rxStream r)

/-- R122 to R124: training over the samples from detection on ends: EQ_SHORT where it was short, and a bypass where its error is above
EQ.MSE_MAX. -/
def execEqTrainEnd (r : Radio) (fst snd : List Sample) (s : State) : Out :=
  if s.rd (L.MF_ST r) = 0 ∨ !s.eqUsed r then .next s
  else
    let q := Equaliser.train (s.dev r) (s.ap r (R.MDM_EQ_CURSOR r)) (s.ap r (R.MDM_EQ_MU_TRAIN r)) ((fst.map BitVec.toInt).zip (snd.map BitVec.toInt)) (s.eq r)
    let s1 := (s.setEq r q).when (decide (q.count < s.ap r (R.MDM_EQ_MIN_TRAIN r))) fun s => s.wr (R.MDM_EVT_EQ_SHORT r) 1
    .next (if s1.ap r (R.MDM_EQ_MSE_MAX r) < q.mse (s.dev r) then
      s1.wrs [(L.MF_BYP r, 1), (L.MF_MSE r, q.mse (s.dev r)), (R.MDM_EVT_EQ_BYPASSED r, 1)] else s1)

/-- R134, R184: a clear-channel measurement ends with an average level; the transmission it guards goes on or
ends with CCA_BUSY. -/
def execCcaDone (r : Radio) (raw : BitVec 8) (s : State) : Out :=
  if s.rst r ≠ 4 ∨ !s.on (L.CCA_ON r) then .next s
  else
    let busy := s.on (L.CCA_PD r) || decide (sx 8 (s.ap r (R.MDM_CCA_THRESH r)) ≤ s.rssiAt r raw.toInt)
    let s1 := s.wrs [(R.MDM_STAT_CCA_BUSY r, b2n busy), (L.CCA_ON r, 0), (L.CCA_PD r, 0)]
    match s1.runOn r with
    | some e =>
      if e.phase ≠ 4 then .next s1
      else if busy then .next (((s1.wr (L.RA_EV r) 0).finish e 5 |>.radioClose r).settle)
      else
        let max := if e.band = 0 then 127 else s1.rd (R.MAC_DUTY_BAND_HI_MAX_DBM (e.band - 1))
        .next (((((s1.setRun { e with phase := 1 }).coexEnd r).txFrame r e.buf e.txLen).radioCmd r 3 e.start e.cls max (e.handle + 1)).settle)
    | none => .next s1

/-! ### Registers with an effect of their own -/

/-- Fields of one register as a word. -/
def State.pack (s : State) (l : List Fld) : Nat := l.foldl (fun a f => a + s.rd f * 2 ^ f.lsb) 0

/-- R136: a read of LAST_STAT: the latch is released, a held report applied, and the registers latched. -/
def execLastStatRead (m : Master) (r : Radio) (s : State) : Out :=
  .next (s.read m (R.MDM_LAST_STAT_RESULT r) fun s =>
    let s1 := s.when (s.on (R.MDM_LAST_STAT_HELD r)) fun s => (s.each (lastAll r) fun f s => s.wr f (s.rd (heldCopy f))).wr (R.MDM_LAST_STAT_HELD r) 0
    let s2 := (s1.each (lastAll r) fun f s => s.wr (heldCopy f) (s.rd f)).wr (L.LAST_LATCH r) 1
    (s2.pack [R.MDM_LAST_STAT_RESULT r, R.MDM_LAST_STAT_PHY r, R.MDM_LAST_STAT_CI r, R.MDM_LAST_STAT_CODED r, R.MDM_LAST_STAT_DW r,
      R.MDM_LAST_STAT_FCS16 r, R.MDM_LAST_STAT_HELD r, R.MDM_LAST_STAT_LEN r], s2))

/-- R137: four octets for TXFIFO; a transmission under way takes what it lacks. DESIGN CHOICE: a word is ignored whole where fewer than
four octets are free, and the octets of a last word beyond DLEN stay in TXFIFO. -/
def execTxfifoWrite (m : Master) (r : Radio) (val : Word) (s : State) : Out :=
  .next (s.write m (R.MDM_TXFIFO r) fun s =>
    let q := s.ff (L.TXQ r)
    if 60 < q.length then s
    else
      let q1 := q ++ (leBytes 4 val.toNat).map BitVec.toNat
      let s1 := (s.setFf (L.TXQ r) q1).wr (R.MDM_FIFO_STAT_TX_LEVEL r) q1.length
      if s1.rst r = 6 then s1.txTake r else s1)

/-- R138: the modem needs an octet and TXFIFO is empty. -/
def execTxUnderrun (r : Radio) (s : State) : Out :=
  if s.rst r = 6 ∧ s.on (R.FE_CTRL_DIRECT r) ∧ !s.testPattern r ∧ s.rd (L.TX_LEFT r) ≠ 0 then
    .next ((s.radioCut r 11 false).wrs [(R.MDM_EVT_TX_UNDERRUN r, 1), (L.TX_LEFT r, 0)])
  else .next s

/-- R139: a read of RXFIFO removes four octets; an empty one reads 0. -/
def execRxfifoRead (m : Master) (r : Radio) (s : State) : Out :=
  .next (s.read m (R.MDM_RXFIFO r) fun s =>
    let q := s.ff (L.RXQ r)
    (ofLe ((q.take 4).map (BitVec.ofNat 8)), (s.setFf (L.RXQ r) (q.drop 4)).wr (R.MDM_FIFO_STAT_RX_LEVEL r) (q.length - 4)))

/-- R139: FLUSH empties both FIFOs. -/
def State.mdmFlush (s : State) (r : Radio) : State :=
  ((s.setFf (L.TXQ r) []).setFf (L.RXQ r) []).wrs [(R.MDM_FIFO_STAT_TX_LEVEL r, 0), (R.MDM_FIFO_STAT_RX_LEVEL r, 0)]
def execFifoFlush (m : Master) (r : Radio) (s : State) : Out :=
  .next (s.write m (R.MDM_FIFO_CFG_FLUSH r) fun s => s.mdmFlush r)

end Sys2Proof.Machine
end

