-- ==== Sys2Proof/Machine/Porch.lean ====
section
/-!
DEFINITION. Machine/Porch.lean: the Porch (R304 to R324): one meaning for each of its rows.
-/
namespace Sys2Proof.Machine

open Sys2Proof

/-- R60, R304 to R310, R348: the Porch answers the field: the plan includes it, a field is there, its start-up decision is taken,
ENABLE read 1, and no lowering of the read-out protection runs. -/
def State.porchAnswers (s : State) : Bool :=
  s.on R.PORCH_STAT_FIELD && s.present 19 && s.on L.P_UP && s.on L.P_EN && !s.on R.FLASHC_RDP_LOWERING

/-- R305: the level of FIELD_DET: the field's presence, held inactive by CFG.FDET_EN at 0 while VSYS powers the island. -/
def State.fieldDet (s : State) : Bool := s.on R.PORCH_STAT_FIELD && (s.on R.PORCH_CFG_FDET_EN || !s.domOn 2)

/-- R60, R305: a field arrives; an absent Porch's clock does not start. -/
def execPorchFieldArrival (s : State) : Out :=
  if s.on R.PORCH_STAT_FIELD then .next s
  else .next ((s.wrs [(R.PORCH_STAT_FIELD, 1), (R.PORCH_EVT_FIELD_ON, 1)]).setIsl 8 (s.islOn 8 || s.present 19)).pwTry

/-- R320, R305, R318: the field is lost: the session ends; without VSYS the island collapses. -/
def execPorchFieldLoss (s : State) : Out :=
  if !s.on R.PORCH_STAT_FIELD then .next s
  else
    let s1 := (s.wrs [(R.PORCH_STAT_FIELD, 0), (R.PORCH_EVT_FIELD_OFF, 1), (R.PORCH_STAT_RESERVE, 0)])
    if s.domOn 2 then
      .next ((s1.wrs [(L.P_TAG, 0), (L.P_STAR, 0)]).setFf L.PQ_DATA []).porchSessionEnd
    else .next s1.porchOff

/-- R317, R310, R353: the start-up decision: the shadow read, an interrupted write redone or discarded, the
identity and the page-0 settings read, and the program slot chosen; `fwOk` tells that the selected slot's CRC-32C
matches. -/
def execPorchPowerUp (fwOk : Bool) (s : State) : Out :=
  if s.on L.P_UP || !(s.islOn 8 && (s.on R.PORCH_STAT_FIELD || s.domOn 2)) then .next s
  else
    let h := s.rdPs shadowHdr 11
    let commit := (s.rdP (shadowHdr + 10)).toNat
    let target := ofLe (h.take 2)
    let seq := ofLe ((h.drop 2).take 4)
    let good := ofLe ((h.drop 6).take 4) == shadowCrc target seq (s.rdPs shadowPay 64)
    let redo := commit == 0x3C && good
    let outcome := if redo then 1 else if commit = 0 then 0 else 2
    let s1 := s.when redo fun s => ((s.wrPs (64 * (target % 256)) (s.rdPs shadowPay 64)).wr R.PORCH_EVT_REDO 1).sat R.PORCH_CNT_REDO 1
    let s2 := s1.when (commit != 0) fun s => s.wrP (shadowHdr + 10) 0
    let set := (s2.rdP 7).toNat
    let slot := if fwOk then s2.fwSel else 1 - s2.fwSel
    .next ((s2.wrs [(R.PORCH_TEAR_LOG_OUTCOME, outcome), (R.PORCH_TEAR_LOG_PAGE, if outcome = 0 then 0 else target),
      (R.PORCH_SEQ, seq), (R.PORCH_UID_LO, ofLe (s2.rdPs 0 4)), (R.PORCH_UID_HI, ofLe (s2.rdPs 4 3)), (R.PORCH_CFG_FWI, set / 16),
      (L.P_UP, 1), (L.P_EN, set % 2), (L.P_TAG, 0), (R.ATTIC_PFW_STAT_SELECTED, s2.fwSel), (R.ATTIC_PFW_STAT_ACTIVE, slot),
      (R.ATTIC_PFW_STAT_FALLBACK, b2n !fwOk)]).porchArb)

/-! ### Frames of ISO/IEC 14443-3 and -4 -/

/-- R307: the UID's octets of a cascade level with their check octet: the cascade tag and octets 0 to 2, or
octets 3 to 6. -/
def State.porchUidCl (s : State) (lvl2 : Bool) : List Byte :=
  let l := if lvl2 then s.rdPs 3 4 else 0x88 :: s.rdPs 0 3
  l ++ [l.foldl (· ^^^ ·) 0]

/-- The tag falls back from the selection: to HALT when it was woken from there. -/
def State.porchDrop (s : State) : State := s.wr L.P_TAG (if s.on L.P_STAR then 4 else 0)

/-- R307: REQA is answered from IDLE. -/
def execReqa (s : State) : Out :=
  if !s.porchAnswers then .next s
  else
    match s.rd L.P_TAG with
    | 0 => .next ((s.wrs [(L.P_TAG, 1), (L.P_STAR, 0)]).porchSend 1 [0x44, 0x00])
    | 4 | 5 => .next s
    | _ => .next s.porchDrop

/-- R307: WUPA is answered from IDLE and from HALT. -/
def execWupa (s : State) : Out :=
  if !s.porchAnswers then .next s
  else
    match s.rd L.P_TAG with
    | 0 => .next ((s.wrs [(L.P_TAG, 1), (L.P_STAR, 0)]).porchSend 1 [0x44, 0x00])
    | 4 => .next ((s.wrs [(L.P_TAG, 1), (L.P_STAR, 1)]).porchSend 1 [0x44, 0x00])
    | 5 => .next s
    | _ => .next s.porchDrop

/-- R307, R308: an anticollision frame with n known identifier bits of a level: the remaining bits where they match. -/
def execAnticollision (lvl2 : Bool) (n : BitVec 6) (known : BitVec 40) (s : State) : Out :=
  if s.porchAnswers && s.rd L.P_TAG == (if lvl2 then 2 else 1) then
    let v := ofLe (s.porchUidCl lvl2)
    let k := n.toNat
    if k < 40 ∧ known.toNat % 2 ^ k = v % 2 ^ k then .next (s.porchSend 2 (leBytes ((47 - k) / 8) (v / 2 ^ k))) else .next s
  else .next s

/-- R307: a SELECT of a cascade level. -/
def execSelect (lvl2 : Bool) (id : BitVec 40) (s : State) : Out :=
  if s.porchAnswers && (s.rd L.P_TAG == 1 || s.rd L.P_TAG == 2) then
    if s.rd L.P_TAG = (if lvl2 then 2 else 1) ∧ id.toNat = ofLe (s.porchUidCl lvl2) then
      .next ((s.wr L.P_TAG (if lvl2 then 3 else 2)).porchSend 3 [if lvl2 then 0x20 else 0x04])
    else .next s.porchDrop
  else .next s

/-- R307: HLTA: the selected Porch halts. -/
def execHlta (s : State) : Out :=
  if !s.porchAnswers then .next s
  else
    match s.rd L.P_TAG with
    | 3 => .next (s.wr L.P_TAG 4)
    | 1 | 2 => .next s.porchDrop
    | _ => .next s

/-- R307, R320, R321: RATS: the ATS is sent at once and a session begins; the token passes to it, once a page that a
host command is writing has ended. -/
def execRats (s : State) : Out :=
  if s.porchAnswers && s.rd L.P_TAG == 3 then
    let s1 := s.porchSend 4 [0x05, 0x78, 0x00, BitVec.ofNat 8 (s.rd R.PORCH_CFG_FWI * 16), 0x02]
    .next ((((s1.setFf L.P_LAST []).setFf L.P_CHAIN []).wrs [(L.P_TAG, 5), (R.PORCH_STAT_SESSION, 1), (L.P_BLK, 1), (L.P_WTX, 0)]).porchArb)
  else .next s

/-- R307, R308, R321: an I-block of an APDU: with `more` of it to come it is acknowledged and its data kept; the last one is answered,
or kept while a host page is finishing. An APDU of more than 256 octets, five of them before its data, has a wrong length. -/
def State.porchIblock (s : State) (code a : Nat) (data : List Byte) (more : Bool) : State :=
  if !s.porchAnswers || !s.on R.PORCH_STAT_SESSION || !(s.ff L.P_PEND).isEmpty then s
  else
    let l := s.ff L.P_CHAIN ++ data.map BitVec.toNat
    let s0 := s.wr L.P_BLK (1 - s.rd L.P_BLK)
    if more then (s0.setFf L.P_CHAIN l).porchBlock 6 [BitVec.ofNat 8 (0xA2 + s0.rd L.P_BLK)]
    else
      let s1 := ((s0.setFf L.P_CHAIN []).setFf L.P_PEND ((if 251 < l.length then 7 else code) :: a :: l)).wr L.P_WTX 1
      if s1.on L.PW_STEP || s1.on L.PF_BUSY then s1 else s1.porchServe

/-- R311: SELECT with P1 0x04 of an AID. -/
def execSelectApplication (aid : ApduPart) (s : State) : Out := .next (s.porchIblock 0 0 aid.data aid.more).settle

/-- R311: SELECT with P1 0x00 of a FID. -/
def execSelectFile (fid : Option (BitVec 16)) (s : State) : Out := .next (s.porchIblock 1 (fid.getD 0).toNat [] fid.isNone).settle

/-- R311: READ BINARY of le octets from an offset on. -/
def execReadBinary (off : BitVec 15) (le : Option Byte) (s : State) : Out :=
  .next (s.porchIblock 2 off.toNat le.toList le.isNone).settle

/-- R309, R311: UPDATE BINARY from an offset on. -/
def execUpdateBinary (off : BitVec 15) (data : ApduPart) (s : State) : Out :=
  .next (s.porchIblock 3 off.toNat data.data data.more).settle

/-- R314: GET CHALLENGE. -/
def execGetChallenge (s : State) : Out := .next (s.porchIblock 4 0 [] false).settle

/-- R314: EXTERNAL AUTHENTICATE for slot k. -/
def execExternalAuthenticate (k : Byte) (data : ApduPart) (s : State) : Out :=
  .next (s.porchIblock 5 k.toNat data.data data.more).settle

/-- R311: an I-block with another instruction. -/
def execInstructionNotSupported (s : State) : Out := .next (s.porchIblock 6 0 [] false).settle

/-- R320: S(DESELECT) is answered and the session ends. -/
def execSDeselect (s : State) : Out :=
  if s.porchAnswers && s.on R.PORCH_STAT_SESSION then
    .next (((s.porchSend 8 [0xC2]).wrs [(L.P_TAG, 4), (L.P_STAR, 0)]).setFf L.PQ_DATA []).porchSessionEnd
  else .next s

/-- R307, R308: an R-block: the last block again where its number is that block's (an S(WTX) not yet answered among them), else an
R(ACK) to a NAK; nothing while an APDU is being worked on. -/
def execRBlock (nak : Bool) (num : BitVec 1) (s : State) : Out :=
  if s.porchAnswers && s.on R.PORCH_STAT_SESSION then
    if s.rd L.P_WTX = 1 then .next s
    else if num.toNat = s.rd L.P_BLK ∧ !(s.ff L.P_LAST).isEmpty then
      .next (s.porchSend ((s.ff L.P_LAST).headD 0) ((s.ff L.P_LAST).tail.map (BitVec.ofNat 8)))
    else if nak then .next (s.porchSend 6 [BitVec.ofNat 8 (0xA2 + s.rd L.P_BLK)])
    else .next s
  else .next s

/-- R308: the PCD answers S(WTX): the interval starts again. -/
def execWtxResponse (s : State) : Out :=
  if s.porchAnswers && s.rd L.P_WTX == 2 then .next (s.wr L.P_WTX 1) else .next s

/-- R308: the I-block in hand is not ready at its interval's end: S(WTX) with WTXM 1. -/
def execSWtxSend (s : State) : Out :=
  if s.porchAnswers && s.rd L.P_WTX == 1 && !(s.ff L.P_PEND).isEmpty then .next ((s.porchBlock 7 [0xF2, 0x01]).wr L.P_WTX 2) else .next s

/-! ### Page writes and host commands -/

/-- R315: the step in progress of a page write completes; `fail` tells that the verify of the payload fails. -/
def execPageWriteStepDone (fail : Bool) (s : State) : Out :=
  if s.on L.PW_STEP && s.on L.PW_RUN then .next (s.pwStepDone fail).settle else .next s

/-- R316: the field-strength detector shows the charge for a page program, or no longer does. -/
def execWriteGateOpen (reserve : Bool) (s : State) : Out :=
  .next (s.wr R.PORCH_STAT_RESERVE (b2n (reserve && s.on R.PORCH_STAT_FIELD))).pwTry

/-- R316: the gate has stayed closed for 20 ms with step 3 pending. -/
def execWriteAbandoned (s : State) : Out :=
  if s.rd L.PW_STEP = 3 ∧ !s.on L.PW_RUN ∧ !s.porchGate then .next (s.pwPageFail 6 false).settle else .next s

/-- R309: what the host may read and write. -/
def hostMayRead (page : Nat) : Bool := decide (page < 216)
def hostMayWrite (page : Nat) : Bool := decide (2 ≤ page) && decide (page < 216)

/-- R320, R322: a host command accepted: it runs at once where the token is free, and is queued otherwise. -/
def State.phAccept (s : State) (op page n rights : Nat) : State :=
  let s1 := s.wrs [(L.PH_OP, op), (L.PH_PAGE, page), (L.PH_N, n), (L.PH_I, 0), (L.PH_RIGHTS, rights), (R.PORCH_HSTAT_DONE_PAGES, 0),
    (L.PH_KEY, if op = 3 then ofLe ((List.range 4).flatMap fun w => leBytes 4 (s.rd (R.PORCH_KEYBUF w))) else 0)]
  if s.on R.PORCH_STAT_SESSION ∨ s.rd R.PORCH_STAT_OWNER ≠ 0 ∨ s.on L.PW_STEP then s1.wrs [(L.PH_ST, 2), (R.PORCH_HSTAT_RESULT, 2)]
  else (s1.wr L.PH_ST 1).porchArb

/-- R323: a command refused. -/
def State.phRefuse (s : State) (result : Nat) : State :=
  s.wrs [(R.PORCH_HSTAT_RESULT, result), (R.PORCH_HSTAT_DONE_PAGES, 0), (R.PORCH_EVT_HCMD_DONE, 1)]

/-- R323: a write of HCMD with GO: ignored while a command runs or is queued. -/
def State.phCmd (s : State) (op page n : Nat) : State :=
  if s.on L.PH_ST ∨ n = 0 ∨ 16 < n then s
  else if 256 < page + n then s.phRefuse 5
  else if !((List.range n).all fun i => if op = 1 then hostMayRead (page + i) else hostMayWrite (page + i)) ||
      (op == 2 && !s.on R.PORCH_CFG_HOST_WRITE_EN) then s.phRefuse 4
  else s.phAccept op page n 0

/-- R323: HCMD READ. -/
def execHcmdRead (m : Master) (page : BitVec 8) (npages : BitVec 5) (s : State) : Out :=
  .next (s.write m R.PORCH_HCMD_GO fun s => s.phCmd 1 page.toNat npages.toNat).settle

/-- R323: HCMD WRITE. -/
def execHcmdWrite (m : Master) (page : BitVec 8) (npages : BitVec 5) (s : State) : Out :=
  .next (s.write m R.PORCH_HCMD_GO fun s => s.phCmd 2 page.toNat npages.toNat).settle

/-- R322, R323: KEY_CMD with GO: two pages, the key's and the rights'; refused where the queue is occupied. -/
def execKeyCmd (m : Master) (slot : BitVec 2) (rights : BitVec 4) (s : State) : Out :=
  .next (s.write m R.PORCH_KEY_CMD_GO fun s =>
    let emptied := s.each (List.range 4) fun k s => s.wr (R.PORCH_KEYBUF k) 0
    if s.rd L.PH_ST = 1 then s
    else if s.rd L.PH_ST = 2 then emptied.phRefuse 3
    else if !s.on R.PORCH_CFG_HOST_WRITE_EN then emptied.phRefuse 4
    else s.phAccept 3 slot.toNat 2 rights.toNat).settle

end Sys2Proof.Machine
end

