-- ==== Sys2Proof/Machine/Ports.lean ====
section
/-!
DEFINITION. Machine/Ports.lean: CAN FD, LIN, GPIO, ADC, I2C and the SPI controller (R453 to R474): one meaning for each
of their rows.
-/
namespace Sys2Proof.Machine

open Sys2Proof

/-! ### CAN FD -/

/-- R455: a write of TX_REQ of controller n; `idle` tells that the bus is idle, so that a frame may start. -/
def execTxReqWrite (m : Master) (n : Fin 2) (v : BitVec 16) (idle : Bool) (s : State) : Out :=
  .next (s.write m (R.CAN_TX_REQ n.val) fun s =>
    let s1 := s.wr (R.CAN_TX_REQ n.val) (s.rd (R.CAN_TX_REQ n.val) ||| v.toNat)
    if idle then s1.canStart n.val else s1.canRecord n.val)

/-- R455: a write of TX_CANCEL: a request is cleared at once unless its frame is on the bus. -/
def execTxCancel (m : Master) (n : Fin 2) (v : BitVec 16) (s : State) : Out :=
  .next (s.write m (R.CAN_TX_CANCEL n.val) fun s =>
    let t := n.val
    let bus := s.rd (L.CN_BUS t)
    let hold := if bus ≠ 0 ∧ bit v.toNat (bus - 1) then 2 ^ (bus - 1) else 0
    (s.wrs [(L.CN_CANC t, s.rd (L.CN_CANC t) ||| hold), (R.CAN_TX_REQ t, clrMask (s.rd (R.CAN_TX_REQ t)) (clrMask v.toNat hold))]).canRecord t)

/-- R455, R457: a frame of controller n is sent. -/
def execCanTxDone (n : Fin 2) (s : State) : Out :=
  let t := n.val
  let bus := s.rd (L.CN_BUS t)
  if !s.online (34 + t) || bus == 0 then .next s
  else
    let s1 := (s.setBitF (R.CAN_TX_DONE t) (bus - 1)).clrBitF (R.CAN_TX_REQ t) (bus - 1)
    let s2 := (s1.clrBitF (L.CN_CANC t) (bus - 1)).wrs [(R.CAN_EVT_TX_DONE t, 1), (L.CN_BUS t, 0), (R.CAN_STAT_TEC t, s.rd (R.CAN_STAT_TEC t) - 1)]
    .next ((s2.canLevel t).canStart t)

/-- R453: the octets a DLC stands for. -/
def dlcOctets (w1 : Nat) : Nat :=
  let d := w1 % 16
  if bit w1 9 then [0, 1, 2, 3, 4, 5, 6, 7, 8, 12, 16, 20, 24, 32, 48, 64].getD d 0 else min d 8

/-- R456: the filter that a frame matches: none where filters are enabled and none does. -/
def State.canFilter (s : State) (t w0 : Nat) : Option Nat :=
  let enabled := (List.range 16).filter fun k => s.on (R.CAN_FLT_EN t k)
  if enabled.isEmpty then some 31
  else enabled.find? fun k =>
    (bits w0 28 0 &&& s.rd (R.CAN_FLTM t k)) == (s.rd (R.CAN_FLT_ID t k) &&& s.rd (R.CAN_FLTM t k)) && bits w0 30 30 == s.rd (R.CAN_FLT_XTD t k)

/-- R456: a frame stored in the next place of the RX FIFO: its words, the matching filter, and its data octets. -/
def State.canStore (s : State) (t w0 w1 flt : Nat) (data : List Byte) : State :=
  let i := 16 + (s.rd (L.CN_GET t) + s.rd (L.CN_LVL t)) % 24
  let s1 := s.wrs [(canWord t i 0, bits w0 30 0), (canWord t i 1, bits w1 10 0 &&& 0x70F ||| flt * 2 ^ 16)]
  let s2 := s1.each (data.zipIdx.take 64) fun p s =>
    let f := canWord t i (2 + p.2 / 4)
    s.wr f (s.rd f - bits (s.rd f) (8 * (p.2 % 4) + 7) (8 * (p.2 % 4)) * 256 ^ (p.2 % 4) + p.1.toNat * 256 ^ (p.2 % 4))
  (s2.inc (L.CN_LVL t) 1).wr (R.CAN_EVT_RX t) 1

/-- R360, R456: the speed that a frame of the speed controller carries. -/
def State.canSpeed (s : State) (t w0 : Nat) (data : List Byte) : State :=
  let id := s.rd R.ATTIC_SPEED_ID
  let same := if bit id 31 then bit w0 30 && bits w0 28 0 == bits id 28 0 else !bit w0 30 && bits w0 28 18 == bits id 10 0
  let b := s.rd R.ATTIC_UPD_CFG_SPEED_BYTE
  if s.rd R.ATTIC_UPD_CFG_SPEED_CAN = t ∧ same ∧ b + 2 ≤ data.length then s.atSpeed (ofLe ((data.drop b).take 2)) else s

/-- R453, R456: an error-free frame received by controller n: its words W0 and W1 and its data octets. -/
def execCanFrameRx (n : Fin 2) (w0 w1 : Word) (data : List Byte) (s : State) : Out :=
  let t := n.val
  let st := s.rd (R.CAN_STAT_STATE t)
  if !s.online (34 + t) || !(st == 1 || st == 2) || s.on (L.CN_INTEG t) then .next s
  else
    let d := data.take (dlcOctets w1.toNat)
    let rec_ := s.rd (R.CAN_STAT_REC t)
    let s0 := if 127 < rec_ then (s.freeStep).wr (R.CAN_STAT_REC t) (119 + s.freeVal 16 % 9) else s.wr (R.CAN_STAT_REC t) (rec_ - 1)
    let s1 := (s0.canLevel t).canSpeed t w0.toNat d
    let s2 := match s1.canFilter t w0.toNat with
      | none => s1
      | some k =>
        if s1.rd (L.CN_LVL t) = 24 then (s1.sat (R.CAN_RX_LOST t) 1).wr (R.CAN_EVT_RX_OVF t) 1
        else s1.canStore t w0.toNat w1.toNat k d
    .next (s2.canStart t)

/-- R455, R457: lost arbitration (0), a transmit error (1), a receive error (2), or a receive error that counts
eight (3); a frame on the bus is retried unless its cancellation waits. -/
def execCanBusError (n : Fin 2) (kind : BitVec 2) (s : State) : Out :=
  let t := n.val
  let st := s.rd (R.CAN_STAT_STATE t)
  if !s.online (34 + t) || !(st == 1 || st == 2) then .next s
  else
    let bus := s.rd (L.CN_BUS t)
    let s1 := s.when (bus != 0) fun s =>
      let s1 := s.wr (L.CN_BUS t) 0
      s1.when (bit (s.rd (L.CN_CANC t)) (bus - 1)) fun s => (s.clrBitF (L.CN_CANC t) (bus - 1)).clrBitF (R.CAN_TX_REQ t) (bus - 1)
    let s2 := match kind.toNat with
      | 0 => s1
      | 1 => s1.wr (R.CAN_STAT_TEC t) (min (s.rd (R.CAN_STAT_TEC t) + 8) 511)
      | 2 => s1.sat (R.CAN_STAT_REC t) 1
      | _ => s1.sat (R.CAN_STAT_REC t) 8
    if kind = 0 then .next (s2.canRecord t) else .next (((s2.wr (R.CAN_EVT_PROTO_ERR t) 1).canLevel t).canStart t)

/-- R457: a write of CTRL of controller n with its INIT. -/
def execCanInitWrite (m : Master) (n : Fin 2) (v : Word) (s : State) : Out :=
  .next (s.write m (R.CAN_CTRL_INIT n.val) fun s =>
    let t := n.val
    let old := s.on (R.CAN_CTRL_INIT t)
    let s1 := s.tabWrite m (s.on (R.CAN_CTRL_LOCK t)) (R.rowsCAN t) 0 v.toNat
    let new := bit v.toNat 1
    if new == old then s1
    else if new then ((s1.wrs [(L.CN_BUS t, 0), (L.CN_INTEG t, 0)]).when (s1.rd (R.CAN_STAT_STATE t) != 4) fun s => s.canState t 0).canRecord t
    else if s.on R.HALL_CLK_STAT_PLL_SRC then s1.wr (R.CAN_CTRL_INIT t) 1
    else
      let s2 := s1.when (decide (255 < s1.rd (R.CAN_STAT_TEC t))) fun s => s.wrs [(R.CAN_STAT_TEC t, 0), (R.CAN_STAT_REC t, 0)]
      (s2.wr (L.CN_INTEG t) 1).canLevel t)

/-- R457: after 11 recessive bits the controller takes part in the bus. -/
def execCanIntegrationDone (n : Fin 2) (s : State) : Out :=
  let t := n.val
  if s.online (34 + t) && s.on (L.CN_INTEG t) then .next ((s.wr (L.CN_INTEG t) 0).canStart t) else .next s

/-- R457: recovery from BUS_OFF after 128 occurrences of 11 recessive bits. -/
def execBusOffRecovery (n : Fin 2) (s : State) : Out :=
  let t := n.val
  if s.online (34 + t) && s.rd (R.CAN_STAT_STATE t) == 3 && s.on (R.CAN_CTRL_AUTO_RECOV t) then
    .next (((s.wrs [(R.CAN_STAT_TEC t, 0), (R.CAN_STAT_REC t, 0)]).canLevel t).canStart t)
  else .next s

/-- R456: a write of RX_POP. -/
def execRxPop (m : Master) (n : Fin 2) (s : State) : Out :=
  .next (s.write m (R.CAN_RX_POP n.val) fun s =>
    let t := n.val
    if s.on (L.CN_LVL t) then s.wrs [(L.CN_LVL t, s.rd (L.CN_LVL t) - 1), (L.CN_GET t, (s.rd (L.CN_GET t) + 1) % 24)] else s)

/-! ### LIN (R461, R462) -/

namespace L

/-- R462: what the controller is at: 0 nothing, 1 a header whose answer firmware owes, 2 sending a response, 3 receiving
one, 4 a wake pulse. -/
def LN_ST : Fld := latch 36 0 3 .w 0

end L

/-- R462: a frame ends with a result. -/
def State.linEnd (s : State) (result : Nat) : State :=
  s.wrs [(L.LN_ST, 0), (R.LIN_STAT_RESULT, result), (if result = 1 then R.LIN_EVT_DONE else R.LIN_EVT_ERR, 1)]

/-- R462: a write of CMD.OP of a controller that is on. -/
def State.linCmd (s : State) (m : Master) (eff : State → State) : State :=
  s.write m R.LIN_CMD_OP fun s => if s.on R.LIN_CTRL_EN then eff s else s

/-- R462: a commander's header with its own response, or with a response to receive. -/
def State.linHeader (s : State) (st : Nat) : State :=
  if s.rd R.LIN_CFG_ROLE = 0 ∧ s.rd L.LN_ST = 0 then s.wrs [(L.LN_ST, st), (R.LIN_STAT_RX_ID, s.rd R.LIN_FRAME_ID)] else s
def execHeaderPub (m : Master) (s : State) : Out := .next (s.linCmd m fun s => s.linHeader 2)

/-- R462: HEADER_SUB. -/
def execHeaderSub (m : Master) (s : State) : Out := .next (s.linCmd m fun s => s.linHeader 3)

/-- R462: PUBLISH; `late` tells that the response could no longer end in its time. -/
def execPublish (m : Master) (late : Bool) (s : State) : Out :=
  .next (s.linCmd m fun s => if s.rd L.LN_ST = 1 then (if late then s.linEnd 7 else s.wr L.LN_ST 2) else s)

/-- R462: SUBSCRIBE. -/
def execSubscribe (m : Master) (s : State) : Out :=
  .next (s.linCmd m fun s => if s.rd L.LN_ST = 1 then s.wr L.LN_ST 3 else s)

/-- R462: WAKE drives a dominant level for WAKE.US. -/
def execLinWake (m : Master) (s : State) : Out :=
  .next (s.linCmd m fun s => if s.rd L.LN_ST = 0 then s.wr L.LN_ST 4 else s)

/-- R462: ABORT. -/
def execLinAbort (m : Master) (s : State) : Out :=
  .next (s.linCmd m fun s => if s.on L.LN_ST then s.linEnd 8 else s)

/-- R462: a responder receives a header; a wrong parity or sync field ends it with no EVT.HEADER. -/
def execLinHeaderRx (id : BitVec 6) (parityOk syncOk : Bool) (s : State) : Out :=
  if !s.online 36 || !s.on R.LIN_CTRL_EN || s.rd R.LIN_CFG_ROLE == 0 then .next s
  else if !syncOk then .next (s.linEnd 5)
  else if !parityOk then .next (s.linEnd 6)
  else .next (s.wrs [(L.LN_ST, 1), (R.LIN_STAT_RX_ID, id.toNat), (R.LIN_EVT_HEADER, 1)])

/-- R461: the checksum of a frame: the inverted sum with carries, over the PID too where enhanced. -/
def linSum (enh : Bool) (id : Nat) (d : List Byte) : Nat :=
  let p0 := (bits id 0 0 + bits id 1 1 + bits id 2 2 + bits id 4 4) % 2
  let p1 := 1 - (bits id 1 1 + bits id 3 3 + bits id 4 4 + bits id 5 5) % 2
  let pid := id + 64 * p0 + 128 * p1
  let l := (if enh && id != 0x3C && id != 0x3D then [pid] else []) ++ d.map BitVec.toNat
  255 - l.foldl (fun a x => if 255 < a + x then a + x - 255 else a + x) 0

/-- R462: a response ends: one sent, read back alike or not; or one received, its octets and its checksum. -/
def execLinResponseEnd (readBack : Bool) (data : List Byte) (sum : Byte) (s : State) : Out :=
  if !s.online 36 then .next s
  else
    match s.rd L.LN_ST with
    | 2 => .next (s.linEnd (if readBack then 1 else 2))
    | 3 =>
      let n := s.rd R.LIN_FRAME_LEN
      if data.length < n then .next (s.linEnd 4)
      else
        let d := data.take n
        let id := s.rd R.LIN_STAT_RX_ID
        let keep (f : Fld) (l : List Byte) : Nat := ofLe l + s.rd f / 256 ^ l.length * 256 ^ l.length
        let s1 := s.wrs [(R.LIN_DATA_0, keep R.LIN_DATA_0 (d.take 4)), (R.LIN_DATA_1, keep R.LIN_DATA_1 (d.drop 4))]
        .next (s1.linEnd (if sum.toNat = linSum (s.on R.LIN_FRAME_ENH) id d then 1 else 3))
    | 4 => .next (s.wr L.LN_ST 0)
    | _ => .next s

/-- R462: the response window passes without a complete response. -/
def execLinResponseTimeout (s : State) : Out :=
  if s.online 36 && s.rd L.LN_ST == 3 then .next (s.linEnd 4)
  else if s.online 36 && s.rd L.LN_ST == 1 then .next (s.wr L.LN_ST 0)
  else .next s

/-! ### GPIO (R465, R497) -/

/-- R465: OUT_SET. -/
def execOutSet (m : Master) (v : Word) (s : State) : Out :=
  .next (s.write m R.GPIO_OUT_SET fun s => (s.wr R.GPIO_OUT (s.rd R.GPIO_OUT ||| v.toNat)).pinSync)

/-- R465: OUT_CLR. -/
def execOutClr (m : Master) (v : Word) (s : State) : Out :=
  .next (s.write m R.GPIO_OUT_CLR fun s => (s.wr R.GPIO_OUT (clrMask (s.rd R.GPIO_OUT) v.toNat)).pinSync)

/-- R465: the board's level on a pin changes. -/
def execGpioEdge (pin : Fin 32) (high : Bool) (s : State) : Out :=
  .next (s.wr L.GP_EXT (putBit (s.rd L.GP_EXT) pin.val high)).pinSync

/-- R497: VIO_A (0) or VIO_B (1) crosses 1.6 V. -/
def execVioRailChange (rail : Fin 2) (low : Bool) (s : State) : Out := .next (s.wr (L.VIO_LOW rail.val) (b2n low)).pinSync

/-! ### ADC (R467, R468) -/

namespace L

/-- R467: the step of the sequence that is converting; a CMD.STOP waits for its end; the FIFO, channel × 4096 plus code. -/
def AD_STEP : Fld := latch 38 0 3 .w 0
def AD_STOP : Fld := latch 38 1 1 .w 0
def AD_FIFO : Fld := latch 38 2 16 .w 0
/-- R437: the event that triggers the ADC and its level when last seen: twice its number plus the level, plus one. -/
def AD_EV : Fld := latch 38 3 8 .w 0

end L

/-- R467: a sequence starts, unless one runs. -/
def State.adcStart (s : State) : State :=
  if s.on R.ADC_STAT_BUSY then s else s.wrs [(R.ADC_STAT_BUSY, 1), (L.AD_STEP, 0), (L.AD_STOP, 0)]

/-- R467: CMD.START. -/
def execAdcStart (m : Master) (s : State) : Out :=
  .next (s.write m R.ADC_CMD_START fun s => if s.on R.ADC_SEQ_CFG_TRIG then s else s.adcStart)

/-- R467: CMD.STOP. -/
def execAdcStop (m : Master) (s : State) : Out :=
  .next (s.write m R.ADC_CMD_STOP fun s => if s.on R.ADC_STAT_BUSY then s.wr L.AD_STOP 1 else s)

/-- R467: the conversion of the present step ends with a code. -/
def execAdcConversionDone (code : BitVec 12) (s : State) : Out :=
  if !s.online 38 || !s.on R.ADC_STAT_BUSY then .next s
  else
    let st := s.rd L.AD_STEP
    let ch := bits (s.rd R.ADC_SEQ_CH) (4 * st + 3) (4 * st)
    let s1 := if 8 ≤ (s.ff L.AD_FIFO).length then s.wr R.ADC_EVT_OVF 1 else s.pushFf L.AD_FIFO (ch * 4096 + code.toNat)
    if s.on L.AD_STOP then .next (s1.wrs [(R.ADC_STAT_BUSY, 0), (L.AD_STOP, 0)])
    else if st < s.rd R.ADC_SEQ_CFG_LEN then .next (s1.wr L.AD_STEP (st + 1))
    else .next (s1.wrs [(R.ADC_EVT_SEQ_DONE, 1), (L.AD_STEP, 0), (R.ADC_STAT_BUSY, s.rd R.ADC_SEQ_CFG_CONT)])

/-- R469: what FIFO reads: the oldest result, or 0. -/
def State.adcRead (s : State) : Nat := match s.ff L.AD_FIFO with | v :: _ => v + 2 ^ 31 | [] => 0

/-- R469: a read of FIFO returns and pops the oldest result. -/
def execAdcFifoRead (m : Master) (s : State) : Out :=
  .next (s.read m R.ADC_FIFO_DATA fun s => (s.adcRead, s.popFf L.AD_FIFO))

/-! ### I2C and SPI controllers (R470, R471) -/

namespace L

/-- R470: the transmit and receive FIFOs, and the transfer in progress: reading, and octets still to move. -/
def I2_TX : Fld := latch 39 0 8 .w 0
def I2_RX : Fld := latch 39 1 8 .w 0
def I2_READ : Fld := latch 39 2 1 .w 0
def I2_LEFT : Fld := latch 39 3 8 .w 0
/-- R470: the transfer ends with a STOP; SCL is held low until the next CMD; the address of the transfer. -/
def I2_STOP : Fld := latch 39 4 1 .w 0
def I2_HELD : Fld := latch 39 5 1 .w 0
def I2_ADDR : Fld := latch 39 6 7 .w 0
/-- R471: the same for SPIM_0. -/
def SP_TX : Fld := latch 40 0 8 .w 0
def SP_RX : Fld := latch 40 1 8 .w 0
def SP_LEFT : Fld := latch 40 2 16 .w 0

end L

/-- R470: CMD with GO. -/
def execI2cGo (m : Master) (addr : BitVec 7) (read : Bool) (len : Byte) (stop : Bool) (s : State) : Out :=
  .next (s.write m R.I2C_CMD_GO fun s =>
    if s.on R.I2C_STAT_BUSY then s
    else s.wrs [(R.I2C_STAT_BUSY, 1), (L.I2_ADDR, addr.toNat), (L.I2_READ, b2n read), (L.I2_LEFT, len.toNat), (L.I2_STOP, b2n stop), (L.I2_HELD, 0)])

/-- R470: DATA written fills the TX FIFO; an octet that finds it full is lost. -/
def execI2cDataWrite (m : Master) (v : Byte) (s : State) : Out :=
  .next (s.write m R.I2C_DATA fun s => if 8 ≤ (s.ff L.I2_TX).length then s else s.pushFf L.I2_TX v.toNat)

/-- What a read of an empty RX FIFO returns is open. -/
def State.fifoRead (s : State) (f : Fld) : Nat × State :=
  match s.ff f with
  | v :: _ => (v, s.popFf f)
  | [] => (s.freeVal 8, s.freeStep)

/-- R470: DATA read empties an octet of the RX FIFO. -/
def execI2cDataRead (m : Master) (s : State) : Out := .next (s.read m R.I2C_DATA fun s => s.fifoRead L.I2_RX)

/-- R470: octets move: those read, or `n` of those to send, as far as the FIFOs and LEN allow. -/
def State.i2cMove (s : State) (data : List Byte) (n : Nat) : State :=
  let left := s.rd L.I2_LEFT
  if s.on L.I2_READ then
    let k := min (min data.length left) (8 - (s.ff L.I2_RX).length)
    (s.setFf L.I2_RX (s.ff L.I2_RX ++ (data.take k).map BitVec.toNat)).wr L.I2_LEFT (left - k)
  else
    let k := min (min n left) (s.ff L.I2_TX).length
    (s.setFf L.I2_TX ((s.ff L.I2_TX).drop k)).wr L.I2_LEFT (left - k)

/-- R470: octets of a transfer move, and it ends after the last of them, or after a NACK. -/
def execI2cDone (nack last : Bool) (data : List Byte) (n : Byte) (s : State) : Out :=
  if !s.online 39 || !s.on R.I2C_STAT_BUSY then .next s
  else
    let s1 := s.i2cMove data n.toNat
    if nack then .next (s1.wrs [(R.I2C_STAT_BUSY, 0), (L.I2_LEFT, 0), (R.I2C_EVT_NACK, 1)])
    else if last ∧ s1.rd L.I2_LEFT = 0 then .next (s1.wrs [(R.I2C_STAT_BUSY, 0), (R.I2C_EVT_DONE, 1), (L.I2_HELD, 1 - s.rd L.I2_STOP)])
    else .next s1

/-- R470: lost arbitration ends the transfer at once. -/
def execI2cArbLost (s : State) : Out :=
  if s.online 39 && s.on R.I2C_STAT_BUSY then .next (s.wrs [(R.I2C_STAT_BUSY, 0), (L.I2_LEFT, 0), (R.I2C_EVT_ARB_LOST, 1)]) else .next s

/-- R470: a target stretches SCL for more than 25 ms. -/
def execI2cStretchTimeout (s : State) : Out :=
  if s.online 39 && s.on R.I2C_STAT_BUSY then .next (s.wrs [(R.I2C_STAT_BUSY, 0), (L.I2_LEFT, 0), (R.I2C_EVT_TIMEOUT, 1)]) else .next s

/-- R471: CMD with GO. -/
def execSpimGo (m : Master) (len : BitVec 16) (s : State) : Out :=
  .next (s.write m R.SPIM_CMD_GO fun s =>
    if s.on R.SPIM_STAT_BUSY ∨ len = 0 then s else s.wrs [(R.SPIM_STAT_BUSY, 1), (L.SP_LEFT, len.toNat)])

/-- R471: DATA written. -/
def execSpimDataWrite (m : Master) (v : Byte) (s : State) : Out :=
  .next (s.write m R.SPIM_DATA fun s => if 16 ≤ (s.ff L.SP_TX).length then s else s.pushFf L.SP_TX v.toNat)

/-- R471: DATA read. -/
def execSpimDataRead (m : Master) (s : State) : Out := .next (s.read m R.SPIM_DATA fun s => s.fifoRead L.SP_RX)

/-- R471: octets exchanged, those received given: `last` tells that the exchange has ended. SCK pauses rather than
underrun or overflow, so that no more octets move than the FIFOs allow. -/
def execSpimDone (data : List Byte) (last : Bool) (s : State) : Out :=
  if !s.online 40 || !s.on R.SPIM_STAT_BUSY then .next s
  else
    let room := if s.on R.SPIM_CFG_RX_EN then 16 - (s.ff L.SP_RX).length else data.length
    let n := min (min data.length (s.rd L.SP_LEFT)) (min (s.ff L.SP_TX).length room)
    let s1 := (s.setFf L.SP_TX ((s.ff L.SP_TX).drop n)).when (s.on R.SPIM_CFG_RX_EN) fun s =>
      s.setFf L.SP_RX (s.ff L.SP_RX ++ (data.take n).map BitVec.toNat)
    let s2 := s1.wr L.SP_LEFT (s.rd L.SP_LEFT - n)
    .next (if last ∧ s2.rd L.SP_LEFT = 0 then s2.wrs [(R.SPIM_STAT_BUSY, 0), (R.SPIM_EVT_DONE, 1)] else s2)

end Sys2Proof.Machine
end

