-- ==== Sys2Proof/Machine/Power.lean ====
section
/-!
DEFINITION. Machine/Power.lean: power commands, entry, wakes, listen windows, dips, DOMAIN resets and MODE (R378 to R401,
R458): one meaning for each of their rows.
-/
namespace Sys2Proof.Machine

open Sys2Proof

/-- R379, R399: a write of PWR_CMD with GO, which only the application core makes. -/
def State.pwrCmd (s : State) (m : Master) (tgt : Nat) : Out :=
  .next ((s.write m R.SYSCTL_PWR_CMD_GO fun s => if m = .app then (s.pwrGo false tgt).2 else s).settle)

def execPwrCmdRun (m : Master) (s : State) : Out := s.pwrCmd m 0
def execPwrCmdIdle (m : Master) (s : State) : Out := s.pwrCmd m 1
def execPwrCmdSleep (m : Master) (s : State) : Out := s.pwrCmd m 2
def execPwrCmdDeep (m : Master) (s : State) : Out := s.pwrCmd m 3
def execPwrCmdOff (m : Master) (s : State) : Out := s.pwrCmd m 4

/-- R386, R388: the step in progress ends at its point, where its condition holds; an abort source that has fired ends the
entry there; past A5 the commit completes it. `wfi` tells that the application core is in WFI. -/
def execEntryStepDone (wfi : Bool) (s : State) : Out :=
  if !s.on R.SYSCTL_PWR_STAT_ENTERING then .next s
  else if s.rd L.ENT_PT = 6 then .next (s.entryCommit.settle)
  else if !s.entryReady wfi then .next s
  else
    let s1 := s.entryPoint
    .next ((if s1.on L.ENT_ABORT then s1.entryAbort false else s1).settle)

/-- R387: a write of PWR_ACK. -/
def execPwrAck (m : Master) (v : Bool) (s : State) : Out :=
  .next (s.write m R.SYSCTL_PWR_ACK_ACK fun s =>
    if m = .app ∧ v = true ∧ s.on R.SYSCTL_PWR_STAT_PENDING then s.wrs [(R.SYSCTL_PWR_STAT_PENDING, 0), (L.ENT_ACK, 1)] else s)

/-- R387, R380, R448: ACK_TMO ms after A0 the entry is refused with NO_ACK; a commanding host is told. -/
def execAckTimeout (s : State) : Out :=
  if !s.on R.SYSCTL_PWR_STAT_ENTERING ∨ s.rd L.ENT_PT ≠ 1 ∨ s.on L.ENT_ACK then .next s
  else
    let s1 := s.entryUndo.wrs [(R.SYSCTL_PWR_STAT_REFUSE, 8), (R.SYSCTL_EVT_REFUSED, 1)]
    .next (if s.on R.SYSCTL_PWR_CFG_AUTHORITY then s1 else (s1.freeStep).hostEvent 3 (s1.freeVal 32) [])

/-- R389, R391: the filtered level of the WAKE pin. -/
def execWakePinEvent (level : Bool) (s : State) : Out :=
  let old := s.on L.WAKE_PIN
  let fires := match s.rd R.SYSCTL_WAKE_CFG_WAKE_MODE with
    | 0 => level && !old
    | 1 => !level && old
    | 2 => level
    | _ => !level
  let s1 := s.wr L.WAKE_PIN (b2n level)
  .next ((if fires then s1.wakeFire 0 else s1).settle)

/-- R391, R497: a falling edge of HP_CS_N or HP_URX; the pads of a rail that is down fire nothing. -/
def execHostpWakeEdge (s : State) : Out := if s.on (L.VIO_LOW 0) then .next s else .next ((s.wakeFire 1).settle)

/-- R458: a dominant level (`pattern` false) or a pattern on a CAN line, of the kind its detector looks for. -/
def execCanWake (n : Fin 2) (pattern : Bool) (s : State) : Out :=
  if s.on (L.VIO_LOW 1) || !s.present (34 + n.val) || s.rd (L.FP_CAN_WAKE n.val) != (if pattern then 2 else 1) then .next s
  else .next ((s.wakeFire (2 + n.val)).settle)

/-- R391: a dominant pulse of 150 µs on LIN_RX. -/
def execLinWakeDetect (s : State) : Out :=
  if s.on (L.VIO_LOW 1) || !s.present 36 || !s.on L.FP_LIN_WAKE then .next s else .next ((s.wakeFire 4).settle)

/-- R392, R393: the wake in progress completes, with the HFXO qualified where it had to start. -/
def execWakeDone (s : State) : Out :=
  if s.on L.WAKING ∧ s.pwr ≠ 0 ∧ s.pwr ≠ 4 ∧ (s.pwr = 1 ∨ s.on R.HALL_CLK_STAT_HFXO_OK) then .next (s.wakeEnd.settle)
  else if s.meipWakes then .next (((s.wr R.SYSCTL_WAKE_STAT_FIRST 15).wakeEnd).settle)
  else .next s

/-- R19: 1 ms into a wake the HFXO is not there: the wake completes on the HFRC. -/
def execWakeHfxoTimeout (s : State) : Out :=
  if s.on L.WAKING ∧ (s.pwr = 2 ∨ s.pwr = 3) ∧ !s.on R.HALL_CLK_STAT_HFXO_OK then
    .next ((((s.wr R.HALL_CLK_EVT_HFXO_LOST 1).fire 0x00 0).wakeEnd).settle)
  else .next s

/-- R393, R502: the regulators of a wake from OFF are up: the OFFWAKE reset. -/
def execOffWakeCellarRestart (test : Bool) (s : State) : Out :=
  if s.on L.WAKING ∧ s.pwr = 4 then .next ((s.coldReset 10).wr L.TEST_HOLD (b2n test)) else .next s

/-- R385: the wake instant of an armed event of a radio: the domains of its listen window powered. -/
def execListenWake (r : Radio) (s : State) : Out :=
  if s.pwr ≠ 2 ∨ !(s.armed.any fun e => e.sleepOk && e.radio == r) ∨ !s.present (if r = .cirrus then 5 else 7) then .next s
  else
    let s1 := s.wrs [(R.SYSCTL_PWR_STAT_LISTEN, 1), (R.HALL_CLK_STAT_HFXO_OK, 1), (R.HALL_CLK_STAT_PLL_LOCK, 1), (R.HALL_CLK_STAT_PLL_SRC, 0)]
    let s2 := s1.each [6, 7, 8 + r.idx] fun d s => s.domUp d
    .next (s2.each [3, 4, 5 + r.idx] fun i s => s.setIsl i true)

/-- R385: nothing is due within WAKE.LEAD_US + 2 ms and both radios are idle: the window's domains return. -/
def execListenEnd (s : State) : Out :=
  let due := s.armed.any fun e => e.sleepOk && decide (e.fest ≤ s.lt + (s.rd R.MAC_WAKE_LEAD_US + 2000) * 256)
  if !s.on R.SYSCTL_PWR_STAT_LISTEN ∨ s.on L.WAKING ∨ !s.running.isEmpty ∨ due ∨ 1 < s.rst .cirrus ∨ 1 < s.rst .stratus then .next s
  else
    let s1 := s.each (List.range 5) fun q s => s.jobReset 15 q
    let s2 := (s1.each [7, 8, 9] fun d s => s.unpower d).linkDown (s1.keepLink 2)
    let s3 := (s2.ltToCarry).each [4, 5, 6] fun i s => s.setIsl i false
    .next (s3.wrs [(R.SYSCTL_PWR_STAT_LISTEN, 0), (R.HALL_CLK_STAT_HFXO_OK, 0), (R.HALL_CLK_STAT_PLL_LOCK, 0)])

/-- R395, R396: VSYS falls through the warning level. -/
def execSupplyWarn (s : State) : Out :=
  if s.on R.SYSCTL_SUPPLY_STAT_WARN || !s.domOn 1 then .next s else .next (s.dipStart.settle)

/-- R396: recovery, `us` µs after the dip began. -/
def execSupplyRecovery (us : Nat) (s : State) : Out :=
  if s.on R.SYSCTL_SUPPLY_STAT_WARN then .next ((s.dipEnd us).settle) else .next s

/-- R397, R468: a sample of VSYS during a dip, a conversion of the ADC's that is none of its sequence's. -/
def execDipSample (mv : BitVec 13) (s : State) : Out :=
  if s.on R.SYSCTL_SUPPLY_STAT_WARN && s.online 38 then
    .next ((s.sat R.ADC_STOLEN 1).wr L.DIP_MIN (if s.on L.DIP_MIN then min (s.rd L.DIP_MIN) (mv.toNat + 1) else mv.toNat + 1))
  else .next s

/-- R401: a write of DOM_RST with GO. -/
def execDomRst (m : Master) (d : BitVec 4) (s : State) : Out :=
  .next ((s.write m R.SYSCTL_DOM_RST_GO fun s =>
    if [6, 7, 8, 9, 10].contains d.toNat && s.rd L.DOM_HELD == 0 && !s.on R.SYSCTL_PWR_STAT_ENTERING && s.domOn d.toNat then s.domainReset d.toNat
    else s).settle)

/-- R401, R383: a domain held in a DOMAIN reset is released. -/
def execDomainResetRelease (d : Fin 13) (s : State) : Out :=
  if !bit (s.rd L.DOM_HELD) d.val then .next s
  else
    let s1 := (s.clrBitF L.DOM_HELD d.val).domUp d.val
    .next ((match d.val with
      | 5 => s1.attBoot
      | 12 => s1.hostReady
      | _ => s1).settle)

/-- R400, R428: a write of MODE; `rom` tells that the boot ROM makes it. -/
def execModeWrite (m : Master) (v : BitVec 2) (rom : Bool) (s : State) : Out :=
  .next (s.write m R.SYSCTL_MODE_MODE fun s => s.modeWrite v.toNat (rom && m == .app))

end Sys2Proof.Machine
end

