-- ==== Sys2Proof/Machine/Timers.lean ====
section
/-!
DEFINITION. Machine/Timers.lean: the timers, the low-power timers, the watchdogs and the event matrix (R421 to R441).
-/
namespace Sys2Proof.Machine

open Sys2Proof

/-- R422, R426: a timer's count steps into a compare. In a pair the two CMP0 halves are one compare of TIM_2k. -/
def execTimCompareMatch (t : Fin 8) (second : Bool) (s : State) : Out :=
  .next (if s.timHigh t then (if second then s.timRow (t - 1) .highCmp1 else s)
    else s.timRow t (if second then .cmp1 else .cmp0))

/-- R421, R428: a timer's count steps to 0. -/
def execTimWrap (t : Fin 8) (s : State) : Out :=
  .next (if s.timHigh t then s.timRow (t - 1) .highWrap else s.timRow t .wrap)

/-- R424, R426: an edge accepted on the capture input: every 2^PRE-th edge that EDGE selects copies the count. -/
def execTimCapture (t : Fin 8) (rising : Bool) (s : State) : Out :=
  let sel := s.rd (R.TIM_CAP_CFG_SEL t)
  let edge := s.rd (R.TIM_CAP_CFG_EDGE t)
  let there := if sel < 64 then rising && s.evLevel sel else bit (s.rd R.GPIO_IN) (sel - 64) == rising
  if s.online 25 && s.on (R.TIM_CAP_CFG_EN t) && !s.timHigh t && there && bit edge (if rising then 0 else 1) then
    let n := s.rd (L.TM_EDGE t) + 1
    if n < 2 ^ s.rd (R.TIM_CAP_CFG_PRE t) then .next (s.wr (L.TM_EDGE t) n)
    else
      let s1 := s.wrs [(L.TM_EDGE t, 0), (R.TIM_CAP t, s.rd (R.TIM_CNT t)), (R.TIM_STAT_CAP t, 1),
        (R.TIM_STAT_CAP_OVR t, s.rd (R.TIM_STAT_CAP_OVR t) ||| s.rd (R.TIM_STAT_CAP t))]
      .next (s1.when (s.timLow t) fun s1 => s1.wr (R.TIM_CAP (t + 1)) (s.pairHigh t))
  else .next s

/-- R428: in a test mode with START_EN, the pulse of event START_SEL sets CTRL.EN. -/
def execTimEventStart (t : Fin 8) (s : State) : Out :=
  .next (s.when (s.online 25 && s.on R.SYSCTL_MODE_MODE && s.on (R.TIM_CFG_START_EN t) && s.evLevel (s.rd (R.TIM_CFG_START_SEL t)))
    fun s => s.timEn t true)

/-- R429: a write of TOP; one below the present count sets TOP_MISSED. -/
def execTopWrite (m : Master) (t : Fin 8) (v : Word) (s : State) : Out :=
  .next (s.write m (R.TIM_TOP t) fun s =>
    (s.wr (R.TIM_TOP t) v.toNat).when (decide (v.toNat < s.rd (R.TIM_CNT t))) fun s => s.wr (R.TIM_STAT_TOP_MISSED t) 1)

/-- R427: a write of 1 to SNAP_CMD.GO copies the 64-bit count of pair k, a pending carry included. -/
def execTimSnap (m : Master) (k : Fin 4) (s : State) : Out :=
  .next (s.write m (R.TIM_SNAP_CMD_GO (2 * k)) fun s =>
    s.wrs [(R.TIM_SNAP_LO (2 * k), s.rd (R.TIM_CNT (2 * k))), (R.TIM_SNAP_HI (2 * k), s.pairHigh (2 * k))])

/-- R431: a low-power timer's count reaches MATCH. -/
def execLptimMatch (n : Fin 2) (s : State) : Out :=
  .next (s.when (s.lpRuns n) fun s =>
    match cntDist none (s.rd (R.LPTIM_CNT n)) (s.rd (R.LPTIM_MATCH n)) with
    | some k => s.lpMove n k
    | none => s)

/-- R431, R440: a low-power timer's count steps to 0. -/
def execLptimWrap (n : Fin 2) (s : State) : Out :=
  .next (s.when (s.lpRuns n) fun s => s.lpMove n (cntFirst none (s.rd (R.LPTIM_CNT n))))

/-- R432: the WDA count reaches TMO_T − WARN_T. -/
def execWdaWarn (s : State) : Out :=
  let at' := s.rd R.WDA_CFG_TMO_T - s.rd R.WDA_CFG2_WARN_T
  .next (s.when (s.on R.WDA_CTRL_EN && !s.wdaHeld && s.on R.WDA_CFG2_WARN_T && decide (s.rd R.WDA_CFG2_WARN_T < s.rd R.WDA_CFG_TMO_T) &&
      decide (s.rd R.WDA_STAT_COUNT < at')) fun s => s.wrs [(R.WDA_STAT_COUNT, at'), (L.WDA_WARNED, 1)])

/-- R432, R477: the WDA count reaches TMO_T, or an injection sets it there: the WDT_APP reset. -/
def execWdaTimeout (s : State) : Out :=
  let o := s.occasion 0x18
  let warns := s.on R.WDA_CFG2_WARN_T && decide (s.rd R.WDA_CFG2_WARN_T < s.rd R.WDA_CFG_TMO_T) &&
    decide (s.rd R.WDA_STAT_COUNT < s.rd R.WDA_CFG_TMO_T - s.rd R.WDA_CFG2_WARN_T) && !o.1
  if (s.on R.WDA_CTRL_EN || o.1) && !s.wdaHeld then
    .next (((o.2.when warns fun s => s.wr L.WDA_WARNED 1).wdaFire false o.1).settle)
  else .next s

/-- R433: a write of WDA_KICK by the application core: 0x6D2B restarts the count, or resets when it is below WIN_T. -/
def execWdaKick (m : Master) (v : BitVec 16) (s : State) : Out :=
  .next ((s.write m R.WDA_KICK_KEY fun s =>
    if m ≠ .app ∨ v.toNat ≠ 0x6D2B then s
    else
      let s1 := s.wr L.WDA_WARNED 0
      if s.on R.WDA_CTRL_EN ∧ s.rd R.WDA_STAT_COUNT < s.rd R.WDA_CFG_WIN_T then s1.wdaFire true false
      else s1.wr R.WDA_STAT_COUNT 0).settle)

/-- R432: the WDL count reaches TMO_T − WARN_T. -/
def execWdlWarn (s : State) : Out :=
  let at' := s.rd R.WDL_CFG_TMO_T - s.rd R.WDL_CFG2_WARN_T
  .next (s.when (s.on R.WDL_CTRL_EN && !s.wdlHeld && s.on R.WDL_CFG2_WARN_T && decide (s.rd R.WDL_CFG2_WARN_T < s.rd R.WDL_CFG_TMO_T) &&
      decide (s.rd R.WDL_STAT_COUNT < at')) fun s => s.wrs [(R.WDL_STAT_COUNT, at'), (L.WDL_WARNED, 1)])

/-- R432, R477: the WDL count reaches TMO_T, or an injection sets it there: the WDT_LINK reset. -/
def execWdlTimeout (s : State) : Out :=
  let o := s.occasion 0x19
  let warns := s.on R.WDL_CFG2_WARN_T && decide (s.rd R.WDL_CFG2_WARN_T < s.rd R.WDL_CFG_TMO_T) &&
    decide (s.rd R.WDL_STAT_COUNT < s.rd R.WDL_CFG_TMO_T - s.rd R.WDL_CFG2_WARN_T) && !o.1
  if (s.on R.WDL_CTRL_EN || o.1) && !s.wdlHeld then
    .next (((o.2.when warns fun s => s.wr L.WDL_WARNED 1).wdlFire false o.1).settle)
  else .next s

/-- R433: a link-core write of CSR 0x7C0, which only a running core makes. -/
def execWdlKick (v : Word) (s : State) : Out :=
  if v.toNat ≠ 0x6D2B ∨ s.rd R.LINK_STAT_CORES ≠ 1 ∨ !s.online 10 then .next s
  else
    let s1 := s.wr L.WDL_WARNED 0
    if s.on R.WDL_CTRL_EN ∧ s.rd R.WDL_STAT_COUNT < s.rd R.WDL_CFG_WIN_T then .next ((s1.wdlFire true false).settle)
    else .next (s1.wr R.WDL_STAT_COUNT 0)

/-- R439: a write of EVM_SW. -/
def execEvmSwWrite (m : Master) (v : BitVec 4) (s : State) : Out :=
  .next (s.write m R.EVM_SW fun s => s.wr R.EVM_SW v.toNat)

/-- R430: the debug module halts the application core, and lets it go; above protection level 0 a halt request is
refused (R346). -/
def execDebugHalt (s : State) : Out :=
  .next (s.when (s.domOn 5 && s.rd R.FLASHC_RDP_LEVEL == 0) fun s => s.wr L.DBG_HALT 1)

def execDebugResume (s : State) : Out := .next (s.wr L.DBG_HALT 0)

end Sys2Proof.Machine
end

