-- ==== Sys2Proof/Machine/BusCmd.lean ====
section
/-!
DEFINITION. Machine/BusCmd.lean: the registers whose write or read is a command with a row of its own: what a bus
access to one of them does is that row's meaning, its operands taken from the value written.
-/
namespace Sys2Proof.Machine

open Sys2Proof

/-- A command where a write sets the bit that triggers it. -/
def onBit (v i : Nat) (f : State → Out) : Option (State → Out) := if bit v i then some f else none

/-- SYSCTL (R399), FLOOR (R64), FAULT (R493), HALL (R43), DMA (R45). -/
def sysCommand (m : Master) (b off v : Nat) : Option (State → Out) :=
  match b, off with
  | 0, 0x08 => some (execModeWrite m (BitVec.ofNat 2 v) false)
  | 0, 0x10 => onBit v 31 fun s => s.pwrCmd m (v % 8)
  | 0, 0x18 => some (execPwrAck m (bit v 0))
  | 0, 0x3C => some (execSysRstKey m (BitVec.ofNat 16 v))
  | 0, 0x5C => onBit v 31 (execDomRst m (BitVec.ofNat 4 v))
  | 1, 0x04 => onBit v 0 (execReload m)
  | 2, 0x08 => some (execInjKey m (BitVec.ofNat 12 v))
  | 2, 0x10 => some (execInjMode m (BitVec.ofNat 2 v))
  | 2, 0x28 => onBit v 31 (execFaultLogClear m)
  | 2, _ => if 0x100 ≤ off ∧ off < 0x200 ∧ off % 16 = 0 then onBit v 31 (execInflightClear m (Fin.ofNat 16 ((off - 0x100) / 16))) else none
  | 3, 0x0C => onBit v 0 (execReturnHfxo m)
  | 3, 0x20 => onBit v 0 (execLtSnap m)
  | 3, 0x30 => onBit v 31 (execStallLogClear m)
  | 4, _ =>
    if 0x100 ≤ off ∧ off < 0x300 ∧ off % 0x20 = 0x0C then
      let ch := Fin.ofNat 16 ((off - 0x100) / 0x20)
      some (if bit v 0 then execDmaChannelStart m ch (BitVec.ofNat 32 v) else execDmaChannelStop m ch (BitVec.ofNat 32 v))
    else none
  | _, _ => none

/-- The front ends (R80, R102) and the modems (R137, R140). -/
def radioCommand (m : Master) (b off v : Nat) : Option (State → Out) :=
  let r := if b ≤ 6 then Radio.cirrus else Radio.stratus
  match b % 2, off with
  | 1, 0x00 => some (execDirectWrite m r (BitVec.ofNat 32 v))
  | 1, 0x04 =>
    match v % 8 with
    | 0 => some (execRadioNop (.bus m) r)
    | 1 => some (execRadioIdle (.bus m) r)
    | 2 => some (execRadioRx (.bus m) r)
    | 3 => some (execRadioTx (.bus m) r)
    | 4 => some (execRadioCal (.bus m) r)
    | 5 => some (execRadioAbort (.bus m) r)
    | 6 => some (execRadioOff (.bus m) r)
    | _ => none
  | 0, 0xA0 => some (execTxfifoWrite m r (BitVec.ofNat 32 v))
  | _, _ => none

/-- LINK (R179), CTX (R181), MAC (R213). -/
def linkCommand (m : Master) (b off v : Nat) : Option (State → Out) :=
  match b, off with
  | 10, 0x0C => onBit v 0 (execLsRelease m)
  | 10, 0x20 => onBit v 0 (execEvqPop m)
  | 10, 0x30 => onBit v 0 (execMcSwap m)
  | 10, 0x3C => some (execMcYield m)
  | 10, 0x90 => onBit v 31 (execVlatClear m)
  | 10, 0xD0 => onBit v 0 fun s => if s.on R.LINK_APPCMD_STAT_BUSY then .next (s.write m R.LINK_APPCMD_GO id) else execAppcmdGo m s
  | 10, 0xD8 => some (execAppcmdDone m (BitVec.ofNat 8 v))
  | 10, 0xF0 => onBit v 0 (execMcPostGo m)
  | 11, 0x20 => some (execCtxAlloc m (BitVec.ofNat 3 v))
  | 11, 0x28 => onBit v 31 (execCtxFree m (BitVec.ofNat 8 v))
  | 11, 0x80 => onBit v 31 (execCtxSnap m (BitVec.ofNat 8 v) [])
  | 12, 0x24 => onBit v 0 (execArmGo m)
  | 12, 0x2C => onBit v 31 (execCancel m (BitVec.ofNat 4 v))
  | 12, 0x64 => some (execFtOfsHiWrite m (BitVec.ofNat 32 v))
  | _, _ => none

/-- CIPHER (R242), KEYS (R244), ARB (R269), PBM (R270), CHK (R279). -/
def cipherCommand (m : Master) (b off v : Nat) : Option (State → Out) :=
  match b, off with
  | 13, 0x14 =>
    match v % 4 with
    | 1 => some (execLockAcquire m (BitVec.ofNat 3 (v / 16)))
    | 2 => some (execLockRelease m (BitVec.ofNat 3 (v / 16)))
    | 3 => some (execLockForce m (BitVec.ofNat 3 (v / 16)))
    | _ => none
  | 13, 0x18 => some (execSwkeyWrite m 8 (BitVec.ofNat 32 (v % 2)))
  | 13, _ =>
    if 0x20 ≤ off ∧ off < 0x40 ∧ off % 4 = 0 then some (execSwkeyWrite m (Fin.ofNat 9 ((off - 0x20) / 4)) (BitVec.ofNat 32 v))
    else if 0x104 ≤ off ∧ off < 0x1A4 ∧ off % 0x20 = 4 then
      let q := Fin.ofNat 5 ((off - 0x100) / 0x20)
      if bit v 1 then some (execJobAbort m q) else onBit v 0 (execJobGo m q)
    else none
  | 14, 0x50 => some (execKeyseqWrite m (BitVec.ofNat 16 v))
  | 14, 0x54 => onBit v 31 (execKeyRevoke m (Fin.ofNat 16 v))
  | 14, 0x60 => onBit v 31 (execKeyProvision m (Fin.ofNat 16 v) (bit v 4) (BitVec.ofNat 5 (v / 32)))
  | 14, 0xA0 =>
    match bits v 9 8 with
    | 1 => some (execIvRead m (BitVec.ofNat 8 v))
    | 2 => some (execIvWrite m (BitVec.ofNat 8 v))
    | _ => none
  | 15, 0x3C => onBit v 31 (execHintCmd m (BitVec.ofNat 3 v) (bit v 4))
  | 15, _ =>
    if 0x10 ≤ off ∧ off < 0x24 ∧ off % 4 = 0 then
      some (execTktWrite m (Fin.ofNat 5 ((off - 0x10) / 4)) (BitVec.ofNat 8 v) (BitVec.ofNat 7 (v / 256)))
    else none
  | 16, 0x10 | 16, 0x18 =>
    if (off = 0x18) != (m == .link) then none
    else
      match v % 4 with
      | 1 => some (execBufAlloc m ⟨BitVec.ofNat 4 (v / 16), BitVec.ofNat 4 (v / 256)⟩ (BitVec.ofNat 5 (v / 4096)))
      | 2 => some (execBufXfer m (BitVec.ofNat 4 (v / 16)) (BitVec.ofNat 4 (v / 256)) (BitVec.ofNat 11 (v / 2 ^ 21)))
      | _ => some (execBufMalformed m v)
  | 16, 0x24 | 16, 0x2C => if (off = 0x2C) != (m == .link) then none else some (execDescWrite m (BitVec.ofNat 32 v))
  | 17, _ =>
    let n := Fin.ofNat 4 ((off - 0x100) / 0x40)
    let w := BitVec.ofNat 32 v
    if off < 0x100 ∨ 0x200 ≤ off then none
    else
      match off % 0x40 with
      | 0x00 => some (execChkUseWrite m n w)
      | 0x04 => onBit v 0 (execChkStart m n)
      | 0x10 => some (execDinW m n w)
      | 0x14 => some (execDinH m n w)
      | 0x18 => some (execDinB m n w)
      | 0x1C => some (execChkRunWrite m n w)
      | 0x24 => some (execChkCountWrite m n w)
      | _ => none
  | _, _ => none

/-- NFCR (R325), PORCH (R327), FLASHC (R349), ATTIC (R375), CAL (R419). -/
def storeCommand (m : Master) (b off v : Nat) : Option (State → Out) :=
  match b, off with
  | 18, 0x04 =>
    match v % 8 with
    | 1 => some (execFieldOn m)
    | 2 => some (execFieldOff m)
    | 3 => some (execInventory m)
    | 4 => some (execTransceive m)
    | 5 => some (execNfcAbort m)
    | _ => none
  | 19, 0x10 =>
    if !bit v 31 then none
    else
      match v % 4 with
      | 1 => some (execHcmdRead m (BitVec.ofNat 8 (v / 256)) (BitVec.ofNat 5 (v / 65536)))
      | 2 => some (execHcmdWrite m (BitVec.ofNat 8 (v / 256)) (BitVec.ofNat 5 (v / 65536)))
      | _ => none
  | 19, 0x2C => onBit v 31 (execKeyCmd m (BitVec.ofNat 2 v) (BitVec.ofNat 4 (v / 256)))
  | 20, 0x04 => some (execFlashKey m (BitVec.ofNat 16 v))
  | 20, 0x3C => onBit v 31 (execPgmPulsesClear m)
  | 20, 0x40 => onBit v 31 (execErsPulsesClear m)
  | 21, 0x10 =>
    match v % 16 with
    | 3 => some (execCopy m)
    | 4 => some (execPfwWrite m)
    | 5 => some (execPfwSelect m)
    | 6 => some (execSetLock m)
    | 7 => some (execClearLock m)
    | _ => none
  | 22, 0x1C => onBit v 0 (execCalCommit m)
  | 22, 0x24 => onBit v 0 (execCalCapture m)
  | 22, 0x70 => some (execTrimWrite m (BitVec.ofNat 13 v))
  | _, _ => none

/-- TIM and EVM (R438, R439), HOSTP (R452), CANFD (R460), LIN (R463), GPIO (R466), ADC (R469), I2C (R472), SPIM (R473). -/
def portCommand (m : Master) (b off v : Nat) : Option (State → Out) :=
  if 25 ≤ b ∧ b ≤ 32 then
    let t := Fin.ofNat 8 (b - 25)
    match off with
    | 0x18 => some (execTopWrite m t (BitVec.ofNat 32 v))
    | 0x28 => if b % 2 = 1 then onBit v 0 (execTimSnap m (Fin.ofNat 4 ((b - 25) / 2))) else none
    | 0x814 => if b = 25 then some (execEvmSwWrite m (BitVec.ofNat 4 v)) else none
    | 0xC0C => if b = 25 then some (execWdaKick m (BitVec.ofNat 16 v)) else none
    | _ => none
  else
    match b, off with
    | 33, 0x2C => onBit v 0 (execRspGo m)
    | 33, 0x38 => onBit v 0 (execPostGo m)
    | 34, 0x00 | 35, 0x00 => some (execCanInitWrite m (Fin.ofNat 2 (b - 34)) (BitVec.ofNat 32 v))
    | 34, 0x14 | 35, 0x14 => some (execTxReqWrite m (Fin.ofNat 2 (b - 34)) (BitVec.ofNat 16 v) false)
    | 34, 0x18 | 35, 0x18 => some (execTxCancel m (Fin.ofNat 2 (b - 34)) (BitVec.ofNat 16 v))
    | 34, 0x24 | 35, 0x24 => onBit v 0 (execRxPop m (Fin.ofNat 2 (b - 34)))
    | 36, 0x0C =>
      match v % 8 with
      | 1 => some (execHeaderPub m)
      | 2 => some (execHeaderSub m)
      | 3 => some (execPublish m false)
      | 4 => some (execSubscribe m)
      | 5 => some (execLinWake m)
      | 6 => some (execLinAbort m)
      | _ => none
    | 37, 0x0C => some (execOutSet m (BitVec.ofNat 32 v))
    | 37, 0x10 => some (execOutClr m (BitVec.ofNat 32 v))
    | 38, 0x0C => if bit v 1 then some (execAdcStop m) else onBit v 0 (execAdcStart m)
    | 39, 0x08 => onBit v 31 (execI2cGo m (BitVec.ofNat 7 v) (bit v 7) (BitVec.ofNat 8 (v / 256)) (bit v 16))
    | 39, 0x0C => some (execI2cDataWrite m (BitVec.ofNat 8 v))
    | 40, 0x08 => onBit v 31 (execSpimGo m (BitVec.ofNat 16 v))
    | 40, 0x0C => some (execSpimDataWrite m (BitVec.ofNat 8 v))
    | _, _ => none

/-- The command that a write of v to a register is, where that register is a command's. -/
def busCommand (m : Master) (b off v : Nat) : Option (State → Out) :=
  if b ≤ 4 then sysCommand m b off v
  else if 5 ≤ b ∧ b ≤ 8 then radioCommand m b off v
  else if 10 ≤ b ∧ b ≤ 12 then linkCommand m b off v
  else if 13 ≤ b ∧ b ≤ 17 then cipherCommand m b off v
  else if 18 ≤ b ∧ b ≤ 22 then storeCommand m b off v
  else if 25 ≤ b then portCommand m b off v
  else none

/-- The command that a read of a register is, where reading it changes the state. -/
def busReadCommand (m : Master) (b off : Nat) : Option (State → Out) :=
  match b, off with
  | 6, 0x40 => some (execLastStatRead m .cirrus)
  | 8, 0x40 => some (execLastStatRead m .stratus)
  | 6, 0xA4 => some (execRxfifoRead m .cirrus)
  | 8, 0xA4 => some (execRxfifoRead m .stratus)
  | 38, _ => if off = R.ADC_FIFO_DATA.off then some (execAdcFifoRead m) else none
  | 39, 0x0C => some (execI2cDataRead m)
  | 40, 0x0C => some (execSpimDataRead m)
  | _, _ => none

end Sys2Proof.Machine
end

