-- ==== Sys2Proof/Machine/BusOps.lean ====
section
/-!
DEFINITION. Machine/BusOps.lean: a bus access of a master to any address (R4 to R8, R37 to R42, R258, R511, R512):
memories, register fields that no command of their own covers, and what a register's read returns.
-/
namespace Sys2Proof.Machine

open Sys2Proof

/-! ### The register tables -/

/-- The table of a block's registers. -/
def blkRows (b : Nat) : List Row :=
  match b with
  | 0 => R.rowsSYSCTL | 1 => R.rowsFLOOR | 2 => R.rowsFAULT | 3 => R.rowsHALL | 4 => R.rowsDMA
  | 5 => R.rowsCIRRUSFE | 6 => R.rowsCIRRUSMDM | 7 => R.rowsSTRATUSFE | 8 => R.rowsSTRATUSMDM | 9 => R.rowsFEMCTL
  | 10 => R.rowsLINK | 11 => R.rowsCTX | 12 => R.rowsMAC | 13 => R.rowsCIPHER | 14 => R.rowsKEYS | 15 => R.rowsARB
  | 16 => R.rowsPBM | 17 => R.rowsCHK | 18 => R.rowsNFCR | 19 => R.rowsPORCH | 20 => R.rowsFLASHC | 21 => R.rowsATTIC
  | 22 => R.rowsCAL | 23 => R.rowsLPTIM 0 | 24 => R.rowsLPTIM 1
  | 33 => R.rowsHOSTP | 34 => R.rowsCAN 0 | 35 => R.rowsCAN 1 | 36 => R.rowsLIN | 37 => R.rowsGPIO | 38 => R.rowsADC
  | 39 => R.rowsI2C | 40 => R.rowsSPIM
  | _ =>
    if 25 ≤ b ∧ b ≤ 32 then
      R.rowsTIM (b - 25) ++ (if b % 2 = 1 then R.rowsTIMEVEN (b - 25) else []) ++ (if b = 25 then R.rowsEVM else [])
    else []

/-- R8: a block's LOCK bit. -/
def State.blkLocked (s : State) (b : Nat) : Bool :=
  s.on ⟨b, 0, 31, 1, .w1s, if b = 23 ∨ b = 24 then .c else .w, 0, .any, .any⟩

/-- A write of every field of a register by its access code. -/
def State.plainWrite (s : State) (m : Master) (b off v : Nat) : State := s.tabWrite m (s.blkLocked b) (blkRows b) off v

/-- A write of those fields of a register that a test picks. -/
def State.partWrite (s : State) (m : Master) (b off v : Nat) (p : Fld → Bool) : State :=
  s.each ((fldsAt (blkRows b) off).filter p) fun f s => s.fldWrite m (s.blkLocked b) v f

/-- A log cleared by a write of 1 to its VALID bit: every field of its registers reads 0. -/
def State.logClear (s : State) (b v : Nat) (offs : List Nat) : State :=
  s.when (bit v 31) fun s => s.each offs fun o s => s.each (fldsAt (blkRows b) o) fun f s => s.wr f 0

/-! ### Registers with rules of their own -/

/-- R80, R110: the registers of a radio that only the link cores write outside direct mode. -/
def State.radioWrite (s : State) (m : Master) (b off v : Nat) : State :=
  let r := if b ≤ 6 then Radio.cirrus else Radio.stratus
  let free := m == .link || s.on (R.FE_CTRL_DIRECT r)
  if b % 2 = 1 then
    if off = 0x20 ∨ off = 0x24 then (if free && s.rd (R.FE_STAT_STATE r) != 2 then s.plainWrite m b off v else s)
    else if 0x0C ≤ off ∧ off < 0x20 then (if free then s.plainWrite m b off v else s)
    else s.plainWrite m b off v
  else if 0x04 ≤ off ∧ off < 0x30 then (if free then s.plainWrite m b off v else s)
  else if off = 0x3C then (s.plainWrite m b off v).when (bit v 31) fun s => s.mdmFlush r
  else s.plainWrite m b off v

/-- R245: PROG_DATA keeps a complete sequence; any other write to KEYS discards it. DESIGN CHOICE: one to an offset that holds no
register, which R5 ignores, too. -/
def State.keysWrite (s : State) (m : Master) (off v : Nat) : State :=
  if 0x64 ≤ off ∧ off < 0x84 ∧ off % 4 = 0 then
    let s1 := s.when (s.rd L.KEYSEQ != 2) fun s => s.wr L.KEYSEQ 0
    if m = .app then s1.wr (R.KEYS_PROG_DATA ((off - 0x64) / 4)) v else s1
  else (s.plainWrite m 14 off v).wr L.KEYSEQ 0

/-- R477, R493: a write of REACT_k: each detector takes the value only where R477 allows it. -/
def State.reactWrite (s : State) (k v : Nat) : State :=
  let old := s.rd (R.FAULT_REACT k)
  let new := (List.range 8).foldl (fun a j =>
    let x := bits v (4 * j + 1) (4 * j)
    a + (if (reactAllowed (8 * k + j)).contains x then x else old / 16 ^ j % 4) * 16 ^ j) 0
  if s.on R.FAULT_CTRL_LOCK then s else s.wr (R.FAULT_REACT k) new

/-- R6, R407, R410, R412, R419: CAL. -/
def State.calWrite (s : State) (m : Master) (off v : Nat) : State :=
  match off with
  | 0x04 => (s.partWrite m 22 off v fun f => f.lsb != 0).when (bit v 0) State.osfClear
  | 0x14 => if s.on R.CAL_COMMIT_STAT_BUSY then s else s.plainWrite m 22 off (timeBits v)
  | 0x18 => if s.on R.CAL_COMMIT_STAT_BUSY then s else s.plainWrite m 22 off (dateBits v)
  | 0x40 => if s.alarmOn 0 then s else s.plainWrite m 22 off (timeBits v)
  | 0x44 => if s.alarmOn 0 then s else s.plainWrite m 22 off (dateBits v)
  | 0x50 => if s.alarmOn 1 then s else s.plainWrite m 22 off (timeBits v)
  | 0x54 => if s.alarmOn 1 then s else s.plainWrite m 22 off (dateBits v)
  | 0x60 =>
    (s.each ([0, 1].filter fun n => bit v n) fun n s => s.alarmArm n).wr R.CAL_ALARM_STAT_ARMED
      (clrMask ((s.each ([0, 1].filter fun n => bit v n) fun n s => s.alarmArm n).rd R.CAL_ALARM_STAT_ARMED) (bits v 9 8))
  | _ => s.plainWrite m 22 off v

/-- R424, R428, R432, R438, R439: a timer, the event matrix and the watchdogs. -/
def State.timWrite (s : State) (m : Master) (t off v : Nat) : State :=
  match off with
  | 0x00 => (s.partWrite m (25 + t) off v fun f => f.lsb != 0).timEn t (bit v 0)
  | 0x04 => s.partWrite m (25 + t) off v fun f => f.lsb < 12 || 14 < f.lsb || s.on R.SYSCTL_MODE_MODE
  | 0x0C => if s.on (R.TIM_CTRL_EN (s.timLead t)) then s else s.plainWrite m (25 + t) off v
  | 0x1C => (s.plainWrite m (25 + t) off v).when (bit v 24 && !s.on (R.TIM_CAP_CFG_EN t)) fun s => s.wr (L.TM_EDGE t) 0
  | 0xC00 | 0xC04 => if s.on R.WDA_CTRL_EN then s else s.plainWrite m (25 + t) off v
  | 0xC20 | 0xC24 => if s.on R.WDL_CTRL_EN then s else s.plainWrite m (25 + t) off v
  | _ => s.plainWrite m (25 + t) off v

/-- R454, R455, R460: a CAN controller: bit timing only while INIT is 1, NBT.SJW at most TSEG2, no write to a pending
buffer's message RAM. -/
def State.canWrite (s : State) (m : Master) (t off v : Nat) : State :=
  if off = 0x04 ∨ off = 0x08 then
    (if s.on (R.CAN_CTRL_INIT t) then s.partWrite m (34 + t) off v fun f => !(off == 0x04 && f.lsb == 24 && decide (bits v 22 16 < bits v 30 24)) else s)
  else if 0x400 ≤ off ∧ off < 0x880 ∧ bit (s.rd (R.CAN_TX_REQ t)) ((off - 0x400) / 0x48) then s
  else s.plainWrite m (34 + t) off v

/-- A write of value v to a register, by block. -/
def State.regWrite (s : State) (m : Master) (b off v : Nat) : State :=
  match b with
  | 0 => if off = 0x48 then s.logClear 0 v [0x48, 0x4C] else s.plainWrite m b off v
  | 2 =>
    if 0x40 ≤ off ∧ off < 0x60 ∧ off % 4 = 0 then s.injForget.reactWrite ((off - 0x40) / 4) v else s.injForget.plainWrite m b off v
  | 4 =>
    if 0x100 ≤ off ∧ off < 0x300 ∧ s.on (R.DMA_CH_STAT_BUSY ((off - 0x100) / 0x20)) then s
    else s.plainWrite m b off v
  | 5 | 6 | 7 | 8 => s.radioWrite m b off v
  | 9 => if off = 0x04 then ((s.plainWrite m b off v).rxPins .cirrus).rxPins .stratus else s.plainWrite m b off v
  | 10 => if 0xC0 ≤ off ∧ off < 0xD0 ∧ s.on R.LINK_APPCMD_STAT_BUSY then s else s.plainWrite m b off v
  | 11 => if off = 0x34 then s.logClear 11 v [0x34] else s.plainWrite m b off v
  | 12 => if off = 0x60 then (if m = .link then s.wr L.FT_LO v else s) else s.plainWrite m b off v
  | 13 =>
    if off = 0x58 then s.logClear 13 v [0x58]
    else if 0x100 ≤ off ∧ off < 0x1A0 ∧ !chanMaster m ((off - 0x100) / 0x20) then s
    else s.plainWrite m b off v
  | 14 => s.keysWrite m off v
  | 16 =>
    if off = 0xD0 then s.logClear 16 v [0xD0, 0xD4]
    else if off = 0x20 ∧ m = .link then s
    else s.plainWrite m b off v
  | 18 =>
    if s.rd R.NFCR_STAT_STATE = 4 ∧ 0x10 ≤ off then s.pushFf L.NF_WPEND (off * 2 ^ 32 + v) else s.plainWrite m b off v
  | 19 =>
    if 0x400 ≤ off ∧ s.rd L.PH_ST = 1 then s
    else if 0x60 ≤ off ∧ off < 0x70 ∧ off % 4 = 0 then s.wr (R.PORCH_KEYBUF ((off - 0x60) / 4)) v
    else s.plainWrite m b off v
  | 20 =>
    if off = 0x08 then s.flCmd m (v % 8)
    else if off = 0x0C then s.flAddr m v
    else if 0x10 ≤ off ∧ off < 0x20 ∧ off % 4 = 0 then s.flData m ((off - 0x10) / 4) v false
    else if off = 0x38 then s.flOther.logClear 20 v [0x34, 0x38]
    else s.flOther.plainWrite m b off v
  | 22 => s.calWrite m off v
  | 23 | 24 => if off = 0x08 ∧ s.on (R.LPTIM_CTRL_EN (b - 23)) then s else s.plainWrite m b off v
  | 33 => if off = 0x20 ∧ 5 < v % 8 then s else s.plainWrite m b off v
  | 34 | 35 => s.canWrite m (b - 34) off v
  | 38 => if off = 0x08 ∧ (List.range 8).any (fun i => v / 16 ^ i % 16 == 15) then s else s.plainWrite m b off v
  | 37 => if off = 0x04 ∨ off = 0x08 then (s.plainWrite m b off v).pinSync else s.plainWrite m b off v
  | _ => if 25 ≤ b ∧ b ≤ 32 then s.timWrite m (b - 25) off v else s.plainWrite m b off v

/-! ### What a register reads -/

/-- A descriptor as DESC reads it, and the fields that show present state, with their lowest bits. -/
def State.liveFields (s : State) (b off : Nat) : List (Nat × Nat) :=
  let head (i : Nat) : Nat := match s.evq with | [] => 0 | e :: _ => [e.w0, e.w1, e.w2, e.w3].getD i 0
  let armed (r : Radio) : Nat := (s.armed.filter fun e => e.radio == r).length
  match b, off with
  | 10, 0x04 => [(8, armed .cirrus), (12, armed .stratus)]
  | 10, 0x10 => [(0, head 0)] | 10, 0x14 => [(0, head 1)] | 10, 0x18 => [(0, head 2)] | 10, 0x1C => [(0, head 3)]
  | 10, 0x24 => [(0, s.evq.length)]
  | 11, 0x14 => [(0, s.typeUse 1), (16, s.typeUse 2)]
  | 11, 0x18 => [(0, s.typeUse 5), (16, s.typeUse 3)]
  | 11, 0x1C => [(0, s.typeUse 4)]
  | 11, _ =>
    if 0x60 ≤ off ∧ off < 0x80 ∧ off % 4 = 0 then
      [(0, (List.range 32).foldl (fun a k => a + (if s.ctxState ((off - 0x60) / 4 * 32 + k) = 0 then 0 else 2 ^ k)) 0)]
    else []
  | 12, 0x78 => [(0, min s.ftAge (2 ^ 32 - 1))]
  | 12, _ =>
    if 0x100 ≤ off ∧ off < 0x200 then
      let n := (off - 0x100) / 0x20
      match off % 0x20 with
      | 0x08 => [(31, b2n (s.dutyFull n))]
      | 0x10 => [(0, s.dutyEarned n)] | 0x14 => [(0, s.dutySpent n)] | 0x18 => [(0, ux 32 (s.dutyAvail n))] | _ => []
    else []
  | 14, 0x08 =>
    let eff (p : Nat → Bool) : Nat := (List.range 16).foldl (fun a k => a + (if s.rd (R.KEYS_SLOT_STATE k) = 1 ∧ p k then 2 ^ k else 0)) 0
    [(0, eff fun k => bit (s.rd (R.KEYS_SLOT_POLICY k)) 0 && bit (s.rd R.KEYS_FP_SLOTS_LINK) k), (16, eff fun k => bit (s.rd R.KEYS_FP_SLOTS_SW) k)]
  | 16, 0x1C => [(0, s.rd L.L_RESULT), (3, s.rd L.L_BUSY), (4, s.rd L.L_COUNT), (16, s.rd L.L_HEAD)]
  | 16, 0x24 => [(0, s.desc (s.rd R.PBM_A_DESC_SEL_INDEX))]
  | 16, 0x2C => [(0, s.desc (s.rd R.PBM_L_DESC_SEL_INDEX))]
  | 17, _ =>
    let n := (off - 0x100) / 0x40
    if off < 0x100 ∨ 0x200 ≤ off then []
    else match off % 0x40 with
      | 0x20 => [(0, s.chkResult n)] | 0x2C => [(0, b2n (s.chkMatch n))] | _ => []
  | 18, 0x08 => [(4, b2n (s.on L.EXT_LVL && !s.on L.NF_ON))]
  | 19, 0x08 => [(0, b2n (s.on R.PORCH_STAT_FIELD) + 2 * b2n (s.domOn 2)), (5, b2n s.porchGate)]
  | 19, 0x14 => [(0, b2n (s.rd L.PH_ST == 1)), (1, b2n (s.rd L.PH_ST == 2))]
  | 21, 0x08 => [(8, s.atReasons)]
  | 25, 0x808 => [(0, (List.range 32).foldl (fun a k => a + b2n (s.evLevel k) * 2 ^ k) 0)]
  | 25, 0x80C => [(0, (List.range 32).foldl (fun a k => a + b2n (s.evLevel (32 + k)) * 2 ^ k) 0)]
  | 33, 0x0C => [(0, s.htx.length), (8, s.rd L.H_NMSG)]
  | 34, 0x20 | 35, 0x20 => [(0, s.rd (L.CN_LVL (b - 34))), (8, s.rd (L.CN_GET (b - 34)))]
  | 38, 0x14 => [(8, (s.ff L.AD_FIFO).length)]
  | 39, 0x10 => [(8, (s.ff L.I2_TX).length), (16, (s.ff L.I2_RX).length)]
  | 40, 0x10 => [(8, (s.ff L.SP_TX).length), (16, (s.ff L.SP_RX).length)]
  | _, _ => []

/-- R5 to R7: what a read of an offset of a block returns, where the read changes nothing. -/
def State.regRead (s : State) (b off : Nat) : Nat :=
  let l := s.liveFields b off
  let stored := (fldsAt (blkRows b) off).filter fun f => f.acc != .wo && !(l.any fun p => p.1 == f.lsb)
  l.foldl (fun a p => a + p.2 * 2 ^ p.1) (stored.foldl (fun a f => a + s.rd f * 2 ^ f.lsb) 0)

/-! ### Memories -/

/-- R175: an address lies in the active bank of link memory. -/
def State.bankActive (s : State) (a : Nat) : Bool := s.rd R.LINK_MC_STAT_ACTIVE == (a - 0x20140000) / 0x10000 + 1

/-- R232: the cipher channels that reach application SRAM and flash. -/
def State.chanMem (s : State) (m : Master) : Bool := (m == .cipher 0 && s.chRun 0) || (m == .cipher 2 && s.chRun 2)

/-- R42, R175, R258, R346: whether a master may read or write an address of a memory region. -/
def State.memReach (s : State) (m : Master) (r : Region) (a : Nat) (write : Bool) : Bool :=
  let owner := s.owner ((a - 0x20100000) / 128)
  let held := m == .debug && s.rd R.FLASHC_RDP_LEVEL != 0
  match r with
  | .rom => !write && !held && (m == .app || m == .dma || m == .debug)
  | .flash => !write && !held && (m == .app || m == .dma || m == .debug || s.chanMem m)
  | .sram => !held && (m == .app || m == .dma || m == .debug || s.chanMem m)
  | .pbm =>
    match m with
    | .app | .dma => owner == ownApp
    | .host => owner == ownHost
    | .link => true
    | .debug => !held && (!write || [ownFree, ownQuar].contains owner)
    | .cipher q => s.chRun q.val && chanOwner q.val owner
    | .nfc => owner == ownNfc
  | .linkMem =>
    match m with
    | .app | .dma => !s.bankActive a
    | .debug => !held && !(write && s.bankActive a)
    | .link => !write
    | _ => false
  | .ctxWin => if write then m == .link else !held && (m == .app || m == .dma || m == .debug || m == .link)
  | .plic => m == .app || (m == .debug && s.rd R.FLASHC_RDP_LEVEL != 2)
  | _ => false

/-- R258, R177: a write that a memory takes without effect: link cores' or debug's to a FREE or QUARANTINE buffer, one
to a bank being checked. -/
def State.memDrops (s : State) (m : Master) (r : Region) (a : Nat) : Bool :=
  match r with
  | .pbm => (m == .link || m == .debug) && [ownFree, ownQuar].contains (s.owner ((a - 0x20100000) / 128))
  | .linkMem => s.on R.LINK_STAT_CHECKING && s.rd L.MC_TGT == (a - 0x20140000) / 0x10000
  | _ => false

/-- What a write does at a memory region. -/
def State.memWrite (s : State) (m : Master) (r : Region) (a n v : Nat) : State :=
  if s.memDrops m r a then s
  else match r with
    | .plic => if n = 4 then s.plWrite (a - 0x0C000000) v else s
    | .ctxWin => if n = 4 then s.ctxStore a v else s
    | .sram =>
      match m with
      | .app => (s.dcStore a n v).wrLe a n v
      | .dma | .debug => (s.dcDrop a).wrLe a n v
      | _ => s.wrLe a n v
    | _ => s.wrLe a n v

/-- What a read returns at a memory region, and its effect. -/
def State.memRead (s : State) (m : Master) (r : Region) (a n : Nat) : Nat × State :=
  match r with
  | .plic => s.plRead (a - 0x0C000000)
  | .sram => if m = .app then s.dcLoad a n else (s.rdLe a n, s)
  | .pbm => (if s.memDrops m r a then 0 else s.rdLe a n, s)
  | _ => (s.rdLe a n, s)

/-- R161, R162: a window read of a context: the data, corrected, or an error response for an uncorrectable word. DESIGN CHOICE: it meets
the soft errors that stand and those of an injection; the rows of the snapshot, the scrubber and the verdict bring new ones. -/
def State.ctxWinRead (s : State) (a n : Nat) : State :=
  let r := s.ctxReadWords ((a - 0x20160000) / 128) [a % 128 / 8] []
  let t := r.1.when r.2 State.cancelFaulted
  if r.2 then t.err else t.answer (t.rdLe a n)

/-- A memory access that R32 and R42 allow; one of the packet buffers is a unit of its requester at the shared port (R246). -/
def State.memAccess (s : State) (m : Master) (r : Region) (a : Nat) (write : Bool) (eff : State → State) : State :=
  s.cross m a (regionDom r) (regionIsl r) true write fun s =>
    eff (match r, portReq m with | .pbm, some q => s.portBeats q 1 | _, _ => s)

/-! ### Bus accesses -/

/-- The state an outcome leaves. -/
def outState (s : State) : Out → State
  | .next t => t
  | _ => s

/-- R4, R5, R32, R38, R42, R511, R512: a write of n bytes by a master. -/
def State.busWrite (s : State) (m : Master) (a n v : Nat) : State :=
  if a % n ≠ 0 then s.misalign m true
  else if !s.allowed m a .store then s.err
  else
    match regionOf a with
    | .unmapped => s.err
    | .block b off =>
      if n ≠ 4 then s.err
      else
        match busCommand m b off v with
        | some f => outState s (f s)
        | none => s.access m b off true fun s => (s.regWrite m b off v).ok
    | r =>
      if !s.memReach m r a true || ((r == .ctxWin || r == .plic) && n != 4) then s.err
      else s.memAccess m r a true fun s => (s.memWrite m r a n v).ok

/-- R4 to R6, R32, R38, R42, R511, R512: a read of n bytes by a master: the value is in the answer. -/
def State.busRead (s : State) (m : Master) (a n : Nat) : State :=
  if a % n ≠ 0 then s.misalign m false
  else if !s.allowed m a .load then s.err
  else
    match regionOf a with
    | .unmapped => s.err
    | .block b off =>
      if n ≠ 4 then s.err
      else
        match busReadCommand m b off with
        | some f => outState s (f s)
        | none => s.access m b off false fun s => s.answer (s.regRead b off)
    | .flash => outState s (execFlashRead m .data (BitVec.ofNat 32 a) (if n = 4 then .word else if n = 2 then .half else .byte) 0 s)
    | r =>
      if !s.memReach m r a false || (r == .plic && n != 4) then s.err
      else
        s.memAccess m r a false fun s =>
          if r = .ctxWin then s.ctxWinRead a n else let x := s.memRead m r a n; x.2.answer x.1

end Sys2Proof.Machine
end

