-- ==== Sys2Proof/Machine/Bus.lean ====
section
/-!
DEFINITION. Machine/Bus.lean: register writes that have no command of their own, stalls of the Hallway, and the DMA
(R4 to R8, R31, R45 to R48).
-/
namespace Sys2Proof.Machine

open Sys2Proof

/-! ### Register writes and stalls -/

/-- R4 to R8, R32, R42: a bus write, or the core's write of a control and status register. -/
def execRegisterWrite (m : Master) (addr : RegAddr) (size : Size) (val : Word) (s : State) : Out :=
  match addr with
  | .bus a => .next ((s.busWrite m a.toNat size.bytes (val.toNat % 256 ^ size.bytes)).settle)
  | .csr n => .next (if m = .app ∧ s.domOn 5 = true ∧ s.islOn 2 = true then s.csrWrite n.toNat val.toNat else s.err)

/-- The destination island and domain of an address, where a transfer of n bytes of a master crosses towards it. -/
def State.stallDest (s : State) (m : Master) (a n : Nat) (write : Bool) : Option (Nat × Nat) :=
  let r := regionOf a
  let reach := match r with
    | .unmapped => false
    | .block b _ => n == 4 && s.reaches m b && s.present b
    | r => s.memReach m r a write
  if reach && a % n == 0 && s.allowed m a (if write then .store else .load) && masterIsl m != regionIsl r &&
      s.domOn (regionDom r) && s.islOn (regionIsl r) && !s.crossHeld m (regionIsl r) then some (regionIsl r, regionDom r) else none

/-- R31: the destination completes the oldest stalled write to an address. -/
def execLateWriteDone (addr : Word) (s : State) : Out :=
  match s.late.find? fun w => w.addr == addr.toNat with
  | none => .next s
  | some w =>
    if !s.islOn (regionIsl (regionOf w.addr)) then .next s else
    let s1 := { s with late := s.late.erase w }
    let s2 := { s1.busWrite w.m w.addr w.size w.val with resp := s.resp }
    .next ((s2.when (w.logged && s2.on R.HALL_STALL_LOG_VALID) fun s => s.wr R.HALL_STALL_LOG_LATE_DONE 1).settle)

/-! ### DMA (R45 to R48) -/

/-- R42, R45, R46, R48: channel n moves one element, or stops on an error; a read is answered before the write. -/
def State.dmaMove (s : State) (n : Nat) : State :=
  let w := s.dmaWidth n
  let a := s.rd (L.DM_SRC n)
  let d := s.rd (L.DM_DST n)
  let back (t : State) : State := { t with resp := s.resp }
  let s1 := s.busRead .dma a w
  match s1.resp with
  | .data x =>
    let s2 := s1.busWrite .dma d w (x % 256 ^ w)
    if s2.resp = .ok then
      let left := s.rd (R.DMA_CH_STAT_REMAIN n) - w
      let s3 := (back s2).wrs [(R.DMA_CH_STAT_REMAIN n, left), (L.DM_SRC n, a + if s.on (R.DMA_CH_CFG_SRC_INC n) then w else 0),
        (L.DM_DST n, d + if s.on (R.DMA_CH_CFG_DST_INC n) then w else 0), (L.DM_REQ, clrBit (s.rd L.DM_REQ) n)]
      let s4 := s3.ifStep 13 1 (s.rd (R.DMA_CH_CNT n) - left) n left
      if left = 0 then s4.dmaEnd n true else s4
    else if s2.resp = .waiting then back s2
    else (back s2).dmaEnd n false
  | .waiting => back s1
  | _ => (back s1).dmaEnd n false

/-- R386: channels move while APP runs and no entry holds them. DESIGN CHOICE: a channel that runs pauses while CTRL.EN is 0; the spec
says only that none starts. -/
def State.dmaRuns (s : State) (n : Nat) : Bool :=
  s.online 4 && s.on R.DMA_CTRL_EN && !s.on L.ENT_HOLD && s.on (R.DMA_CH_STAT_BUSY n)

/-- R46, R47: the channels that may move an element: those that run without requests, and those with a request. -/
def State.dmaReady (s : State) : List Nat :=
  (List.range 16).filter fun n => s.dmaRuns n && (s.on (R.DMA_CH_CFG_SW n) || bit (s.rd L.DM_REQ) n)

/-- R47: the ready channels of the highest PRIO. -/
def State.dmaTop (s : State) (ready : List Nat) : List Nat :=
  ready.filter fun n => s.rd (R.DMA_CH_CFG_PRIO n) == ready.foldl (fun p n => max p (s.rd (R.DMA_CH_CFG_PRIO n))) 0

/-- R47: the channel that moves the next element: of the ready ones of the highest PRIO the lowest number, those that have moved one
standing back until all have. -/
def State.dmaPick (s : State) (ready : List Nat) : Option Nat :=
  match (s.dmaTop ready).find? fun n => !bit (s.rd L.DM_SERVED) n with
  | some n => some n
  | none => (s.dmaTop ready).head?

/-- R47: channel n has its turn: a channel of its priority that is not ready loses its place. -/
def State.dmaTurn (s : State) (ready : List Nat) (n : Nat) : State :=
  let kept := (s.dmaTop ready).filter fun k => bit (s.rd L.DM_SERVED) k && !bit (s.rd L.DM_SERVED) n
  s.wr L.DM_SERVED (setBit (kept.foldl setBit 0) n)

/-- R46, R47: one element of the channel whose turn it is. -/
def State.dmaElement (s : State) : State :=
  match s.dmaPick s.dmaReady with
  | some n => ((s.dmaTurn s.dmaReady n).dmaMove n).settle
  | none => s

/-- R48: the channel whose access a stall detector gave up on stops at its failing element. -/
def State.dmaStalled (s : State) (a : Nat) (write : Bool) : State :=
  match s.dmaPick ((List.range 16).filter fun n =>
      s.on (R.DMA_CH_STAT_BUSY n) && (if write then s.rd (L.DM_DST n) else s.rd (L.DM_SRC n)) == a) with
  | some n => s.dmaEnd n false
  | none => s

/-- R31, R48, R235: what else a stall does to its master: a DMA channel and a cipher channel's job stop. -/
def State.stalled (s : State) (m : Master) (a : Nat) (write : Bool) : State :=
  match m with
  | .dma => s.dmaStalled a write
  | .cipher q => s.jobKill q.val 11
  | _ => s

/-- R31: the destination does not acknowledge a transfer: a read or a write of a value, which it may still
complete later. -/
def execStallDetectorFire (m : Master) (addr : Word) (x : Transfer) (s : State) : Out :=
  match s.stallDest m addr.toNat x.size.bytes x.wr.isSome with
  | none => .next s
  | some d =>
    let inj := s.stallHit m d.1
    let s0 := s.when inj State.injActed
    let s1 := (s0.stall m addr.toNat d.1 d.2 x.wr.isSome inj).stalled m addr.toNat x.wr.isSome
    .next (({ s1 with late := match x.wr with
      | some v => s1.late ++ [⟨m, addr.toNat, x.size.bytes, v.toNat % 256 ^ x.size.bytes, !s0.on R.HALL_STALL_LOG_VALID⟩]
      | none => s1.late } : State).settle)

/-- R46, R47: requests on lines: each is kept until its element has moved; one element of one ready channel moves. -/
def execDmaRequest (lines : BitVec 64) (s : State) : Out :=
  let l := (List.range 16).filter fun n => s.dmaRuns n && !s.on (R.DMA_CH_CFG_SW n) && bit lines.toNat (s.rd (R.DMA_CH_CFG_REQ n))
  .next ((s.each l fun n s => s.setBitF L.DM_REQ n).dmaElement)

/-- R46, R47: an element while a channel that runs without requests is ready: its own, or that of a ready channel that goes
before it. -/
def execDmaSwElement (ch : Fin 16) (s : State) : Out :=
  .next (if s.dmaRuns ch.val && s.on (R.DMA_CH_CFG_SW ch.val) then s.dmaElement else s)

end Sys2Proof.Machine
end

