-- ==== Sys2Proof/Machine/Verdict.lean ====
section
/-!
DEFINITION. Machine/Verdict.lean: the verdict path (R165 to R170), the frame counter and replay rules
(R194 to R197), acknowledgements and answers (R189 to R193, R211, R212), and beacons (R200, R201).
-/
namespace Sys2Proof.Machine

open Sys2Proof

/-! ### Replay (R195) -/

/-- R195: the counter state after an accepted counter; none where it is rejected. -/
def replayRule (seen : Bool) (rx bm c : Nat) : Option (Nat × Nat) :=
  if !seen then some (c, 1)
  else if rx < c then some (c, if 64 ≤ c - rx then 1 else (bm * 2 ^ (c - rx)) % 2 ^ 64 ||| 1)
  else if rx - c < 64 ∧ !bit bm (rx - c) then some (rx, setBit bm (rx - c))
  else none

/-- What a verdict commits to a context: its code, the counter state on ACCEPT, and the plaintext. -/
structure Judged where
  code  : Nat
  ctr   : Option (Nat × Nat)
  plain : List Byte
  deriving DecidableEq, Repr

/-- R197: a PDU is new when its SN is the context's NESN. -/
def State.leNew (s : State) (k : Nat) (f : RxFrame) : Bool := bit (f.hdr.headD 0).toNat 3 == bit (s.rd (L.LE_SEQ k)) 0

/-- R222, R197: an LE PDU of context k. -/
def State.judgeLe (s : State) (r : Radio) (k : Nat) (f : RxFrame) : Judged :=
  let seen := bit (s.ctxRd k 0x45 1) 0
  let c := if seen then s.ctxRd k 0x40 5 + 1 else 0
  let empty := f.body.isEmpty && f.mic.isEmpty
  if !s.leNew k f then ⟨2, none, []⟩
  else if !s.ctxFlag k 1 || empty then ⟨0, none, f.body⟩
  else
    let key := leBytes 16 (s.rd (L.RX_KEY r))
    let nonce := leNonce c (!s.ctxFlag k 2) (s.rd (L.IV k))
    let plain := ccmCrypt key nonce f.body
    if ccmTag key nonce (leAad f.hdr) plain 4 = f.mic then ⟨0, some (c, 1), plain⟩ else ⟨1, none, []⟩

/-- R194 to R196, R224: an IEEE 802.15.4 frame of context k, received in an event whose slot number is given. -/
def State.judgeMhr (s : State) (r : Radio) (k : Nat) (f : RxFrame) (slot : Option Nat) : Judged :=
  if !s.ctxFlag k 1 then ⟨0, none, f.body⟩
  else
    let lv := f.level.toNat
    let keyId := f.kim = 0#2 ∨ (f.kim = 1#2 ∧ f.keyIdx.toNat = s.ctxRd k 0x32 1)
    if !f.sec ∨ lv = 0 ∨ ¬ keyId ∨ lv < s.ctxRd k 0x31 1 % 8 ∨ lv = 4 then ⟨1, none, []⟩
    else
      let c := f.ctr.toNat
      let key := leBytes 16 (s.rd (L.RX_KEY r))
      let src := match f.srcExt with | some a => a.toNat | none => s.ctxRd k 0x04 8
      let nonce := mhrNonce src c lv
      let plain := if 4 ≤ lv then ccmCrypt key nonce f.body else f.body
      let tag := if 4 ≤ lv then ccmTag key nonce f.hdr plain (micLen lv) else ccmTag key nonce (f.hdr ++ f.body) [] (micLen lv)
      if tag ≠ f.mic then ⟨1, none, []⟩
      else if c = 0xFFFFFFFF then ⟨2, none, []⟩
      else if s.ctxType k = 4 ∧ slot.map (· % 2 ^ 32) ≠ some c then ⟨2, none, []⟩
      else
        match replayRule (bit (s.ctxRd k 0x45 1) 0) (s.ctxRd k 0x40 5) (s.ctxRd k 0x48 8) c with
        | some p => ⟨0, some p, plain⟩
        | none => ⟨2, none, []⟩

/-- R166: the first code that applies to a frame, before the context is touched; `lane` tells of a lane or
lockstep mismatch. -/
def State.judge (s : State) (r : Radio) (k : Option Nat) (f : RxFrame) (lane : Bool) (slot : Option Nat) : Judged :=
  match k with
  | none => ⟨4, none, []⟩
  | some k =>
    if s.ctxState k ≠ 2 ∨ s.ctxFaulted k ∨ s.on (L.RX_FAULT r) then ⟨4, none, []⟩
    else if s.rd (L.RX_KEYST r) = 3 then ⟨6, none, []⟩
    else if lane then ⟨5, none, []⟩
    else if !s.on (L.RX_CRC r) then ⟨3, none, []⟩
    else if s.ctxType k = 1 then ⟨0, none, f.body⟩
    else if s.ctxType k = 2 then s.judgeLe r k f
    else s.judgeMhr r k f slot

/-! ### Times -/

/-- R106, R107, R111, R189: the end of the frame at the antenna ball, from its sync timestamp. -/
def State.frameEnd (s : State) (r : Radio) : Nat :=
  let phy := s.ap r (R.MDM_MODE_PHY r)
  let n := s.rd (L.MF_LEN r)
  let thirds :=
    match r with
    | .stratus =>
      let b := 16 + 8 * n
      sunSymbol phy * (if s.on (L.MF_CODED r) then 2 * (b + if n % 2 = 0 then 16 else 8) else b)
    | .cirrus =>
      3 * (if phy = 4 then (1 + n) * 32 else if phy = 0 then (n + 5) * 8 else if phy = 1 then (n + 5) * 4
           else 40 + (8 * (n + 2) + 27) * (if s.on (L.MF_CI r) then 2 else 8))
  s.rd (L.RX_TS r) + thirds * 256 / 3

/-- The absolute frequency a radio is on, kHz. -/
def State.freqNow (s : State) (r : Radio) : Nat :=
  s.ap r (R.FE_CHAN_FREQ_KHZ r) + match r with | .cirrus => 2400000 | .stratus => 0

/-! ### Acknowledgements (R189 to R192) -/

/-- R190, R201: the Time Correction IE of IEEE 802.15.4-2020 (a header IE of element 0x1E with two octets): the frame's measured start
less its nominal one, in µs, 12 bits, saturating. DESIGN CHOICE: the µs are rounded down; outside an event the value is free. -/
def State.timeIe (s : State) (r : Radio) (e : Option Armed) : List Byte :=
  let us : Int :=
    match e with
    | some e =>
      ((s.rd (L.RX_TS r) : Int) - syncDelay r.idx (s.ap r (R.MDM_MODE_PHY r)) e.pre - e.start) / 256
    | none => sx 12 (s.freeVal 12)
  [0x02#8, 0x0F#8] ++ leBytes 2 (ux 12 (clampS 12 us))

/-- R190, R224: the open octets of an Enh-Ack with counter `own`: frame version 2 and no address, the acknowledged sequence number, the
auxiliary security header at the frame's level, with its key identifier, and on Stratus the Time Correction IE. -/
def State.ackHdr (s : State) (r : Radio) (f : RxFrame) (own : Nat) (e : Option Armed) : List Byte :=
  leBytes 2 (if r = .stratus then 0x220A else 0x200A) ++ [f.seq, BitVec.ofNat 8 (f.level.toNat + 8 * f.kim.toNat)] ++ leBytes 4 own ++
    (if f.kim = 1#2 then [f.keyIdx] else []) ++ (if r = .stratus then s.timeIe r e else [])

/-- R190: the octets of an acknowledgement handed to the modem: of an Enh-Ack secured with the context's key, or of an Imm-Ack. -/
def State.ackFrame (s : State) (r : Radio) (k : Nat) (f : RxFrame) (own : Nat) (e : Option Armed) : List Byte :=
  if s.ctxFlag k 1 then
    let hdr := s.ackHdr r f own e
    ccmSeal (s.linkKey k) (mhrNonce s.ownExt own f.level.toNat) hdr hdr [] (decide (4 ≤ f.level.toNat)) (micLen f.level.toNat)
  else [0x02#8, 0x00#8, f.seq]

/-- R190: whether a frame that has been accepted is acknowledged. -/
def State.ackDue (s : State) (k : Nat) (f : RxFrame) : Bool :=
  s.ctxFlag k 3 && f.ar && !f.group && !(s.ctxFlag k 1 && decide (f.ver.toNat < 2))

/-- R190 to R192, R220, R225, R226: the acknowledgement of an accepted frame of event e: prepared and sent, or suppressed; `d1` and `d2`
tell whether the lane's copies differ at its first and its repeated encryption. -/
def State.prepareAck (s : State) (r : Radio) (k : Nat) (f : RxFrame) (e : Option Armed) (d1 d2 : Bool) : State :=
  if !s.ackDue k f then s
  else
    let enh := s.ctxFlag k 1
    let own := s.ctxRd k 0x38 5
    let body := s.ackFrame r k f own e
    let start := s.frameEnd r + s.gapUs (s.ctxType k) * 256
    let air := airUs r.idx (s.onAir r.idx (s.ctxRd k 3 1) body.length)
    let band := s.dutyBand k (s.freqNow r)
    let ctr := f.ctr.toNat
    let adm := match band with
      | some b => s.dutyAdmit b air true
      | none => (r.idx == 0, s)
    if !adm.1 then adm.2.ackSuppress r k ctr 2
    else
      let s1 := adm.2
      let undo (s : State) : State := match band with | some b => s.dutyEnd b air 0 | none => s
      let l := s1.freeBufs 1 false
      let ready := s1.on R.CIPHER_STAT_READY && !s1.on L.LANE_RST
      let refused := enh && ready && !s1.linkKeyOk k
      let bad := l.isEmpty || s1.overShare (ownTx r) 1 || decide (start < s1.lt + 20 * 256) || s1.rst r == 8 ||
        (enh && (decide (2 ^ 32 - 1 ≤ own) || !ready)) || refused
      if bad then ((undo s1).when refused State.keyRefused).ackSuppress r k ctr 3
      else
        let s2 := if enh then s1.ctxWr k 0x38 5 (own + 1) else s1
        let o := if enh then s2.laneOp 1 k d1 else (false, s2)
        let o2 := if o.1 then o.2.laneOp 1 k d2 else (false, o.2)
        if o.1 && o2.1 then (undo o2.2).ackSuppress r k ctr 3
        else
          let s3 := ((((o2.2.freeStep).zeroNow l).takeBufs (ownTx r) l).fillBufs (ownTx r) l body).wrs
            [(L.ACK_BUF r, l.headD 0 + 1), (L.ACK_CTX r, k), (L.ACK_CTR r, ctr), (L.ACK_AIR r, air),
             (L.ACK_BAND r, match band with | some b => b + 1 | none => 0),
             (R.FE_PA_DBM r, o2.2.ctxRd k 0x37 1)]
          let max := match band with | some b => s3.rd (R.MAC_DUTY_BAND_HI_MAX_DBM b) | none => 127
          ((s3.ctxInflight k 3 0 0 ctr).txFrame r (l.headD 0) body.length).radioCmd r 3 start 2 max 17

/-! ### LE answers (R211, R212) -/

/-- R188, R191, R211: an LE event whose frame at T_IFS is not sent ends, with the step and the result that tell why. -/
def State.leUnsent (s : State) (r : Radio) (e : Armed) (step result : Nat) : State :=
  if e.kind = 5 then (s.ackSuppress r e.ctx (s.ctxRd e.ctx 0x40 4) step).endEv e
  else if e.kind = 6 then s.finish e result
  else s.endEv e

/-- R191, R212: an event's frame of n octets sent at T_IFS after the frame just received, or the event ended.
`last` tells that nothing follows it. -/
def State.leAnswer (s : State) (r : Radio) (e : Armed) (n : Nat) (last : Bool) : State :=
  let start := s.frameEnd r + s.rd R.MAC_GAP_LE_US * 256
  let air := airUs 0 (s.onAir 0 (s.ctxRd e.ctx 3 1) n)
  let adm := match s.dutyBand e.ctx e.freqKhz with
    | some b => let a := s.dutyAdmit b air (e.kind == 5); (a.1, a.2, b + 1)
    | none => (true, s, 0)
  if !adm.1 then adm.2.1.leUnsent r e 2 3
  else
    let e1 := { e with phase := 1, start := start, band := adm.2.2, rsv := if adm.2.2 = 0 then 0 else air, air := air,
                       exp := if last then 1 else if e.kind = 5 then 0 else e.exp,
                       resp := true }
    let s1 := adm.2.1.setRun e1
    let plain := s1.ctxFlag e.ctx 1 && decide (2 < n) && !s1.on (L.ENC e.buf) && e.kind == 5
    if plain || decide (start < s1.lt + 20 * 256) || s1.rst r == 8 then
      (s1.when (e1.band != 0) fun s => s.dutyEnd (e1.band - 1) air 0).leUnsent r e 3 8
    else (s1.txFrame r (if e.kind = 6 then dNext (s.desc e.buf) else e.buf) n).radioCmd r 3 start e.cls (s1.bandMax e1) (e.handle + 1)

/-- R197, R211, R212: what an LE connection event does after a PDU's verdict. -/
def State.leConnAfter (s : State) (r : Radio) (e : Armed) (k code : Nat) (f : RxFrame) : State :=
  let h := (f.hdr.headD 0).toNat
  let seq := s.rd (L.LE_SEQ k)
  if code = 1 ∨ code = 4 ∨ code = 5 ∨ code = 6 then s.endEv e
  else
    let fails := if code = 3 then e.fails + 1 else 0
    let acked := code ≠ 3 ∧ (bit h 2 != bit seq 1)
    let seq1 := if code = 0 then seq ^^^ 1 else seq
    let seq2 := if acked then seq1 ^^^ 2 else seq1
    let s1 := s.wr (L.LE_SEQ k) seq2
    let s2 := s1.when (decide acked && decide (2 < e.txLen)) fun s =>
      (s.handBufs ((s.chain 2048 e.buf).filter fun b => s.owner b == ownTx r) (ownTx r) ownFree).ctxSat k 0x72 2
    let e1 := { e with fails := fails, anch := e.anch || code == 0, txLen := if acked then 2 else e.txLen }
    let last := e.exp = 1
    let more := code = 3 ∨ bit h 4
    if 2 ≤ fails ∨ last then s2.endEv e
    else if s2.ctxFlag k 2 then (if more ∨ 2 < e1.txLen then (s2.setRun e1).leAnswer r e1 e1.txLen false else s2.endEv e)
    else (s2.setRun e1).leAnswer r e1 e1.txLen (!decide more && !decide (2 < e1.txLen))

/-- R211: what an advertising or scanning event does after a frame. -/
def State.leAdvAfter (s : State) (r : Radio) (e : Armed) (code : Nat) (f : RxFrame) : State :=
  let pdu := (f.hdr.headD 0).toNat % 16
  let conn := (s.rdB (bufAddr e.buf)).toNat % 16 = 5
  if e.exp = 1 then s.leClose e
  else if e.kind = 6 then
    if code = 0 ∧ pdu = 5 then s.finish e 0
    else if code = 0 ∧ pdu = 3 then s.leAnswer r e (dLen (s.desc (dNext (s.desc e.buf)))) false
    else s.advNext e (e.chan + 1)
  else if code = 0 ∧ e.txLen ≠ 0 ∧ (pdu = 0 ∨ pdu = if conn then 1 else 6) then s.leAnswer r e e.txLen conn
  else (s.setRun { e with phase := 3 }).radioCmd r 2 s.lt e.cls 127 (e.handle + 1)

/-! ### Beacons (R200, R201) -/

/-- R201, R214: a beacon accepted in a BEACON_RX event. -/
def State.beaconAfter (s : State) (r : Radio) (e : Armed) (f : RxFrame) (plain : List Byte) : State :=
  let parent := s.rd R.MAC_FT_CFG_PARENT
  if !s.on R.MAC_FT_CFG_PARENT_EN ∨ f.ftype ≠ 0#3 ∨ f.srcExt.map BitVec.toNat ≠ some (s.ctxRd parent 4 8) then s
  else
    let ftTx := ofLe ((plain.drop 9).take 8)
    let d := syncDelay 1 (s.ap r (R.MDM_MODE_PHY r)) e.pre
    let e := sx 64 (ux 64 ((ftTx : Int) + d - s.fleet (s.rd (L.RX_TS r))))
    s.ftMeasure e (some (plain.getD 2 0).toNat)

/-! ### The verdict -/

/-- R167, R174: where the frame's buffers go, and its event queue entry. -/
def State.verdictBufs (s : State) (r : Radio) (k : Nat) (j : Judged) (f : RxFrame) (isAck : Bool) : State :=
  let l := s.ff (L.RX_BUFS r)
  let len := s.rd (L.RX_LEN r)
  let h := (f.hdr.headD 0).toNat
  let typ := s.ctxType k
  let entry (typ_ has : Nat) : EvqEntry :=
    mkEntry typ_ k j.code r.idx has (l.headD 0 * has) (s.rd (L.RX_TS r)) len (s.rd (L.RX_RSSI r)) (if typ_ = 1 then s.rd (L.RX_LQI r) else 0)
  if j.code ≠ 0 then
    let s1 := (s.handBufs l (ownRx r) ownQuar).handBufs l ownQuar ownFree
    if s.on R.LINK_CTRL_REJ_EVT then s1.evqFill (entry 2 0) else s1.evqRelease
  else
    let s1 := (s.zeroNow l).fillBufs (ownRx r) l (fit 0 len (f.hdr ++ j.plain ++ f.mic))
    if isAck then (s1.handBufs l (ownRx r) ownFree).evqRelease
    else if typ = 1 ∨ (typ = 2 ∧ h % 4 = 3) ∨ (typ ≠ 2 ∧ (f.ftype = 0#3 ∨ f.ftype = 3#3)) then s1.evqRelease
    else (s1.handBufs l (ownRx r) ownApp).evqFill (entry 1 1)

/-- R164, R165, R167: the commit to the context. -/
def State.verdictCommit (s : State) (r : Radio) (k : Nat) (j : Judged) (e : Option Armed) : State :=
  if j.code = 4 ∨ j.code = 5 ∨ j.code = 6 then s
  else
    let s1 := ((s.ctxWr k 0x69 1 (s.rd (L.RX_RSSI r))).ctxWr k 0x6A 1 j.code).ctxIdle k
    if j.code ≠ 0 then s1.ctxSat k 0x6E 2
    else
      let s2 := s1.ctxSat k 0x6C 2
      let s3 := match j.ctr with
        | some p => ((s2.ctxWr k 0x40 5 p.1).ctxWr k 0x45 1 (setBit (s2.ctxRd k 0x45 1) 0)).ctxWr k 0x48 8 p.2
        | none => s2
      match e with
      | some e =>
        if e.kind = 5 ∧ !e.anch then
          s3.ctxWr k 0x50 8 (s.rd (L.RX_TS r) - syncDelay 0 (s.ap r (R.MDM_MODE_PHY r)) 0)
        else s3
      | none => s3

/-- R170: the verdict's latency and its count by code. -/
def State.verdictStats (s : State) (k code lat : Nat) : State :=
  let o := s.occasion 0x14
  let lat := if o.1 then max 52 lat else lat
  let s1 := (o.2.wrs [(R.LINK_VLAT_LAST, lat), (R.LINK_VLAT_MAX, max lat (o.2.rd R.LINK_VLAT_MAX))]).sat (R.LINK_VCNT code) 1
  if 51 < lat then (s1.wr R.LINK_EVT_VERDICT_OVER 1).fire 0x14 k o.1 else s1

/-- What the event of a frame does once its verdict is posted. -/
def State.verdictEvent (s : State) (r : Radio) (k : Nat) (j : Judged) (f : RxFrame) (e : Option Armed) : State :=
  match e with
  | none => s
  | some e =>
    match e.kind with
    | 1 => s.endEv e
    | 9 => (if j.code = 0 then s.beaconAfter r e f j.plain else s).endEv e
    | 3 | 4 =>
      if f.ftype ≠ 2#3 then s.finish e 1
      else if j.code = 0 ∧ f.seq = s.rdB (bufAddr e.buf + 2) then
        let s1 := match f.timeCorr with
          | some t => if s.on R.MAC_FT_CFG_PARENT_EN ∧ k = s.rd R.MAC_FT_CFG_PARENT then s.ftMeasure (t.toInt * 256) none else s
          | none => s
        s1.finish e 0
      else s.finish e 2
    | 5 => s.leConnAfter r e k j.code f
    | 6 | 7 => s.leAdvAfter r e j.code f
    | _ => s

/-- R166, R197, R220: whether a frame of context k reaches the lane: a secured one, of an LE connection a new PDU with a payload. -/
def State.laneNeeds (s : State) (k : Nat) (f : RxFrame) : Bool :=
  s.ctxFlag k 1 && !(s.ctxType k == 2 && (!s.leNew k f || (f.body.isEmpty && f.mic.isEmpty)))

/-- R165 to R170: a frame's last bit has been decided and its verdict is given: `differs` tells in what the lane's
copies differ, `lat` its latency in
LINK_TIME units, `errs` the words of its context in which a soft error is met. R186: a fault of the context cancels its events at once. -/
def execVerdict (r : Radio) (f : RxFrame) (differs : LaneDiffs) (lat : BitVec 8) (errs : List (Nat × Bool)) (s : State) : Out :=
  if s.rd (L.RX_ST r) ≠ 3 then .next s
  else
    let k := if s.on (L.RX_IDED r) && s.on (L.RX_CTX r) then some (s.rd (L.RX_CTX r) - 1) else none
    let kn := k.getD 0
    let needKey := k.isSome && s.laneNeeds kn f
    if needKey && s.rd (L.RX_KEYST r) == 1 then .next s
    else
      let s1 := match k with | some k => s.ctxReadFor k [8, 9, 10, 13, 14, 15] errs | none => s
      let e := s1.rxEvent r
      let o := if needKey && s1.rd (L.RX_KEYST r) == 2 && !s1.on L.LANE_RST && !s1.on (L.RX_LOCKSTEP r) then s1.laneOp 0 kn differs.frame else (false, s1)
      let lane := o.1 || s1.on (L.RX_LOCKSTEP r) || s1.rd (L.RX_KEYST r) == 4 || s1.on L.LANE_RST
      let j := o.2.judge r k f lane (e.map s1.evAsn)
      let isAck := f.ftype == 2#3 && s.ctxType kn != 1 && s.ctxType kn != 2
      let s2 := o.2.verdictCommit r kn j e
      let s3 := (s2.verdictStats kn j.code lat.toNat).verdictBufs r kn j f isAck
      let s4 := s3.verdictEvent r kn j f e
      let s5 := if j.code == 0 && decide (3 ≤ s.ctxType kn) && !isAck then s4.prepareAck r kn f e differs.ack differs.again else s4
      .next ((s5.wrs [(L.RX_ST r, 0), (L.RX_CTX r, 0), (L.RX_IDED r, 0), (L.RX_KEYST r, 0), (L.RX_KEY r, 0), (L.RX_EV r, 0),
        (L.RX_LOCKSTEP r, 0), (L.RX_FAULT r, 0)]).setFf (L.RX_BUFS r) [] |>.snapTake |>.settle)

end Sys2Proof.Machine
end

