-- ==== Sys2Proof/Machine/Dispatch.lean ====
section
/-!
DEFINITION. Machine/Dispatch.lean: one arm for each command, each one call of that command's meaning.
-/
namespace Sys2Proof.Machine

open Sys2Proof

def exec (i : Instr) (s : State) : Host.Outcome State Fault Refusal :=
  match i with
  | .registerWrite m addr size val => Sys2Proof.Machine.execRegisterWrite m addr size val s
  | .por test => Sys2Proof.Machine.execPor test s
  | .bor => Sys2Proof.Machine.execBor s
  | .borRelease test => Sys2Proof.Machine.execBorRelease test s
  | .pinReset => Sys2Proof.Machine.execPinReset s
  | .pinResetRelease test => Sys2Proof.Machine.execPinResetRelease test s
  | .sysRstKey m key => Sys2Proof.Machine.execSysRstKey m key s
  | .dbgReset => Sys2Proof.Machine.execDbgReset s
  | .floorLoadDone errs => Sys2Proof.Machine.execFloorLoadDone errs s
  | .reload m => Sys2Proof.Machine.execReload m s
  | .reloadDone errs => Sys2Proof.Machine.execReloadDone errs s
  | .hfxoLoss => Sys2Proof.Machine.execHfxoLoss s
  | .pllRelockHfrc => Sys2Proof.Machine.execPllRelockHfrc s
  | .pllUnlock => Sys2Proof.Machine.execPllUnlock s
  | .hfxoQualified => Sys2Proof.Machine.execHfxoQualified s
  | .wakeHfxoTimeout => Sys2Proof.Machine.execWakeHfxoTimeout s
  | .returnHfxo m => Sys2Proof.Machine.execReturnHfxo m s
  | .returnHfxoDone cycles => Sys2Proof.Machine.execReturnHfxoDone cycles s
  | .lfxoLost => Sys2Proof.Machine.execLfxoLost s
  | .linkTimeResume cycles => Sys2Proof.Machine.execLinkTimeResume cycles s
  | .ltSnap m => Sys2Proof.Machine.execLtSnap m s
  | .stallDetectorFire m addr x => Sys2Proof.Machine.execStallDetectorFire m addr x s
  | .lateWriteDone addr => Sys2Proof.Machine.execLateWriteDone addr s
  | .stallLogClear m => Sys2Proof.Machine.execStallLogClear m s
  | .dmaChannelStart m ch cfg => Sys2Proof.Machine.execDmaChannelStart m ch cfg s
  | .dmaChannelStop m ch cfg => Sys2Proof.Machine.execDmaChannelStop m ch cfg s
  | .dmaRequest lines => Sys2Proof.Machine.execDmaRequest lines s
  | .radioNop src r => Sys2Proof.Machine.execRadioNop src r s
  | .radioIdle src r => Sys2Proof.Machine.execRadioIdle src r s
  | .radioRx src r => Sys2Proof.Machine.execRadioRx src r s
  | .radioTx src r => Sys2Proof.Machine.execRadioTx src r s
  | .radioCal src r => Sys2Proof.Machine.execRadioCal src r s
  | .radioAbort src r => Sys2Proof.Machine.execRadioAbort src r s
  | .radioOff src r => Sys2Proof.Machine.execRadioOff src r s
  | .radioTransitionDone r => Sys2Proof.Machine.execRadioTransitionDone r s
  | .calDone r lock a b => Sys2Proof.Machine.execCalDone r lock a b s
  | .rxStartTime r => Sys2Proof.Machine.execRxStartTime r s
  | .txStartTime r => Sys2Proof.Machine.execTxStartTime r s
  | .txLastBit r => Sys2Proof.Machine.execTxLastBit r s
  | .rampDownEnd r cutUs => Sys2Proof.Machine.execRampDownEnd r cutUs s
  | .txSettleTimeout r => Sys2Proof.Machine.execTxSettleTimeout r s
  | .directWrite m r val => Sys2Proof.Machine.execDirectWrite m r val s
  | .synthUnlock r => Sys2Proof.Machine.execSynthUnlock r s
  | .femPinLead r edge short => Sys2Proof.Machine.execFemPinLead r edge short s
  | .coexReqAssert r => Sys2Proof.Machine.execCoexReqAssert r s
  | .coexReqRelease r => Sys2Proof.Machine.execCoexReqRelease r s
  | .coexGntSample r level => Sys2Proof.Machine.execCoexGntSample r level s
  | .coexGntLost r => Sys2Proof.Machine.execCoexGntLost r s
  | .preambleDetect r metric raw => Sys2Proof.Machine.execPreambleDetect r metric raw s
  | .syncMatch r pre sync ts raw lqi cfo => Sys2Proof.Machine.execSyncMatch r pre sync ts raw lqi cfo s
  | .syncTimeout r => Sys2Proof.Machine.execSyncTimeout r s
  | .phrReceived r ci term hdr tail pad => Sys2Proof.Machine.execPhrReceived r ci term hdr tail pad s
  | .rxReport r body check term tail pad => Sys2Proof.Machine.execRxReport r body check term tail pad s
  | .agcUpdate r up down lvl smp => Sys2Proof.Machine.execAgcUpdate r up down lvl smp s
  | .eqTrainEnd r fst snd => Sys2Proof.Machine.execEqTrainEnd r fst snd s
  | .ccaDone r raw => Sys2Proof.Machine.execCcaDone r raw s
  | .lastStatRead m r => Sys2Proof.Machine.execLastStatRead m r s
  | .txfifoWrite m r val => Sys2Proof.Machine.execTxfifoWrite m r val s
  | .txUnderrun r => Sys2Proof.Machine.execTxUnderrun r s
  | .rxfifoRead m r => Sys2Proof.Machine.execRxfifoRead m r s
  | .fifoFlush m r => Sys2Proof.Machine.execFifoFlush m r s
  | .lockstepMismatch pc => Sys2Proof.Machine.execLockstepMismatch pc s
  | .lsRestart => Sys2Proof.Machine.execLsRestart s
  | .lsRelease m => Sys2Proof.Machine.execLsRelease m s
  | .frameIdentify r a => Sys2Proof.Machine.execFrameIdentify r a s
  | .txEncrypt h hdrLen ctrOff d1 d2 => Sys2Proof.Machine.execTxEncrypt h hdrLen ctrOff d1 d2 s
  | .ctxAlloc m typ => Sys2Proof.Machine.execCtxAlloc m typ s
  | .ctxFree m k => Sys2Proof.Machine.execCtxFree m k s
  | .ctxFreeDone => Sys2Proof.Machine.execCtxFreeDone s
  | .ctxWindowStore m addr size val => Sys2Proof.Machine.execCtxWindowStore m addr size val s
  | .ctxSnap m k errs => Sys2Proof.Machine.execCtxSnap m k errs s
  | .ctxScrub errs => Sys2Proof.Machine.execCtxScrub errs s
  | .verdict r f differs lat errs => Sys2Proof.Machine.execVerdict r f differs lat errs s
  | .evqPop m => Sys2Proof.Machine.execEvqPop m s
  | .mcSwap m => Sys2Proof.Machine.execMcSwap m s
  | .mcCheckDone => Sys2Proof.Machine.execMcCheckDone s
  | .mcYield m => Sys2Proof.Machine.execMcYield m s
  | .mcYieldTimeout => Sys2Proof.Machine.execMcYieldTimeout s
  | .appcmdGo m => Sys2Proof.Machine.execAppcmdGo m s
  | .appcmdDone m result => Sys2Proof.Machine.execAppcmdDone m result s
  | .mcPostGo m => Sys2Proof.Machine.execMcPostGo m s
  | .vlatClear m => Sys2Proof.Machine.execVlatClear m s
  | .armGo m => Sys2Proof.Machine.execArmGo m s
  | .cancel m h => Sys2Proof.Machine.execCancel m h s
  | .rxWindow h => Sys2Proof.Machine.execRxWindow h s
  | .macTx h => Sys2Proof.Machine.execMacTx h s
  | .macTxAck h => Sys2Proof.Machine.execMacTxAck h s
  | .ccaTxAck h => Sys2Proof.Machine.execCcaTxAck h s
  | .leConnEvent h => Sys2Proof.Machine.execLeConnEvent h s
  | .leAdvEvent h => Sys2Proof.Machine.execLeAdvEvent h s
  | .leScan h => Sys2Proof.Machine.execLeScan h s
  | .beaconTx h => Sys2Proof.Machine.execBeaconTx h s
  | .beaconRx h => Sys2Proof.Machine.execBeaconRx h s
  | .ackWaitTimeout r => Sys2Proof.Machine.execAckWaitTimeout r s
  | .rxWindowClose r => Sys2Proof.Machine.execRxWindowClose r s
  | .ftOfsHiWrite m v => Sys2Proof.Machine.execFtOfsHiWrite m v s
  | .dutyBucketRoll n => Sys2Proof.Machine.execDutyBucketRoll n s
  | .dutyWindowFull n => Sys2Proof.Machine.execDutyWindowFull n s
  | .laneResetDone bad => Sys2Proof.Machine.execLaneResetDone bad s
  | .keystoreLoadDone bad => Sys2Proof.Machine.execKeystoreLoadDone bad s
  | .keyDerived who differs => Sys2Proof.Machine.execKeyDerived who differs s
  | .keyseqWrite m v => Sys2Proof.Machine.execKeyseqWrite m v s
  | .keyProvision m slot k256 policy => Sys2Proof.Machine.execKeyProvision m slot k256 policy s
  | .keyProgDone same => Sys2Proof.Machine.execKeyProgDone same s
  | .keyRevoke m slot => Sys2Proof.Machine.execKeyRevoke m slot s
  | .revokeDone => Sys2Proof.Machine.execRevokeDone s
  | .jobGo m q => Sys2Proof.Machine.execJobGo m q s
  | .jobEnd q done parity busErr unzeroed => Sys2Proof.Machine.execJobEnd q done parity busErr unzeroed s
  | .jobAbort m q => Sys2Proof.Machine.execJobAbort m q s
  | .lockAcquire m id => Sys2Proof.Machine.execLockAcquire m id s
  | .lockRelease m id => Sys2Proof.Machine.execLockRelease m id s
  | .lockReleaseDone => Sys2Proof.Machine.execLockReleaseDone s
  | .lockForce m id => Sys2Proof.Machine.execLockForce m id s
  | .swkeyWrite m k v => Sys2Proof.Machine.execSwkeyWrite m k v s
  | .ivRead m k => Sys2Proof.Machine.execIvRead m k s
  | .ivWrite m k => Sys2Proof.Machine.execIvWrite m k s
  | .draw port ready more => Sys2Proof.Machine.execDraw port ready more s
  | .tktWrite m q tickets burst => Sys2Proof.Machine.execTktWrite m q tickets burst s
  | .hintCmd m q port => Sys2Proof.Machine.execHintCmd m q port s
  | .hintExpire q port => Sys2Proof.Machine.execHintExpire q port s
  | .hintBlockEnd q port => Sys2Proof.Machine.execHintBlockEnd q port s
  | .bufAlloc m own count => Sys2Proof.Machine.execBufAlloc m own count s
  | .bufAllocDone link => Sys2Proof.Machine.execBufAllocDone link s
  | .bufXfer m src dst head => Sys2Proof.Machine.execBufXfer m src dst head s
  | .xferDone link uncorr => Sys2Proof.Machine.execXferDone link uncorr s
  | .descWrite m d => Sys2Proof.Machine.execDescWrite m d s
  | .bufferZeroed b => Sys2Proof.Machine.execBufferZeroed b s
  | .auditPassEnd uncorr => Sys2Proof.Machine.execAuditPassEnd uncorr s
  | .reclaimDone => Sys2Proof.Machine.execReclaimDone s
  | .chkUseWrite m n v => Sys2Proof.Machine.execChkUseWrite m n v s
  | .chkStart m n => Sys2Proof.Machine.execChkStart m n s
  | .dinW m n v => Sys2Proof.Machine.execDinW m n v s
  | .dinH m n v => Sys2Proof.Machine.execDinH m n v s
  | .dinB m n v => Sys2Proof.Machine.execDinB m n v s
  | .chkRunWrite m n v => Sys2Proof.Machine.execChkRunWrite m n v s
  | .chkCountWrite m n v => Sys2Proof.Machine.execChkCountWrite m n v s
  | .fieldOn m => Sys2Proof.Machine.execFieldOn m s
  | .fieldOff m => Sys2Proof.Machine.execFieldOff m s
  | .inventory m => Sys2Proof.Machine.execInventory m s
  | .transceive m => Sys2Proof.Machine.execTransceive m s
  | .nfcAbort m => Sys2Proof.Machine.execNfcAbort m s
  | .nfcSynLocked => Sys2Proof.Machine.execNfcSynLocked s
  | .caIntervalEnd => Sys2Proof.Machine.execCaIntervalEnd s
  | .extField present => Sys2Proof.Machine.execExtField present s
  | .guardEnd => Sys2Proof.Machine.execGuardEnd s
  | .nfcFrameSent => Sys2Proof.Machine.execNfcFrameSent s
  | .piccResponse octets lastBits crcErr parErr coll => Sys2Proof.Machine.execPiccResponse octets lastBits crcErr parErr coll s
  | .responseTimeout => Sys2Proof.Machine.execResponseTimeout s
  | .ilim steps => Sys2Proof.Machine.execIlim steps s
  | .vnfcLow => Sys2Proof.Machine.execVnfcLow s
  | .porchFieldArrival => Sys2Proof.Machine.execPorchFieldArrival s
  | .porchFieldLoss => Sys2Proof.Machine.execPorchFieldLoss s
  | .porchPowerUp fwOk => Sys2Proof.Machine.execPorchPowerUp fwOk s
  | .reqa => Sys2Proof.Machine.execReqa s
  | .wupa => Sys2Proof.Machine.execWupa s
  | .anticollision lvl2 n known => Sys2Proof.Machine.execAnticollision lvl2 n known s
  | .select lvl2 id => Sys2Proof.Machine.execSelect lvl2 id s
  | .hlta => Sys2Proof.Machine.execHlta s
  | .rats => Sys2Proof.Machine.execRats s
  | .selectApplication aid => Sys2Proof.Machine.execSelectApplication aid s
  | .selectFile fid => Sys2Proof.Machine.execSelectFile fid s
  | .readBinary off le => Sys2Proof.Machine.execReadBinary off le s
  | .updateBinary off data => Sys2Proof.Machine.execUpdateBinary off data s
  | .getChallenge => Sys2Proof.Machine.execGetChallenge s
  | .externalAuthenticate k data => Sys2Proof.Machine.execExternalAuthenticate k data s
  | .instructionNotSupported => Sys2Proof.Machine.execInstructionNotSupported s
  | .sDeselect => Sys2Proof.Machine.execSDeselect s
  | .rBlock nak num => Sys2Proof.Machine.execRBlock nak num s
  | .wtxResponse => Sys2Proof.Machine.execWtxResponse s
  | .sWtxSend => Sys2Proof.Machine.execSWtxSend s
  | .pageWriteStepDone fail => Sys2Proof.Machine.execPageWriteStepDone fail s
  | .writeGateOpen reserve => Sys2Proof.Machine.execWriteGateOpen reserve s
  | .writeAbandoned => Sys2Proof.Machine.execWriteAbandoned s
  | .hcmdRead m page npages => Sys2Proof.Machine.execHcmdRead m page npages s
  | .hcmdWrite m page npages => Sys2Proof.Machine.execHcmdWrite m page npages s
  | .keyCmd m slot rights => Sys2Proof.Machine.execKeyCmd m slot rights s
  | .flashKey m v => Sys2Proof.Machine.execFlashKey m v s
  | .program m addr d0 d1 d2 d3 raw => Sys2Proof.Machine.execProgram m addr d0 d1 d2 d3 raw s
  | .erasePage m addr => Sys2Proof.Machine.execErasePage m addr s
  | .eraseBlock m addr => Sys2Proof.Machine.execEraseBlock m addr s
  | .eraseBank m addr => Sys2Proof.Machine.execEraseBank m addr s
  | .suspend m => Sys2Proof.Machine.execSuspend m s
  | .eraseSuspended => Sys2Proof.Machine.execEraseSuspended s
  | .resume m => Sys2Proof.Machine.execResume m s
  | .setRdp m addr => Sys2Proof.Machine.execSetRdp m addr s
  | .rdpLoweringStepDone => Sys2Proof.Machine.execRdpLoweringStepDone s
  | .flashPulseDone ok => Sys2Proof.Machine.execFlashPulseDone ok s
  | .flashRead m kind addr size wrong => Sys2Proof.Machine.execFlashRead m kind addr size wrong s
  | .pgmPulsesClear m => Sys2Proof.Machine.execPgmPulsesClear m s
  | .ersPulsesClear m => Sys2Proof.Machine.execErsPulsesClear m s
  | .atticBegin hdr ok => Sys2Proof.Machine.execAtticBegin hdr ok s
  | .atticStage p src len ok => Sys2Proof.Machine.execAtticStage p src len ok s
  | .atticInstall handoff => Sys2Proof.Machine.execAtticInstall handoff s
  | .atticStatus info => Sys2Proof.Machine.execAtticStatus info s
  | .atticOwnerLock cmd ok => Sys2Proof.Machine.execAtticOwnerLock cmd ok s
  | .atticLinkLoad => Sys2Proof.Machine.execAtticLinkLoad s
  | .atticAbandon ok => Sys2Proof.Machine.execAtticAbandon ok s
  | .appendJ m ok => Sys2Proof.Machine.execAppendJ m ok s
  | .appendS m ok => Sys2Proof.Machine.execAppendS m ok s
  | .copy m => Sys2Proof.Machine.execCopy m s
  | .copyPageDone fail => Sys2Proof.Machine.execCopyPageDone fail s
  | .pfwWrite m => Sys2Proof.Machine.execPfwWrite m s
  | .pfwPageDone ok => Sys2Proof.Machine.execPfwPageDone ok s
  | .pfwSelect m => Sys2Proof.Machine.execPfwSelect m s
  | .setLock m => Sys2Proof.Machine.execSetLock m s
  | .clearLock m => Sys2Proof.Machine.execClearLock m s
  | .motionEdge rising => Sys2Proof.Machine.execMotionEdge rising s
  | .movingExpire speed => Sys2Proof.Machine.execMovingExpire speed s
  | .lowbatSample v => Sys2Proof.Machine.execLowbatSample v s
  | .installResume => Sys2Proof.Machine.execInstallResume s
  | .flashHoldRetry => Sys2Proof.Machine.execFlashHoldRetry s
  | .pwrCmdRun m => Sys2Proof.Machine.execPwrCmdRun m s
  | .pwrCmdIdle m => Sys2Proof.Machine.execPwrCmdIdle m s
  | .pwrCmdSleep m => Sys2Proof.Machine.execPwrCmdSleep m s
  | .pwrCmdDeep m => Sys2Proof.Machine.execPwrCmdDeep m s
  | .pwrCmdOff m => Sys2Proof.Machine.execPwrCmdOff m s
  | .entryStepDone wfi => Sys2Proof.Machine.execEntryStepDone wfi s
  | .pwrAck m v => Sys2Proof.Machine.execPwrAck m v s
  | .ackTimeout => Sys2Proof.Machine.execAckTimeout s
  | .wakePinEvent level => Sys2Proof.Machine.execWakePinEvent level s
  | .hostpWakeEdge => Sys2Proof.Machine.execHostpWakeEdge s
  | .canWake n pattern => Sys2Proof.Machine.execCanWake n pattern s
  | .linWakeDetect => Sys2Proof.Machine.execLinWakeDetect s
  | .wakeDone => Sys2Proof.Machine.execWakeDone s
  | .offWakeCellarRestart test => Sys2Proof.Machine.execOffWakeCellarRestart test s
  | .listenWake r => Sys2Proof.Machine.execListenWake r s
  | .listenEnd => Sys2Proof.Machine.execListenEnd s
  | .supplyWarn => Sys2Proof.Machine.execSupplyWarn s
  | .supplyRecovery us => Sys2Proof.Machine.execSupplyRecovery us s
  | .dipSample mv => Sys2Proof.Machine.execDipSample mv s
  | .domRst m d => Sys2Proof.Machine.execDomRst m d s
  | .domainResetRelease d => Sys2Proof.Machine.execDomainResetRelease d s
  | .modeWrite m v rom => Sys2Proof.Machine.execModeWrite m v rom s
  | .calCapture m => Sys2Proof.Machine.execCalCapture m s
  | .captureDone => Sys2Proof.Machine.execCaptureDone s
  | .calCommit m => Sys2Proof.Machine.execCalCommit m s
  | .commitDone => Sys2Proof.Machine.execCommitDone s
  | .alarmArm m mask => Sys2Proof.Machine.execAlarmArm m mask s
  | .alarmDisarm m mask => Sys2Proof.Machine.execAlarmDisarm m mask s
  | .alarmFire => Sys2Proof.Machine.execAlarmFire s
  | .epochWrap => Sys2Proof.Machine.execEpochWrap s
  | .oscStop => Sys2Proof.Machine.execOscStop s
  | .oscResume => Sys2Proof.Machine.execOscResume s
  | .osfClear m => Sys2Proof.Machine.execOsfClear m s
  | .backupSwitch onBackup => Sys2Proof.Machine.execBackupSwitch onBackup s
  | .calPowerUp => Sys2Proof.Machine.execCalPowerUp s
  | .trimWrite m v => Sys2Proof.Machine.execTrimWrite m v s
  | .ppsEdge rising cycles => Sys2Proof.Machine.execPpsEdge rising cycles s
  | .ppsLost => Sys2Proof.Machine.execPpsLost s
  | .timCompareMatch t second => Sys2Proof.Machine.execTimCompareMatch t second s
  | .timWrap t => Sys2Proof.Machine.execTimWrap t s
  | .timCapture t rising => Sys2Proof.Machine.execTimCapture t rising s
  | .timEventStart t => Sys2Proof.Machine.execTimEventStart t s
  | .topWrite m t v => Sys2Proof.Machine.execTopWrite m t v s
  | .timSnap m k => Sys2Proof.Machine.execTimSnap m k s
  | .lptimMatch n => Sys2Proof.Machine.execLptimMatch n s
  | .lptimWrap n => Sys2Proof.Machine.execLptimWrap n s
  | .wdaWarn => Sys2Proof.Machine.execWdaWarn s
  | .wdaTimeout => Sys2Proof.Machine.execWdaTimeout s
  | .wdaKick m v => Sys2Proof.Machine.execWdaKick m v s
  | .wdlWarn => Sys2Proof.Machine.execWdlWarn s
  | .wdlTimeout => Sys2Proof.Machine.execWdlTimeout s
  | .wdlKick v => Sys2Proof.Machine.execWdlKick v s
  | .evmSwWrite m v => Sys2Proof.Machine.execEvmSwWrite m v s
  | .hostCmdHeader typ seq op len hcrc payload pcrc => Sys2Proof.Machine.execHostCmdHeader typ seq op len hcrc payload pcrc s
  | .hostFrameTimeout => Sys2Proof.Machine.execHostFrameTimeout s
  | .hostInterimStatus => Sys2Proof.Machine.execHostInterimStatus s
  | .status => Sys2Proof.Machine.execStatus s
  | .setPower => Sys2Proof.Machine.execSetPower s
  | .getWake => Sys2Proof.Machine.execGetWake s
  | .floorReload => Sys2Proof.Machine.execFloorReload s
  | .appMsg => Sys2Proof.Machine.execAppMsg s
  | .rspGo m => Sys2Proof.Machine.execRspGo m s
  | .appTmoExpire => Sys2Proof.Machine.execAppTmoExpire s
  | .postGo m => Sys2Proof.Machine.execPostGo m s
  | .cipherJob => Sys2Proof.Machine.execCipherJob s
  | .setBaud => Sys2Proof.Machine.execSetBaud s
  | .sysReset => Sys2Proof.Machine.execSysReset s
  | .txReqWrite m n v idle => Sys2Proof.Machine.execTxReqWrite m n v idle s
  | .txCancel m n v => Sys2Proof.Machine.execTxCancel m n v s
  | .canTxDone n => Sys2Proof.Machine.execCanTxDone n s
  | .canFrameRx n w0 w1 data => Sys2Proof.Machine.execCanFrameRx n w0 w1 data s
  | .canBusError n kind => Sys2Proof.Machine.execCanBusError n kind s
  | .canInitWrite m n v => Sys2Proof.Machine.execCanInitWrite m n v s
  | .canIntegrationDone n => Sys2Proof.Machine.execCanIntegrationDone n s
  | .busOffRecovery n => Sys2Proof.Machine.execBusOffRecovery n s
  | .rxPop m n => Sys2Proof.Machine.execRxPop m n s
  | .headerPub m => Sys2Proof.Machine.execHeaderPub m s
  | .headerSub m => Sys2Proof.Machine.execHeaderSub m s
  | .publish m late => Sys2Proof.Machine.execPublish m late s
  | .subscribe m => Sys2Proof.Machine.execSubscribe m s
  | .linWake m => Sys2Proof.Machine.execLinWake m s
  | .linAbort m => Sys2Proof.Machine.execLinAbort m s
  | .linHeaderRx id parityOk syncOk => Sys2Proof.Machine.execLinHeaderRx id parityOk syncOk s
  | .linResponseEnd readBack data sum => Sys2Proof.Machine.execLinResponseEnd readBack data sum s
  | .linResponseTimeout => Sys2Proof.Machine.execLinResponseTimeout s
  | .outSet m v => Sys2Proof.Machine.execOutSet m v s
  | .outClr m v => Sys2Proof.Machine.execOutClr m v s
  | .gpioEdge pin high => Sys2Proof.Machine.execGpioEdge pin high s
  | .adcStart m => Sys2Proof.Machine.execAdcStart m s
  | .adcStop m => Sys2Proof.Machine.execAdcStop m s
  | .adcConversionDone code => Sys2Proof.Machine.execAdcConversionDone code s
  | .adcFifoRead m => Sys2Proof.Machine.execAdcFifoRead m s
  | .i2cGo m addr read len stop => Sys2Proof.Machine.execI2cGo m addr read len stop s
  | .i2cDataWrite m v => Sys2Proof.Machine.execI2cDataWrite m v s
  | .i2cDataRead m => Sys2Proof.Machine.execI2cDataRead m s
  | .i2cDone nack last data n => Sys2Proof.Machine.execI2cDone nack last data n s
  | .i2cArbLost => Sys2Proof.Machine.execI2cArbLost s
  | .i2cStretchTimeout => Sys2Proof.Machine.execI2cStretchTimeout s
  | .spimGo m len => Sys2Proof.Machine.execSpimGo m len s
  | .spimDataWrite m v => Sys2Proof.Machine.execSpimDataWrite m v s
  | .spimDataRead m => Sys2Proof.Machine.execSpimDataRead m s
  | .spimDone data last => Sys2Proof.Machine.execSpimDone data last s
  | .injKey m v => Sys2Proof.Machine.execInjKey m v s
  | .injMode m v => Sys2Proof.Machine.execInjMode m v s
  | .inflightClear m n => Sys2Proof.Machine.execInflightClear m n s
  | .faultLogClear m => Sys2Proof.Machine.execFaultLogClear m s
  | .dmaSwElement ch => Sys2Proof.Machine.execDmaSwElement ch s
  | .lsCntRecentAge => Sys2Proof.Machine.execLsCntRecentAge s
  | .pllRelock => Sys2Proof.Machine.execPllRelock s
  | .setRdpDone => Sys2Proof.Machine.execSetRdpDone s
  | .pdCalLost => Sys2Proof.Machine.execPdCalLost s
  | .vnfcRestored => Sys2Proof.Machine.execVnfcRestored s
  | .vioRailChange rail low => Sys2Proof.Machine.execVioRailChange rail low s
  | .debugHalt => Sys2Proof.Machine.execDebugHalt s
  | .debugResume => Sys2Proof.Machine.execDebugResume s
  | .maxdurUsExpire r => Sys2Proof.Machine.execMaxdurUsExpire r s

end Sys2Proof.Machine
end

