-- ==== Sys2Proof/Machine/Tick.lean ====
section
/-!
DEFINITION. Machine/Tick.lean: what the block does by itself in 1/16 µs when no command waits.
-/
namespace Sys2Proof.Machine

open Sys2Proof

/-- R21 to R24: LINK_TIME counts one 16 MHz tick while the LINK island counts it; a CELLAR edge falls every 15625/32 ticks while
the Cellar is powered. -/
def State.ltTick (s : State) : State :=
  let s1 := s.when (!s.on R.HALL_CLK_STAT_LT_SRC && s.domOn 6 && s.islOn 3) fun s => s.ltCount 1
  let p := s1.rd L.LT_PH + 32
  if !s1.domOn 1 then s1
  else if p < 15625 then s1.wr L.LT_PH p
  else (s1.wr L.LT_PH (p - 15625)).ltEdge

/-- R447: the oldest frame queued for the host leaves while the port is on and its pads are powered. -/
def State.hostTick (s : State) : State :=
  if s.online 33 && !s.on (L.VIO_LOW 0) then { s with htx := s.htx.tail } else s

/-- R437, R467: the ADC trigger: the raising of the level of event EVM_ADC_TRIG.SEL starts a sequence where TRIG selects
it; one that arrives during a sequence sets TRIG_MISS. AD_EV holds the event and its level as last seen. -/
def State.adcTrig (s : State) : State :=
  let sel := s.rd R.EVM_ADC_TRIG_SEL
  let rose := s.rd L.AD_EV == 2 * sel + 1 && s.evLevel sel && s.on R.EVM_ADC_TRIG_EN && s.on R.ADC_SEQ_CFG_TRIG && s.online 38
  let s1 := s.wr L.AD_EV (2 * sel + b2n (s.evLevel sel) + 1)
  if !rose then s1 else if s1.on R.ADC_STAT_BUSY then s1.wr R.ADC_EVT_TRIG_MISS 1 else s1.adcStart

/-- 1/16 µs with no command: LINK_TIME, the timers (six PERIPH cycles, R421), the calendar (R404), the host port's queue
(R447), the resident loader (R365), the ADC's trigger (R437), and a reset that a fault's reaction has called for (R476). DESIGN CHOICE: the rows that
name an elapsed time or an occurrence of their own are events of the table and happen when it commands them. -/
def State.tick (s : State) : State := ((((s.ltTick.timCycles 6).calTick).hostTick.attTick).settle).adcTrig

end Sys2Proof.Machine
end

