-- ==== Sys2Proof/Safety.lean ====
section
/-!
DEFINITION. Safety.lean: the invariants of the block's state and the frames of its commands, in the terms the statements use.
-/
namespace Sys2Proof.Safety

open Sys2Proof.Machine

/-! ### Invariants -/

/-- The Porch's memory in its canonical form: addresses rise strictly and no entry equals what its octet reads as at
manufacture (R309). -/
def porchWf (m : List Host.Cell) : Bool :=
  Cells.rising none m && m.all (fun p => decide (porchDflt p.1 ≠ p.2))

/-- The Porch's program store in its canonical form: addresses rise strictly. -/
def porchFwWf (m : List Host.Cell) : Bool := Cells.rising none m

/-- The three memories of the state in their canonical forms. -/
def MemInv (s : State) : Prop :=
  Memory.wf s.mem = true ∧ porchWf s.porch = true ∧ porchFwWf s.porchFw = true

/-- R21: LINK_TIME holds 0 in its four fraction bits. -/
def FractionInv (s : State) : Prop := s.lt % 16 = 0

/-- What every step keeps. -/
def Inv (s : State) : Prop := MemInv s ∧ FractionInv s

/-! ### When a command is taken -/

/-- R31, R32, R477: a transfer of a master to an address of an island is not held back: the core's protection regions let it load and
store there, no stalled write holds the crossing, and no injected stall withholds the acknowledge. -/
abbrev Open (s : State) (m : Master) (a isl : Nat) : Prop :=
  s.allowed m a .load = true ∧ s.allowed m a .store = true ∧ s.crossHeld m isl = false ∧ s.stallHit m isl = false

/-- R30, R42: a bus access of a master to the register of a field is taken: the master reaches the block, the block's domain and clock
are on, and nothing holds the transfer back. -/
abbrev Taken (s : State) (m : Master) (f : Fld) : Prop :=
  s.reaches m f.blk = true ∧ s.online f.blk = true ∧ Open s m (blockAddr f.blk f.off) (blkIsl f.blk)

/-- Bus accesses of a master to the registers of several fields are taken. -/
abbrev TakenAll (s : State) (m : Master) (fs : List Fld) : Prop := ∀ f ∈ fs, Taken s m f

/-- No reset that a reaction has called for waits to be taken (R476). -/
abbrev Settled (s : State) : Prop := s.on L.DUE_LANE = false ∧ s.on L.DUE_DOM = false ∧ s.on L.DUE_SYS = false

/-- R479: no injection is armed. -/
abbrev NoInjection (s : State) : Prop := s.on L.INJ_ON = false

/-- R476: no detector is set to reset anything by its reaction. -/
abbrev NoResets (s : State) : Prop := ∀ i < 64, s.react i ≤ 1

/-- No reset waits, no injection is armed and no reaction resets anything. -/
abbrev Calm (s : State) : Prop := Settled s ∧ NoInjection s ∧ NoResets s

/-! ### Frames -/

/-- Every register field and latch whose key is none of the listed fields' reads as before. -/
def RegsBut (fs : List Fld) (s t : State) : Prop := ∀ g : Fld, (∀ f ∈ fs, g.key ≠ f.key) → t.rd g = s.rd g

/-- Every FIFO but the listed ones holds what it held. -/
def FifosBut (fs : List Fld) (s t : State) : Prop := ∀ g : Fld, (∀ f ∈ fs, g.key ≠ f.key) → t.ff g = s.ff g

/-- Every byte of every memory reads as before. -/
def MemKept (s t : State) : Prop := (∀ a, t.rdB a = s.rdB a) ∧ (∀ a, t.rdP a = s.rdP a) ∧ t.porchFw = s.porchFw

/-- The event queue, the late writes, the buffers the zero engine fills first, the radio events, the host frames and the host commands are as before. -/
def ListsKept (s t : State) : Prop :=
  t.evq = s.evq ∧ t.late = s.late ∧ t.zq = s.zq ∧ t.armed = s.armed ∧ t.running = s.running ∧ t.htx = s.htx ∧ t.hcmd = s.hcmd

/-- Nothing but the listed registers and the listed FIFOs changes (the answer to a bus master apart). -/
def Only (fs qs : List Fld) (s t : State) : Prop :=
  RegsBut fs s t ∧ FifosBut qs s t ∧ MemKept s t ∧ ListsKept s t ∧ t.plan = s.plan ∧ t.pending = s.pending

end Sys2Proof.Safety
end

