-- ==== Sys2Proof/WellFormed.lean ====
section
/-!
DEFINITION. WellFormed.lean: which operands the outside world can present. The types bound most operands; what is left is
that a bus value fits its size, that octet lists are no longer than the frames they come in, and that a context word index names a
word. The machine answers ill-formed commands too: nothing depends on this check.
-/
namespace Sys2Proof

/-- R4: a bus value fits the size of its access. -/
def fits (size : Size) (val : Word) : Bool := decide (val.toNat < 256 ^ size.bytes)

/-- R122: Stratus gives two samples for each symbol. -/
def wholeSymbols (r : Radio) (smp : List Sample) : Bool := r == .cirrus || smp.length % 2 == 0

/-- Whether a command's operands are ones the outside can present: R4 (bus values), R122 (two samples for
each Stratus symbol), R113 (2047 octets of a frame), R149 (at most one source address), R162 (16 words of a context), R308 and R311 (an APDU's octets),
R445 (a payload no longer than LEN), R456 (64 octets), R462 (8 octets), R470, R471. -/
def wellFormed : Instr → Bool
  | .registerWrite _ _ size val => fits size val
  | .syncMatch r pre sync _ _ _ _ => wholeSymbols r (pre ++ sync)
  | .phrReceived r ci term hdr tail pad => wholeSymbols r (ci ++ term ++ hdr ++ tail ++ pad)
  | .rxReport r body check term tail pad => wholeSymbols r (body ++ check ++ term ++ tail ++ pad)
  | .agcUpdate r _ _ _ smp => wholeSymbols r smp
  | .eqTrainEnd _ fst snd => fst.length == snd.length
  | .frameIdentify _ a => !(a.srcExt.isSome && a.srcShort.isSome)
  | .ctxWindowStore _ _ size val => fits size val
  | .ctxSnap _ _ errs => errs.all (fun e => decide (e.1 < 16))
  | .ctxScrub errs => errs.all (fun e => decide (e.1 < 16))
  | .verdict _ f _ _ errs => decide (f.hdr.length + f.body.length + f.mic.length ≤ 2047) && decide (f.mic.length ≤ 16) && errs.all (fun e => decide (e.1 < 16))
  | .anticollision _ n _ => decide (n.toNat ≤ 40)
  | .selectApplication aid => decide (aid.data.length ≤ 255)
  | .updateBinary _ data => decide (data.data.length ≤ 255)
  | .externalAuthenticate _ data => decide (data.data.length ≤ 255)
  | .hostCmdHeader _ _ _ len _ payload _ => decide (payload.length ≤ len.toNat)
  | .canFrameRx _ _ _ data => decide (data.length ≤ 64)
  | .linResponseEnd _ data _ => decide (data.length ≤ 8)
  | .i2cDone _ _ data _ => decide (data.length ≤ 255)
  | .spimDone data _ => decide (data.length ≤ 65535)
  | .por _ | .bor | .borRelease _ | .pinReset | .pinResetRelease _ | .sysRstKey _ _ | .dbgReset | .floorLoadDone _
  | .reload _ | .reloadDone _ | .hfxoLoss | .pllRelockHfrc | .pllUnlock | .hfxoQualified | .wakeHfxoTimeout
  | .returnHfxo _ | .returnHfxoDone _ | .lfxoLost | .linkTimeResume _ | .ltSnap _ | .stallDetectorFire _ _ _
  | .lateWriteDone _ | .stallLogClear _ | .dmaChannelStart _ _ _ | .dmaChannelStop _ _ _ | .dmaRequest _
  | .radioNop _ _ | .radioIdle _ _ | .radioRx _ _ | .radioTx _ _ | .radioCal _ _ | .radioAbort _ _ | .radioOff _ _
  | .radioTransitionDone _ | .calDone _ _ _ _ | .rxStartTime _ | .txStartTime _ | .txLastBit _ | .rampDownEnd _ _
  | .txSettleTimeout _ | .directWrite _ _ _ | .synthUnlock _ | .femPinLead _ _ _ | .coexReqAssert _ | .coexReqRelease _
  | .coexGntSample _ _ | .coexGntLost _ | .preambleDetect _ _ _ | .syncTimeout _ | .ccaDone _ _ | .lastStatRead _ _
  | .txfifoWrite _ _ _ | .txUnderrun _ | .rxfifoRead _ _ | .fifoFlush _ _ | .lockstepMismatch _ | .lsRestart
  | .lsRelease _ | .txEncrypt _ _ _ _ _ | .ctxAlloc _ _ | .ctxFree _ _ | .ctxFreeDone | .evqPop _ | .mcSwap _
  | .mcCheckDone | .mcYield _ | .mcYieldTimeout | .appcmdGo _ | .appcmdDone _ _ | .mcPostGo _ | .vlatClear _ | .armGo _
  | .cancel _ _ | .rxWindow _ | .macTx _ | .macTxAck _ | .ccaTxAck _ | .leConnEvent _ | .leAdvEvent _ | .leScan _
  | .beaconTx _ | .beaconRx _ | .ackWaitTimeout _ | .rxWindowClose _ | .ftOfsHiWrite _ _ | .dutyBucketRoll _
  | .dutyWindowFull _ | .laneResetDone _ | .keystoreLoadDone _ | .keyDerived _ _ | .keyseqWrite _ _
  | .keyProvision _ _ _ _ | .keyProgDone _ | .keyRevoke _ _ | .revokeDone | .jobGo _ _ | .jobEnd _ _ _ _ _
  | .jobAbort _ _ | .lockAcquire _ _ | .lockRelease _ _ | .lockReleaseDone | .lockForce _ _ | .swkeyWrite _ _ _
  | .ivRead _ _ | .ivWrite _ _ | .draw _ _ _ | .tktWrite _ _ _ _ | .hintCmd _ _ _ | .hintExpire _ _ | .hintBlockEnd _ _
  | .bufAlloc _ _ _ | .bufAllocDone _ | .bufXfer _ _ _ _ | .xferDone _ _ | .descWrite _ _ | .bufferZeroed _
  | .auditPassEnd _ | .reclaimDone | .chkUseWrite _ _ _ | .chkStart _ _ | .dinW _ _ _ | .dinH _ _ _ | .dinB _ _ _
  | .chkRunWrite _ _ _ | .chkCountWrite _ _ _ | .fieldOn _ | .fieldOff _ | .inventory _ | .transceive _ | .nfcAbort _
  | .nfcSynLocked | .caIntervalEnd | .extField _ | .guardEnd | .nfcFrameSent | .piccResponse _ _ _ _ _
  | .responseTimeout | .ilim _ | .vnfcLow | .porchFieldArrival | .porchFieldLoss | .porchPowerUp _ | .reqa | .wupa
  | .select _ _ | .hlta | .rats | .selectFile _ | .readBinary _ _ | .getChallenge | .instructionNotSupported
  | .sDeselect | .rBlock _ _ | .wtxResponse | .sWtxSend | .pageWriteStepDone _ | .writeGateOpen _ | .writeAbandoned
  | .hcmdRead _ _ _ | .hcmdWrite _ _ _ | .keyCmd _ _ _ | .flashKey _ _ | .program _ _ _ _ _ _ _ | .erasePage _ _
  | .eraseBlock _ _ | .eraseBank _ _ | .suspend _ | .eraseSuspended | .resume _ | .setRdp _ _ | .rdpLoweringStepDone
  | .flashPulseDone _ | .flashRead _ _ _ _ _ | .pgmPulsesClear _ | .ersPulsesClear _ | .atticBegin _ _
  | .atticStage _ _ _ _ | .atticInstall _ | .atticStatus _ | .atticOwnerLock _ _ | .atticLinkLoad | .atticAbandon _
  | .appendJ _ _ | .appendS _ _ | .copy _ | .copyPageDone _ | .pfwWrite _ | .pfwPageDone _ | .pfwSelect _ | .setLock _
  | .clearLock _ | .motionEdge _ | .movingExpire _ | .lowbatSample _ | .installResume | .flashHoldRetry | .pwrCmdRun _
  | .pwrCmdIdle _ | .pwrCmdSleep _ | .pwrCmdDeep _ | .pwrCmdOff _ | .entryStepDone _ | .pwrAck _ _ | .ackTimeout
  | .wakePinEvent _ | .hostpWakeEdge | .canWake _ _ | .linWakeDetect | .wakeDone | .offWakeCellarRestart _
  | .listenWake _ | .listenEnd | .supplyWarn | .supplyRecovery _ | .dipSample _ | .domRst _ _ | .domainResetRelease _
  | .modeWrite _ _ _ | .calCapture _ | .captureDone | .calCommit _ | .commitDone | .alarmArm _ _ | .alarmDisarm _ _
  | .alarmFire | .epochWrap | .oscStop | .oscResume | .osfClear _ | .backupSwitch _ | .calPowerUp | .trimWrite _ _
  | .ppsEdge _ _ | .ppsLost | .timCompareMatch _ _ | .timWrap _ | .timCapture _ _ | .timEventStart _ | .topWrite _ _ _
  | .timSnap _ _ | .lptimMatch _ | .lptimWrap _ | .wdaWarn | .wdaTimeout | .wdaKick _ _ | .wdlWarn | .wdlTimeout
  | .wdlKick _ | .evmSwWrite _ _ | .hostFrameTimeout | .hostInterimStatus | .status | .setPower | .getWake
  | .floorReload | .appMsg | .rspGo _ | .appTmoExpire | .postGo _ | .cipherJob | .setBaud | .sysReset
  | .txReqWrite _ _ _ _ | .txCancel _ _ _ | .canTxDone _ | .canBusError _ _ | .canInitWrite _ _ _
  | .canIntegrationDone _ | .busOffRecovery _ | .rxPop _ _ | .headerPub _ | .headerSub _ | .publish _ _ | .subscribe _
  | .linWake _ | .linAbort _ | .linHeaderRx _ _ _ | .linResponseTimeout | .outSet _ _ | .outClr _ _ | .gpioEdge _ _
  | .adcStart _ | .adcStop _ | .adcConversionDone _ | .adcFifoRead _ | .i2cGo _ _ _ _ _ | .i2cDataWrite _ _
  | .i2cDataRead _ | .i2cArbLost | .i2cStretchTimeout | .spimGo _ _ | .spimDataWrite _ _ | .spimDataRead _
  | .injKey _ _ | .injMode _ _ | .inflightClear _ _ | .faultLogClear _ | .dmaSwElement _ | .lsCntRecentAge | .pllRelock
  | .setRdpDone | .pdCalLost | .vnfcRestored | .vioRailChange _ _ | .debugHalt | .debugResume | .maxdurUsExpire _ => true

end Sys2Proof
end

