-- ==== Sys2Proof/Certificates/Slice0/Obligations.lean ====
section
/-!
DEFINITION. Certificates/Slice0/Obligations.lean: the statements for the provers.
-/

open Sys2Proof Sys2Proof.Machine Sys2Proof.Safety

/-- A step is exec of the command in front on the state with the queue's rest; with no command it is a tick, which is the model's
own choice (assumption 3). -/
def Obligations.StepRunsFrontCommand : Prop :=
  (∀ (s : State) (c : Instr) (rest : List Instr), step { s with pending := c :: rest } = exec c { s with pending := rest }) ∧
  (∀ s : State, s.pending = [] → step s = .next s.tick)

/-- R12, R24, R268, R402, R481: the machine right after power-on reset. -/
def Obligations.ResetState : Prop :=
  State.reset.rd R.SYSCTL_RST_CAUSE_KIND = 1 ∧
  (∀ f : Fld, f.key ≠ R.SYSCTL_RST_CAUSE_KIND.key → State.reset.rd f = f.rst) ∧
  State.reset.lt = 0 ∧ State.reset.rd R.SYSCTL_DOM_STAT = 3 ∧ State.reset.on L.FP_LOADING = true ∧
  (∀ a, memDflt a ≠ none → some (State.reset.rdB a) = memDflt a) ∧ (∀ a, State.reset.rdP a = porchDflt a) ∧
  (∀ f, State.reset.ff f = []) ∧ State.reset.evq = [] ∧ State.reset.armed = [] ∧ State.reset.running = [] ∧
  State.reset.htx = [] ∧ State.reset.hcmd = [] ∧ State.reset.late = [] ∧ State.reset.zq = [] ∧ State.reset.pending = []

/-- R21: the invariant that every step keeps holds at reset. -/
def Obligations.InvAtReset : Prop := Inv State.reset

/-- R21 to R23: every step keeps the invariant: the memories' canonical form, and 0 in the fraction bits of LINK_TIME. -/
def Obligations.InvKeptByStep : Prop :=
  ∀ s t : State, Inv s → step s = .next t → Inv t

/-- Every command completes, and the queue behind it is as it was: one step, one command, first in, first out. -/
def Obligations.EveryCommandCompletesAndKeepsTheQueue : Prop :=
  ∀ (c : Instr) (s : State), ∃ t, exec c s = .next t ∧ t.pending = s.pending

/-- R55, R56, R63, R481: whole-machine rule: the values the Floor Plan loader applied stand until a load, a reload or a reset that
loses the Cellar. -/
def Obligations.PlanChangesOnlyAtLoads : Prop :=
  ∀ (c : Instr) (s t : State), exec c s = .next t →
    (∀ errs, c ≠ .floorLoadDone errs) → (∀ errs, c ≠ .reloadDone errs) → (∀ b, c ≠ .por b) → c ≠ .bor →
    (∀ b, c ≠ .offWakeCellarRestart b) → t.plan = s.plan

/-- R4, R6, R7, R8, R32, R35, R37, R511: REGISTER_WRITE. -/
def Obligations.RegisterWrites : Prop :=
  ∀ (s : State) (m : Master) (v : Word), Settled s →
    (Taken s m R.SYSCTL_RESUME_ADDR →
      ∃ t, exec (.registerWrite m (.bus 0x40000034#32) .word v) s = .next t ∧ t.rd R.SYSCTL_RESUME_ADDR = v.toNat ∧ t.resp = .ok ∧
        Only [R.SYSCTL_RESUME_ADDR] [] s t) ∧
    (Taken s m R.SYSCTL_RST_CAUSE_KIND → s.rd R.SYSCTL_RST_CAUSE_KIND < 2 ^ 11 →
      ∃ t, exec (.registerWrite m (.bus 0x40000038#32) .word v) s = .next t ∧ t.resp = .ok ∧
        (∀ i < 11, bit (t.rd R.SYSCTL_RST_CAUSE_KIND) i = (bit (s.rd R.SYSCTL_RST_CAUSE_KIND) i && !bit v.toNat i)) ∧
        Only [R.SYSCTL_RST_CAUSE_KIND] [] s t) ∧
    (Taken s m R.SYSCTL_DEVID_PART →
      ∃ t, exec (.registerWrite m (.bus 0x40000004#32) .word v) s = .next t ∧ t.resp = .ok ∧ Only [] [] s t) ∧
    (Taken s m R.SYSCTL_CTRL_LOCK → s.rd R.SYSCTL_CTRL_LOCK < 2 →
      ∃ t, exec (.registerWrite m (.bus 0x40000000#32) .word v) s = .next t ∧ t.resp = .ok ∧
        t.on R.SYSCTL_CTRL_LOCK = (s.on R.SYSCTL_CTRL_LOCK || bit v.toNat 31) ∧
        t.rd R.SYSCTL_CTRL_IRQ_EN = (if s.on R.SYSCTL_CTRL_LOCK then s.rd R.SYSCTL_CTRL_IRQ_EN else bits v.toNat 0 0) ∧
        Only [R.SYSCTL_CTRL_IRQ_EN, R.SYSCTL_CTRL_LOCK] [] s t) ∧
    (∀ (a : Word) (z : Size), regionOf a.toNat = .sram → a.toNat % z.bytes = 0 → s.memReach m .sram a.toNat true = true →
      s.domOn (regionDom .sram) = true → s.islOn (regionIsl .sram) = true → Open s m a.toNat (regionIsl .sram) →
      ∃ t, exec (.registerWrite m (.bus a) z v) s = .next t ∧ t.resp = .ok ∧
        t.rdLe a.toNat z.bytes = v.toNat % 256 ^ z.bytes ∧
        (∀ c, (c < a.toNat ∨ a.toNat + z.bytes ≤ c) → t.rdB c = s.rdB c) ∧ RegsBut [] s t ∧
        FifosBut [L.DCACHE (a.toNat / 32 % 128)] s t ∧ ListsKept s t) ∧
    (∀ (a : Word) (b o : Nat), regionOf a.toNat = .block b o → a.toNat % 4 = 0 → busCommand m b o v.toNat = none →
      s.reaches m b = true → s.online b = true → Open s m (blockAddr b o) (blkIsl b) → s.allowed m a.toNat .store = true →
      exec (.registerWrite m (.bus a) .word v) s = .next ((s.regWrite m b o v.toNat).ok).settle) ∧
    (∀ (a : Word) (z : Size), a.toNat % z.bytes ≠ 0 → exec (.registerWrite m (.bus a) z v) s = .next (s.misalign m true)) ∧
    (∀ (a : Word) (z : Size), a.toNat % z.bytes = 0 → s.allowed m a.toNat .store = false ∨ regionOf a.toNat = .unmapped ∨
      (∃ b o, regionOf a.toNat = .block b o ∧ z ≠ .word) → exec (.registerWrite m (.bus a) z v) s = .next s.err) ∧
    (∀ z : Size, s.domOn 5 = true → s.islOn 2 = true → s.rd L.CPU_PRIV = 3 →
      (∃ t, exec (.registerWrite .app (.csr 0x306) z v) s = .next t ∧ t.resp = .ok ∧ t.rd L.MCOUNTEREN = v.toNat ∧ Only [L.MCOUNTEREN] [] s t) ∧
      (∀ i : Fin 16, s.pmpLocked i.val = false →
        ∃ t, exec (.registerWrite .app (.csr (BitVec.ofNat 12 (0x3B0 + i.val))) z v) s = .next t ∧ t.resp = .ok ∧
          t.rd (L.PMP_ADDR i.val) = v.toNat ∧ Only [L.PMP_ADDR i.val] [] s t))

/-- R24, R395, R399, R481, R484: the seven rows that cause or release a reset. -/
def Obligations.ResetCommands : Prop :=
  ∀ s : State,
    (∀ b : Bool, ∃ t, exec (.por b) s = .next t ∧ t.rd R.SYSCTL_RST_CAUSE_KIND = 1 ∧ t.lt = 0 ∧
      (∀ g : Fld, keyKeep g.key ∈ [1, 2, 3, 4] → g.key ≠ R.SYSCTL_RST_CAUSE_KIND.key → t.rd g = g.rst) ∧
      t.evq = [] ∧ t.armed = [] ∧ t.running = [] ∧ t.htx = [] ∧ t.plan = []) ∧
    (s.domOn 1 = true → bit (s.rd L.RST_HELD) 1 = false →
      ∃ t, exec .bor s = .next t ∧ t.rd R.SYSCTL_RST_CAUSE_KIND = 2 ∧ t.lt = 0 ∧ bit (t.rd L.RST_HELD) 1 = true ∧
        (∀ g : Fld, keyKeep g.key ∈ [1, 2, 3, 4] → g.key ≠ R.SYSCTL_RST_CAUSE_KIND.key → t.rd g = g.rst)) ∧
    (∀ b : Bool, bit (s.rd L.RST_HELD) 1 = true →
      ∃ t, exec (.borRelease b) s = .next t ∧ bit (t.rd L.RST_HELD) 1 = false ∧ t.on L.TEST_HOLD = b ∧
        Only [L.RST_HELD, L.TEST_HOLD] [] s t) ∧
    (s.domOn 1 = true → bit (s.rd L.RST_HELD) 0 = false →
      ∃ t, exec .pinReset s = .next t ∧ bit (t.rd R.SYSCTL_RST_CAUSE_KIND) 2 = true ∧ bit (t.rd L.RST_HELD) 0 = true ∧
        t.lt = s.lt ∧ t.rd R.SYSCTL_PWR_STAT_STATE = 0 ∧ t.on L.FP_LOADING = true ∧ (∀ d ∈ [5, 6, 7, 8, 9, 10, 11, 12], t.domOn d = false)) ∧
    (∀ b : Bool, bit (s.rd L.RST_HELD) 0 = true →
      ∃ t, exec (.pinResetRelease b) s = .next t ∧ bit (t.rd L.RST_HELD) 0 = false ∧ t.on L.TEST_HOLD = b ∧
        Only [L.RST_HELD, L.TEST_HOLD] [] s t) ∧
    (∀ m, Taken s m R.SYSCTL_SYS_RST_KEY →
      (∃ t, exec (.sysRstKey m 0xA5C3#16) s = .next t ∧ bit (t.rd R.SYSCTL_RST_CAUSE_KIND) 7 = true ∧ t.lt = s.lt ∧
        t.rd R.SYSCTL_PWR_STAT_STATE = 0 ∧ t.on L.FP_LOADING = true ∧ (∀ d ∈ [5, 6, 7, 8, 9, 10, 11, 12], t.domOn d = false)) ∧
      (∀ k : BitVec 16, k ≠ 0xA5C3#16 → exec (.sysRstKey m k) s = .next s.ok)) ∧
    (s.domOn 5 = true → s.rd R.FLASHC_RDP_LEVEL ≠ 2 → Settled s → s.on L.INJ_ON = false →
      ∃ t, exec .dbgReset s = .next t ∧ bit (t.rd R.SYSCTL_RST_CAUSE_KIND) 9 = true) ∧
    (s.rd R.FLASHC_RDP_LEVEL = 2 → exec .dbgReset s = .next s)

/-- R56, R62, R63: the three rows of the Floor Plan loader. -/
def Obligations.FloorPlanLoads : Prop :=
  ∀ s : State,
    (∀ m, Taken s m R.FLOOR_CMD_RELOAD → s.rd R.FLOOR_CTRL_LOCK = 0 → s.rd R.FLOOR_STATUS_RELOAD_BUSY = 0 →
      let idle (r : Radio) : Prop := s.rd (R.FE_STAT_STATE r) = 0 ∨ s.rd (R.FE_STAT_STATE r) = 1
      let run : Prop := s.rd R.SYSCTL_PWR_STAT_STATE = 0 ∧ s.rd R.SYSCTL_PWR_STAT_ENTERING = 0
      let quiet : Prop := idle .cirrus ∧ idle .stratus ∧ s.armed = [] ∧ s.running = []
      (run → quiet → s.rd R.FLASHC_STAT_BUSY0 = 0 →
        ∃ t, exec (.reload m) s = .next t ∧ t.rd R.FLOOR_STATUS_RELOAD_BUSY = 1 ∧ t.resp = .ok ∧ Only [R.FLOOR_STATUS_RELOAD_BUSY] [] s t) ∧
      (¬ run → ∃ t, exec (.reload m) s = .next t ∧ t.rd R.FLOOR_RELOAD_STAT_REASON = 2 ∧ Only [R.FLOOR_RELOAD_STAT_REASON] [] s t) ∧
      (run → ¬ quiet → ∃ t, exec (.reload m) s = .next t ∧ t.rd R.FLOOR_RELOAD_STAT_REASON = 3 ∧ Only [R.FLOOR_RELOAD_STAT_REASON] [] s t) ∧
      (run → quiet → s.rd R.FLASHC_STAT_BUSY0 ≠ 0 →
        ∃ t, exec (.reload m) s = .next t ∧ t.rd R.FLOOR_RELOAD_STAT_REASON = 4 ∧ Only [R.FLOOR_RELOAD_STAT_REASON] [] s t)) ∧
    (∀ m, Taken s m R.FLOOR_CMD_RELOAD → s.rd R.FLOOR_CTRL_LOCK ≠ 0 ∨ s.rd R.FLOOR_STATUS_RELOAD_BUSY ≠ 0 → exec (.reload m) s = .next s.ok) ∧
    (s.on R.FLOOR_STATUS_RELOAD_BUSY = true → s.rd R.SYSCTL_SUPPLY_STAT_WARN = 0 → s.hcmd = [] → Settled s → NoInjection s → s.ff L.FL_BAD = [] →
      s.rdLe (fpCopy 0) 4 ≠ 0x4E504C46 → s.rdLe (fpCopy 1) 4 ≠ 0x4E504C46 →
      ∃ t, exec (.reloadDone []) s = .next t ∧ t.rd R.FLOOR_STATUS_RELOAD_BUSY = 0 ∧ t.rd R.FLOOR_RELOAD_STAT_REASON = 5 ∧
        t.rd R.FLOOR_STATUS_A_ERR = 2 ∧ t.rd R.FLOOR_STATUS_B_ERR = 2 ∧ t.plan = s.plan ∧
        Only [R.FLOOR_STATUS_RELOAD_BUSY, R.FLOOR_RELOAD_STAT_REASON, R.FLOOR_STATUS_A_ERR, R.FLOOR_STATUS_B_ERR] [] s t) ∧
    (let used := s.fpUsed (s.fpErr 0) (s.fpErr 1)
     let w := s.fpBuild (s.fpImage used) (some fun typ num i => s.fpNow typ num i)
     s.on R.FLOOR_STATUS_RELOAD_BUSY = true → s.rd R.SYSCTL_SUPPLY_STAT_WARN = 0 → s.hcmd = [] → Calm s → s.ff L.FL_BAD = [] → used ≠ 0 →
      ∃ t, exec (.reloadDone []) s = .next t ∧ t.plan = fpStore w.vals ∧ t.rd R.FLOOR_STATUS_RELOAD_BUSY = 0 ∧ t.rd R.FLOOR_RELOAD_STAT_REASON = 1 ∧
        t.rd R.FLOOR_STATUS_USED = used ∧ t.rd R.FLOOR_STATUS_A_ERR = s.fpErr 0 ∧ t.rd R.FLOOR_STATUS_B_ERR = s.fpErr 1 ∧
        t.rd R.FLOOR_SEQ = s.rdLe (fpCopy (used - 1) + 8) 4 ∧ t.rd R.FLOOR_CLAMP_CNT = min w.rep.length 0xFFFF ∧
        t.rd R.FLOOR_DEFAULT_CNT = min w.deflt 0xFFFF ∧
        (∀ o, 1 ≤ o → o ≤ 8 → s.rd (R.PBM_SHARE o) < 2 ^ (R.PBM_SHARE o).wid → t.rd (R.PBM_SHARE o) = s.rd (R.PBM_SHARE o)) ∧
        (s.rd R.SYSCTL_PWR_CFG_AUTHORITY < 2 → t.rd R.SYSCTL_PWR_CFG_AUTHORITY = s.rd R.SYSCTL_PWR_CFG_AUTHORITY)) ∧
    (∀ errs, s.on R.SYSCTL_SUPPLY_STAT_WARN = true → exec (.reloadDone errs) s = .next s ∧ exec (.floorLoadDone errs) s = .next s) ∧
    (s.on L.FP_LOADING = true → s.rd L.RST_HELD = 0 → s.domOn 1 = true → s.rd R.FLASHC_RDP_LOWERING = 0 →
      s.rd R.SYSCTL_SUPPLY_STAT_WARN = 0 → Calm s → s.ff L.FL_BAD = [] →
      ∃ t, exec (.floorLoadDone []) s = .next t ∧ t.rd L.FP_LOADING = 0 ∧ t.rd R.FLOOR_STATUS_DONE = 1 ∧
        t.rd R.SYSCTL_PWR_STAT_STATE = 0 ∧ (∀ d ∈ [3, 4, 5, 6, 7, 11, 12], t.domOn d = true))

/-- R16 to R25, R477: the eleven rows of the clocks. -/
def Obligations.ClockEvents : Prop :=
  ∀ s : State, Calm s →
    (s.on R.HALL_CLK_STAT_HFXO_OK = true → s.rd R.HALL_CLK_STAT_PLL_SRC = 0 →
      ∃ t, exec .hfxoLoss s = .next t ∧ t.rd R.HALL_CLK_STAT_HFXO_OK = 0 ∧ t.rd R.HALL_CLK_EVT_HFXO_LOST = 1 ∧
        t.rd R.HALL_CLK_STAT_PLL_LOCK = 0 ∧ t.rd R.HALL_CLK_STAT_LT_SRC = 1 ∧ t.lt = s.lt ∧
        (∀ i ∈ [2, 3, 4, 5, 6, 7, 9, 10], t.islOn i = false) ∧ bit (t.rd R.FAULT_HIT_0) 0 = true) ∧
    (s.rd L.PLL_WAIT = 1 →
      ∃ t, exec .pllRelockHfrc s = .next t ∧ t.rd R.HALL_CLK_STAT_PLL_SRC = 1 ∧ t.rd R.HALL_CLK_STAT_PLL_LOCK = 1 ∧
        (s.on L.ENT_CLK = false → ∀ i ∈ [2, 3, 4, 9, 10], s.domOn (islDom i) = true → t.islOn i = true) ∧
        Only [R.HALL_CLK_STAT_PLL_SRC, R.HALL_CLK_STAT_PLL_LOCK, L.PLL_WAIT, R.HALL_CLK_STAT_RUN] [] s t) ∧
    (s.on R.HALL_CLK_STAT_PLL_LOCK = true →
      ∃ t, exec .pllUnlock s = .next t ∧ t.rd R.HALL_CLK_STAT_PLL_LOCK = 0 ∧ t.rd R.HALL_CLK_EVT_PLL_UNLOCK = 1 ∧
        t.rd R.HALL_CLK_STAT_LT_SRC = 1 ∧ t.lt = s.lt ∧ (∀ i ∈ [2, 3, 4, 5, 9, 10], t.islOn i = false) ∧ bit (t.rd R.FAULT_HIT_0) 1 = true) ∧
    (s.rd L.PLL_WAIT = 2 →
      ∃ t, exec .pllRelock s = .next t ∧ t.rd R.HALL_CLK_STAT_PLL_LOCK = 1 ∧
        (s.on L.ENT_CLK = false → ∀ i ∈ [2, 3, 4, 9, 10], s.domOn (islDom i) = true → t.islOn i = true) ∧
        Only [R.HALL_CLK_STAT_PLL_LOCK, L.PLL_WAIT, R.HALL_CLK_STAT_RUN] [] s t) ∧
    (s.rd R.HALL_CLK_STAT_HFXO_OK = 0 → s.domOn 1 = true → s.pwr ≤ 1 →
      ∃ t, exec .hfxoQualified s = .next t ∧ t.rd R.HALL_CLK_STAT_HFXO_OK = 1 ∧ Only [R.HALL_CLK_STAT_HFXO_OK] [] s t) ∧
    (∀ m, Taken s m R.HALL_CLK_CMD_RETURN_HFXO →
      (s.on R.HALL_CLK_STAT_HFXO_OK = true → s.on R.HALL_CLK_STAT_PLL_SRC = true → s.rd L.PLL_WAIT = 0 →
        ∃ t, exec (.returnHfxo m) s = .next t ∧ t.rd R.HALL_CLK_STAT_PLL_LOCK = 0 ∧ (∀ i ∈ [2, 3, 4, 5, 9, 10], t.islOn i = false) ∧
          Only [R.HALL_CLK_STAT_PLL_LOCK, L.PLL_WAIT, R.HALL_CLK_STAT_RUN] [] s t) ∧
      (s.on R.HALL_CLK_STAT_HFXO_OK = false ∨ s.on R.HALL_CLK_STAT_PLL_SRC = false → exec (.returnHfxo m) s = .next s.ok)) ∧
    (∀ c, s.rd L.PLL_WAIT = 3 → s.domOn 6 = true →
      ∃ t, exec (.returnHfxoDone c) s = .next t ∧ t.rd R.HALL_CLK_STAT_PLL_SRC = 0 ∧ t.rd R.HALL_CLK_STAT_PLL_LOCK = 1 ∧
        t.rd R.HALL_CLK_EVT_RETURNED = 1 ∧ t.rd R.HALL_CLK_STAT_LT_SRC = 0 ∧ t.lt = (s.carry c).lt ∧ t.rd L.PLL_WAIT = 0) ∧
    (s.rd R.HALL_CLK_STAT_LF_SRC = 0 → s.rd L.FP_LF_SRC = 0 → s.domOn 1 = true →
      ∃ t, exec .lfxoLost s = .next t ∧ t.rd R.HALL_CLK_STAT_LF_SRC = 1 ∧ t.rd R.HALL_CLK_STAT_LFXO_OK = 0 ∧
        t.rd R.HALL_CLK_EVT_LFXO_LOST = 1 ∧ bit (t.rd R.FAULT_HIT_0) 2 = true ∧ t.lt = s.lt) ∧
    (∀ c, s.on R.HALL_CLK_STAT_LT_SRC = true → s.on R.HALL_CLK_STAT_HFXO_OK = true → s.rd R.HALL_CLK_STAT_PLL_SRC = 0 →
      s.domOn 6 = true → s.islOn 3 = true →
      ∃ t, exec (.linkTimeResume c) s = .next t ∧ t.rd R.HALL_CLK_STAT_LT_SRC = 0 ∧ t.lt = (s.carry c).lt ∧
        Only [R.HALL_CLK_STAT_LT_SRC, L.LT, L.LT_ACC, L.LT_ODD, L.TR_CARRIED] [] s t) ∧
    (∀ m, Taken s m R.HALL_LT_CMD_SNAP → s.lt < 2 ^ 64 →
      ∃ t, exec (.ltSnap m) s = .next t ∧ t.rd R.HALL_LT_SNAP_LO + 2 ^ 32 * t.rd R.HALL_LT_SNAP_HI = s.lt ∧
        t.rd R.HALL_LT_STAT_SNAP_DONE = 1 ∧ t.lt = s.lt)

/-- R28 to R32, R40, R42, R44, R60: a command (one of each block, with the register it accesses and whether it writes it) that its
master may not send, or whose block the Hallway does not reach. -/
def Bus.RefusedRules (s : State) (m : Master) : Prop :=
  let log := [R.HALL_STALL_LOG_SRC, R.HALL_STALL_LOG_DST, R.HALL_STALL_LOG_REASON, R.HALL_STALL_LOG_WRITE, R.HALL_STALL_LOG_LATE_DONE,
    R.HALL_STALL_LOG_VALID, R.HALL_STALL_ADDR]
  ∀ p ∈ ([(.reload m, R.FLOOR_CMD_RELOAD, true), (.ltSnap m, R.HALL_LT_CMD_SNAP, true), (.sysRstKey m 0xA5C3, R.SYSCTL_SYS_RST_KEY, true),
       (.stallLogClear m, R.HALL_STALL_LOG_VALID, true), (.dmaChannelStart m 0 1, R.DMA_CH_CFG_EN 0, true),
       (.directWrite m .cirrus 1, R.FE_CTRL_DIRECT .cirrus, true), (.directWrite m .stratus 1, R.FE_CTRL_DIRECT .stratus, true),
       (.rxfifoRead m .cirrus, R.MDM_RXFIFO .cirrus, false), (.rxfifoRead m .stratus, R.MDM_RXFIFO .stratus, false),
       (.evqPop m, R.LINK_EVQ_CMD_POP, true), (.ctxFree m 0, R.CTX_FREE_CMD_GO, true), (.armGo m, R.MAC_ARM_GO, true),
       (.keyseqWrite m 0, R.KEYS_KEYSEQ, true), (.lockAcquire m 1, R.CIPHER_LOCK_CMD_OP, true), (.tktWrite m 0 1 1, R.ARB_TKT_TICKETS 0, true),
       (.descWrite m 0, if m = .link then R.PBM_L_DESC else R.PBM_A_DESC, true), (.chkStart m 0, R.CHK_CMD_START 0, true),
       (.nfcAbort m, R.NFCR_CMD_OP, true), (.hcmdRead m 0 1, R.PORCH_HCMD_GO, true), (.flashKey m 0, R.FLASHC_KEY, true),
       (.setLock m, R.ATTIC_CMD_OP, true), (.pwrCmdOff m, R.SYSCTL_PWR_CMD_GO, true), (.calCommit m, R.CAL_COMMIT_GO, true),
       (.topWrite m 0 0, R.TIM_TOP 0, true), (.wdaKick m 0, R.WDA_KICK_KEY, true), (.evmSwWrite m 1, R.EVM_SW, true), (.rspGo m, R.HOSTP_RSP_GO, true),
       (.rxPop m 0, R.CAN_RX_POP 0, true), (.rxPop m 1, R.CAN_RX_POP 1, true), (.headerPub m, R.LIN_CMD_OP, true), (.outSet m 1, R.GPIO_OUT_SET, true),
       (.adcFifoRead m, R.ADC_FIFO_DATA, false), (.i2cDataRead m, R.I2C_DATA, false), (.spimDataRead m, R.SPIM_DATA, false),
       (.injKey m 0x1D3, R.FAULT_INJ_KEY, true)] : List (Instr × Fld × Bool)),
    (s.reaches m p.2.1.blk = false → exec p.1 s = .next { s with resp := .error }) ∧
    (s.reaches m p.2.1.blk = true → s.allowed m (blockAddr p.2.1.blk p.2.1.off) (if p.2.2 then .store else .load) = true →
      s.present p.2.1.blk = true → s.clockWait (blkDom p.2.1.blk) (blkIsl p.2.1.blk) = true ∨
        (s.online p.2.1.blk = true ∧ s.crossHeld m (blkIsl p.2.1.blk) = true) → exec p.1 s = .next { s with resp := .waiting }) ∧
    (s.reaches m p.2.1.blk = true → s.allowed m (blockAddr p.2.1.blk p.2.1.off) (if p.2.2 then .store else .load) = true →
      s.online p.2.1.blk = false → s.clockWait (blkDom p.2.1.blk) (blkIsl p.2.1.blk) = false → ∃ t, exec p.1 s = .next t ∧ t.resp = .error ∧
      t.rd R.HALL_STALL_CNT = min (s.rd R.HALL_STALL_CNT + 1) 0xFFFF ∧
      (s.rd R.HALL_STALL_LOG_VALID = 0 → t.rd R.HALL_STALL_LOG_VALID = 1 ∧ t.rd R.HALL_STALL_LOG_SRC = masterIsl m ∧
        t.rd R.HALL_STALL_LOG_DST = blkIsl p.2.1.blk ∧ t.rd R.HALL_STALL_LOG_REASON = 2 ∧ t.rd R.HALL_STALL_LOG_WRITE = b2n p.2.2 ∧
        t.rd R.HALL_STALL_LOG_LATE_DONE = 0 ∧ t.rd R.HALL_STALL_ADDR = blockAddr p.2.1.blk p.2.1.off) ∧
      (s.rd R.HALL_STALL_LOG_VALID ≠ 0 → ∀ f ∈ log, t.rd f = s.rd f) ∧ Only (R.HALL_STALL_CNT :: log) [] s t)

/-- R29, R31, R44, R477: the three rows of the stall detectors. -/
def Obligations.StallsAndTheirLog : Prop :=
  ∀ (s : State) (m : Master), Calm s →
    (∀ (a : Word) (b o : Nat) (v : Option Word), regionOf a.toNat = .block b o → a.toNat % 4 = 0 → s.reaches m b = true → s.online b = true →
      masterIsl m ≠ blkIsl b → s.crossHeld m (blkIsl b) = false → s.allowed m a.toNat (if v.isSome then .store else .load) = true →
      s.rd R.HALL_STALL_CNT < 2 ^ 16 →
      ∃ t, exec (.stallDetectorFire m a ⟨.word, v⟩) s = .next t ∧ t.resp = .error ∧
        t.rd R.HALL_STALL_CNT = min (s.rd R.HALL_STALL_CNT + 1) (2 ^ R.HALL_STALL_CNT.wid - 1) ∧
        bit (t.rd R.FAULT_HIT_0) 8 = true ∧
        (s.rd R.HALL_STALL_LOG_VALID = 0 → t.rd R.HALL_STALL_LOG_VALID = 1 ∧ t.rd R.HALL_STALL_LOG_SRC = masterIsl m ∧
          t.rd R.HALL_STALL_LOG_DST = blkIsl b ∧ t.rd R.HALL_STALL_LOG_REASON = 1 ∧ t.rd R.HALL_STALL_ADDR = a.toNat ∧
          t.rd R.HALL_STALL_LOG_WRITE = b2n v.isSome) ∧
        t.late = s.late ++ (match v with | some x => [⟨m, a.toNat, 4, x.toNat, s.rd R.HALL_STALL_LOG_VALID = 0⟩] | none => []) ∧
        MemKept s t) ∧
    (∀ (w : LateWrite) (r : List LateWrite), s.late = w :: r → w.addr = 0x40000034 → w.size = 4 →
      Taken { s with late := r } w.m R.SYSCTL_RESUME_ADDR →
      ∃ t, exec (.lateWriteDone 0x40000034#32) s = .next t ∧ t.late = r ∧ t.rd R.SYSCTL_RESUME_ADDR = w.val % 2 ^ 32 ∧
        t.resp = s.resp ∧
        (w.logged = true → s.rd R.HALL_STALL_LOG_VALID ≠ 0 → t.rd R.HALL_STALL_LOG_LATE_DONE = 1) ∧
        RegsBut [R.SYSCTL_RESUME_ADDR, R.HALL_STALL_LOG_LATE_DONE] s t ∧ MemKept s t) ∧
    (Taken s m R.HALL_STALL_LOG_VALID →
      ∃ t, exec (.stallLogClear m) s = .next t ∧ t.resp = .ok ∧ t.rd R.HALL_STALL_CNT = 0 ∧
        (∀ f ∈ [R.HALL_STALL_LOG_SRC, R.HALL_STALL_LOG_DST, R.HALL_STALL_LOG_REASON, R.HALL_STALL_LOG_WRITE,
          R.HALL_STALL_LOG_LATE_DONE, R.HALL_STALL_LOG_VALID, R.HALL_STALL_ADDR], t.rd f = 0) ∧
        t.late = s.late.map (fun w => { w with logged := false }) ∧
        RegsBut [R.HALL_STALL_LOG_SRC, R.HALL_STALL_LOG_DST, R.HALL_STALL_LOG_REASON, R.HALL_STALL_LOG_WRITE,
          R.HALL_STALL_LOG_LATE_DONE, R.HALL_STALL_LOG_VALID, R.HALL_STALL_ADDR, R.HALL_STALL_CNT] s t ∧ MemKept s t) ∧
    Bus.RefusedRules s m

/-- R45 to R48: the setting of a DMA channel that copies words from application SRAM to application SRAM. -/
def DmaReady (s : State) (n : Nat) (a d : Nat) : Prop :=
  s.dmaRuns n = true ∧ s.rd (R.DMA_CH_CFG_WIDTH n) = 2 ∧ s.rd (L.DM_SRC n) = a ∧ s.rd (L.DM_DST n) = d ∧
  a % 4 = 0 ∧ d % 4 = 0 ∧ regionOf a = .sram ∧ regionOf d = .sram ∧ s.rd R.FLASHC_RDP_LEVEL = 0 ∧
  s.domOn (regionDom .sram) = true ∧ s.islOn (regionIsl .sram) = true ∧ s.crossHeld .dma 2 = false ∧ 4 ≤ s.rd (R.DMA_CH_STAT_REMAIN n) ∧
  s.rd (R.DMA_CH_STAT_REMAIN n) < 2 ^ 20

/-- R46: the registers that the move of an element of channel n may change. -/
def dmaMoveFlds (n : Nat) : List Fld :=
  [R.DMA_CH_STAT_REMAIN n, L.DM_SRC n, L.DM_DST n, L.DM_REQ, L.DM_SERVED, R.DMA_CH_CFG_EN n, R.DMA_CH_STAT_BUSY n, L.DM_STOP n, R.DMA_DONE,
    R.FAULT_INFLIGHT_OP 13, R.FAULT_INFLIGHT_STEP 13, R.FAULT_INFLIGHT_PROG 13, R.FAULT_INFLIGHT_DETAIL 13, R.FAULT_INFLIGHT_DETAIL2 13]

/-- R46: what the move of one word of channel n from `a` to `d` leaves. -/
def DmaMoved (s t : State) (n a d : Nat) : Prop :=
  t.rdBs d 4 = s.rdBs a 4 ∧ (∀ c, (c < d ∨ d + 4 ≤ c) → t.rdB c = s.rdB c) ∧
  t.rd (R.DMA_CH_STAT_REMAIN n) = s.rd (R.DMA_CH_STAT_REMAIN n) - 4 ∧
  (4 < s.rd (R.DMA_CH_STAT_REMAIN n) → t.rd (L.DM_SRC n) = (a + if s.on (R.DMA_CH_CFG_SRC_INC n) then 4 else 0) % 2 ^ 32 ∧
    t.rd (L.DM_DST n) = (d + if s.on (R.DMA_CH_CFG_DST_INC n) then 4 else 0) % 2 ^ 32) ∧
  (s.rd (R.DMA_CH_STAT_REMAIN n) = 4 → t.rd (R.DMA_CH_STAT_BUSY n) = 0 ∧ t.rd (R.DMA_CH_CFG_EN n) = 0 ∧ bit (t.rd R.DMA_DONE) n = true) ∧
  t.resp = s.resp ∧ RegsBut (dmaMoveFlds n) s t ∧ FifosBut [L.DCACHE (d / 32 % 128)] s t ∧ ListsKept s t

/-- R45 to R48: the four rows of the DMA. -/
def Obligations.DmaChannels : Prop :=
  ∀ (s : State) (m : Master) (n : Fin 16) (v : Word), Calm s →
    (Taken s m (R.DMA_CH_CFG_EN n.val) → s.rd (R.DMA_CH_STAT_BUSY n.val) = 0 → s.on R.DMA_CTRL_EN = true → bit v.toNat 0 = true →
      bits v.toNat 4 3 ≠ 3 →
      (s.rd (R.DMA_CH_CNT n.val) ≠ 0 → s.rd (R.DMA_CH_CNT n.val) % 2 ^ bits v.toNat 4 3 = 0 → s.rd (R.DMA_CH_CNT n.val) < 2 ^ 20 →
        ∃ t, exec (.dmaChannelStart m n v) s = .next t ∧ t.rd (R.DMA_CH_STAT_BUSY n.val) = 1 ∧ t.rd (R.DMA_CH_CFG_EN n.val) = 1 ∧
          t.rd (R.DMA_CH_STAT_REMAIN n.val) = s.rd (R.DMA_CH_CNT n.val) ∧ t.rd R.DMA_ERR = s.rd R.DMA_ERR ∧ t.resp = .ok ∧ MemKept s t) ∧
      (s.rd (R.DMA_CH_CNT n.val) = 0 ∨ s.rd (R.DMA_CH_CNT n.val) % 2 ^ bits v.toNat 4 3 ≠ 0 →
        ∃ t, exec (.dmaChannelStart m n v) s = .next t ∧ t.rd (R.DMA_CH_CFG_EN n.val) = 0 ∧ bit (t.rd R.DMA_ERR) n.val = true ∧
          t.rd (R.DMA_CH_STAT_BUSY n.val) = 0 ∧ t.resp = .ok ∧ MemKept s t)) ∧
    (Taken s m (R.DMA_CH_CFG_EN n.val) → s.rd (R.DMA_CH_STAT_BUSY n.val) = 1 →
      ∃ t, exec (.dmaChannelStop m n v) s = .next t ∧ t.rd (R.DMA_CH_STAT_BUSY n.val) = 0 ∧ t.rd (R.DMA_CH_CFG_EN n.val) = 0 ∧
        t.rd R.DMA_DONE = s.rd R.DMA_DONE ∧ t.rd R.DMA_ERR = s.rd R.DMA_ERR ∧ t.resp = .ok ∧ MemKept s t) ∧
    (∀ a d, DmaReady s n.val a d → s.on (R.DMA_CH_CFG_SW n.val) = true →
      (∀ k < 16, k ≠ n.val → s.rd (R.DMA_CH_STAT_BUSY k) = 0) →
      ∃ t, exec (.dmaSwElement n) s = .next t ∧ DmaMoved s t n.val a d) ∧
    (∀ a d (lines : BitVec 64), DmaReady s n.val a d → s.on (R.DMA_CH_CFG_SW n.val) = false →
      bit lines.toNat (s.rd (R.DMA_CH_CFG_REQ n.val)) = true →
      (∀ k < 16, k ≠ n.val → s.rd (R.DMA_CH_STAT_BUSY k) = 0) →
      ∃ t, exec (.dmaRequest lines) s = .next t ∧ DmaMoved s t n.val a d)

/-- R80: the radio hears a command: of CMD.OP only in direct mode, of the frame sequencer only outside it. -/
def RadioHears (s : State) (r : Radio) : RadioSrc → Prop
  | .bus m => Taken s m (R.FE_CMD_OP r) ∧ s.on (R.FE_CTRL_DIRECT r) = true
  | .seq _ _ _ => s.on (R.FE_CTRL_DIRECT r) = false ∧ s.online (feBlk r) = true

/-- R80: the radio does not take a command: of CMD.OP outside direct mode, of the frame sequencer in it. -/
def RadioDeaf (s : State) (r : Radio) : RadioSrc → Prop
  | .bus m => Taken s m (R.FE_CMD_OP r) ∧ s.on (R.FE_CTRL_DIRECT r) = false
  | .seq _ _ _ => s.on (R.FE_CTRL_DIRECT r) = true

/-- R73, R78: no command is pending and no event waits for the radio's outcome. -/
def RadioFree (s : State) (r : Radio) : Prop := s.rd (L.P_OP r) = 0 ∧ s.rd (L.RA_EV r) = 0

/-- R71 to R80, R86: the seven commands of a radio. -/
def Obligations.RadioCommands : Prop :=
  ∀ (s : State) (src : RadioSrc) (r : Radio), Calm s →
    (RadioDeaf s r src → ∀ c ∈ [Instr.radioNop src r, .radioIdle src r, .radioRx src r, .radioTx src r, .radioCal src r, .radioAbort src r,
      .radioOff src r], ∃ t, exec c s = .next t ∧ Only [] [] s t) ∧
    (RadioHears s r src →
    (∃ t, exec (.radioNop src r) s = .next t ∧ Only [] [] s t) ∧
    (s.rst r = 1 → s.rd (L.RA_TGT r) = 0 → RadioFree s r →
      (∃ t, exec (.radioIdle src r) s = .next t ∧ t.rst r = 1 ∧ t.rd (R.FE_STAT_LAST_RESULT r) = 1 ∧ MemKept s t ∧ ListsKept s t) ∧
      (∃ t, exec (.radioRx src r) s = .next t ∧ t.rst r = 3 ∧ t.rd (L.RA_TGT r) = 2 ∧ t.ff (L.RXQ r) = [] ∧
        (∀ f ∈ settings r, t.ap r f = s.rd f % 2 ^ f.wid) ∧ MemKept s t ∧ ListsKept s t) ∧
      (s.rd (R.FE_STAT_TX_INHIBIT r) = 0 →
        ∃ t, exec (.radioTx src r) s = .next t ∧ t.rst r = 5 ∧ t.rd (L.RA_TGT r) = 3 ∧
          (∀ f ∈ settings r, t.ap r f = s.rd f % 2 ^ f.wid) ∧ MemKept s t ∧ ListsKept s t) ∧
      (s.rd (R.FE_STAT_TX_INHIBIT r) = 1 →
        ∃ t, exec (.radioTx src r) s = .next t ∧ t.rst r = 1 ∧ t.rd (R.FE_STAT_LAST_RESULT r) = 7 ∧ MemKept s t ∧ ListsKept s t) ∧
      (∃ t, exec (.radioCal src r) s = .next t ∧ t.rst r = 2 ∧ t.rd L.RFCAL = 0 ∧ MemKept s t ∧ ListsKept s t) ∧
      (∃ t, exec (.radioAbort src r) s = .next t ∧ t.rst r = 1 ∧ Only [] [] s t) ∧
      (∃ t, exec (.radioOff src r) s = .next t ∧ t.rst r = 0 ∧ t.rd (R.FE_STAT_LAST_RESULT r) = 1 ∧ MemKept s t ∧ ListsKept s t)) ∧
    (s.rst r ≠ 1 → s.rst r ≠ 8 →
      ∃ t, exec (.radioCal src r) s = .next t ∧ t.rd (R.FE_STAT_LAST_RESULT r) = 9 ∧ Only [R.FE_STAT_LAST_RESULT r] [] s t) ∧
    (s.rst r = 6 → RadioFree s r →
      (∃ t, exec (.radioAbort src r) s = .next t ∧ t.rst r = 7 ∧ t.rd (R.FE_STAT_TRUNC r) = 1 ∧ t.rd (R.FE_STAT_LAST_RESULT r) = 11 ∧
        t.rd (L.RA_OFF r) = 0 ∧
        Only [R.FE_STAT_STATE r, R.FE_STAT_TRUNC r, R.FE_STAT_LAST_RESULT r, L.RA_CUT r, L.RA_OFF r] [] s t) ∧
      (∃ t, exec (.radioOff src r) s = .next t ∧ t.rst r = 7 ∧ t.rd (R.FE_STAT_TRUNC r) = 1 ∧ t.rd (L.RA_OFF r) = 1 ∧
        Only [R.FE_STAT_STATE r, R.FE_STAT_TRUNC r, R.FE_STAT_LAST_RESULT r, L.RA_CUT r, L.RA_OFF r] [] s t) ∧
      (∃ t, exec (.radioRx src r) s = .next t ∧ t.rst r = 6 ∧ t.rd (R.FE_STAT_PENDING r) = 1 ∧ t.rd (L.P_OP r) = 2 ∧ MemKept s t) ∧
      (∃ t, exec (.radioTx src r) s = .next t ∧ t.rst r = 6 ∧ t.rd (R.FE_STAT_PENDING r) = 1 ∧ t.rd (L.P_OP r) = 3 ∧ MemKept s t)) ∧
    (s.rst r = 3 ∨ s.rst r = 5 → RadioFree s r →
      (∃ t, exec (.radioAbort src r) s = .next t ∧ t.rst r = 1 ∧ t.rd (R.FE_STAT_LAST_RESULT r) = 11 ∧ MemKept s t) ∧
      (∃ t, exec (.radioOff src r) s = .next t ∧ t.rst r = 0 ∧ t.rd (R.FE_STAT_LAST_RESULT r) = 11 ∧ MemKept s t)) ∧
    (s.rst r ≠ 8 → s.rst r = 2 ∨ s.rst r = 6 ∨ s.rst r = 7 ∨ s.rd (L.RA_TGT r) ≠ 0 → s.rd (L.P_OP r) = 0 ∨ s.rd (L.P_EV r) = 0 →
      ∀ c ∈ [(Instr.radioIdle src r, 1), (.radioRx src r, 2), (.radioTx src r, 3)],
        ∃ t, exec c.1 s = .next t ∧ t.rst r = s.rst r ∧ t.rd (R.FE_STAT_PENDING r) = 1 ∧ t.rd (L.P_OP r) = c.2 ∧
          t.rd (R.FE_STAT_CMD_DROPPED r) = (if s.rd (L.P_OP r) = 0 then s.rd (R.FE_STAT_CMD_DROPPED r) else 1) ∧
          (∀ start cls mx, src = .seq start cls mx → t.rd (L.P_START r) = start.toNat) ∧
          Only [L.P_OP r, L.P_START r, L.P_CLS r, L.P_MAX r, L.P_EV r, L.P_DUE r, L.P_DIRECT r, R.FE_STAT_PENDING r, R.FE_STAT_CMD_DROPPED r]
            [] s t) ∧
    (s.rst r = 8 → ∀ c ∈ [Instr.radioIdle src r, .radioRx src r, .radioTx src r, .radioCal src r],
      ∃ t, exec c s = .next t ∧ Only [] [] s t))

/-- R71 to R81: the nine rows of a radio's transitions. -/
def Obligations.RadioTransitions : Prop :=
  ∀ (s : State) (r : Radio), Calm s →
    (RadioFree s r → s.rst r = 3 → s.rd (L.RA_TGT r) = 2 → s.rd (L.RA_REOPEN r) = 0 → s.rd (L.RA_DUE r) = 0 →
      ∃ t, exec (.radioTransitionDone r) s = .next t ∧ t.rst r = 3 ∧ t.rd (R.FE_STAT_SYN_LOCK r) = 1 ∧ t.rd (L.RA_RDY r) = 1 ∧
        Only [R.FE_STAT_SYN_LOCK r, L.RA_RDY r] [] s t) ∧
    (RadioFree s r → s.rst r = 4 → s.rd (L.RA_TGT r) = 1 →
      ∃ t, exec (.radioTransitionDone r) s = .next t ∧ t.rst r = 1 ∧ t.rd (R.FE_STAT_LAST_RESULT r) = 1 ∧ t.rd (L.RA_TGT r) = 0 ∧ MemKept s t) ∧
    (∀ a b, RadioFree s r → s.rst r = 2 → s.rd (L.RA_TGT r) = 0 → s.rd (L.RA_DUE r) = 0 →
      ∃ t, exec (.calDone r false a b) s = .next t ∧ t.rst r = 1 ∧ t.rd (R.FE_CAL_STAT_RESULT r) = 3 ∧ t.rd L.RFCAL = 1 ∧
        t.rd (R.FE_STAT_LAST_RESULT r) = 12 ∧ MemKept s t) ∧
    (RadioFree s r → s.rd (L.RA_TGT r) = 2 → s.rd (L.RA_REOPEN r) = 0 → s.coexOn r = false →
      (s.on (L.RA_RDY r) = true →
        ∃ t, exec (.rxStartTime r) s = .next t ∧ t.rst r = 4 ∧ t.rd (R.FE_STAT_LATE r) = s.rd (R.FE_STAT_LATE r) ∧ t.rd (R.FE_STAT_LAST_RESULT r) = 1 ∧ t.rd (L.RA_TGT r) = 0 ∧ MemKept s t) ∧
      (s.on (L.RA_RDY r) = false →
        ∃ t, exec (.rxStartTime r) s = .next t ∧ t.rd (L.RA_DUE r) = 1 ∧ Only [L.RA_DUE r] [] s t)) ∧
    (RadioFree s r → s.rd (L.RA_TGT r) = 3 → s.rd (R.FE_STAT_TX_INHIBIT r) = 0 → s.coexOn r = false →
      (s.on (L.RA_RDY r) = true → paBottom r ≤ s.txPower r → s.rd (R.FE_CTRL_DIRECT r) = 0 → s.running = [] →
        ∃ t, exec (.txStartTime r) s = .next t ∧ t.rst r = 6 ∧ t.rd (L.RA_TGT r) = 0 ∧ MemKept s t ∧ ListsKept s t) ∧
      (s.on (L.RA_RDY r) = false → s.rst r = 0 ∨ s.rst r = 2 →
        ∃ t, exec (.txStartTime r) s = .next t ∧ t.rst r = s.rst r ∧ t.rd (R.FE_STAT_LAST_RESULT r) = 3 ∧ MemKept s t ∧ ListsKept s t) ∧
      (s.on (L.RA_RDY r) = false → s.rst r ≠ 0 → s.rst r ≠ 2 → s.ap r (R.FE_AUTO_TX_END r) = 0 →
        ∃ t, exec (.txStartTime r) s = .next t ∧ t.rst r = 1 ∧ t.rd (R.FE_STAT_LAST_RESULT r) = 3 ∧ MemKept s t ∧ ListsKept s t)) ∧
    (s.rst r = 6 → s.rd (R.FE_CTRL_DIRECT r) = 0 →
      ∃ t, exec (.txLastBit r) s = .next t ∧ t.rst r = 7 ∧
        t.ff (L.AIR r) = (s.airSync r ++ s.airBody r ((s.ff (L.TX_OCT r)).map (BitVec.ofNat 8))).map b2n ∧
        Only [R.FE_STAT_STATE r] [L.AIR r] s t) ∧
    (∀ c, RadioFree s r → s.rst r = 7 → s.rd (L.RA_CUT r) = 0 → s.rd (L.RA_OFF r) = 0 → s.rd (L.RA_IDLE r) = 0 → s.ap r (R.FE_AUTO_TX_END r) = 0 →
      ∃ t, exec (.rampDownEnd r c) s = .next t ∧ t.rst r = 1 ∧ t.rd (R.FE_STAT_LAST_RESULT r) = 1 ∧ MemKept s t ∧ ListsKept s t) ∧
    (s.on (L.RA_WAIT r) = true →
      ∃ t, exec (.txSettleTimeout r) s = .next t ∧ t.rst r = 1 ∧ t.rd (L.RA_WAIT r) = 0 ∧ MemKept s t ∧ ListsKept s t) ∧
    (∀ m (v : Word), Taken s m (R.FE_CTRL_DIRECT r) → s.rd (R.FE_CTRL_LOCK r) = 0 →
      ((∀ e ∈ s.armed ++ s.running, e.radio ≠ r) →
        ∃ t, exec (.directWrite m r v) s = .next t ∧ t.on (R.FE_CTRL_DIRECT r) = bit v.toNat 0 ∧
          Only [R.FE_CTRL_DIRECT r, R.FE_CTRL_CAL_AUTO r, R.FE_CTRL_LOCK r] [] s t) ∧
      ((∃ e ∈ s.armed ++ s.running, e.radio = r) →
        ∃ t, exec (.directWrite m r v) s = .next t ∧ t.rd (R.FE_CTRL_DIRECT r) = 0 ∧
          Only [R.FE_CTRL_DIRECT r, R.FE_CTRL_CAL_AUTO r, R.FE_CTRL_LOCK r] [] s t)) ∧
    (RadioFree s r → s.rst r = 3 →
      ∃ t, exec (.synthUnlock r) s = .next t ∧ t.rst r = 1 ∧ t.rd (R.FE_STAT_LAST_RESULT r) = 12 ∧ MemKept s t ∧ ListsKept s t) ∧
    (s.rst r = 6 →
      ∃ t, exec (.synthUnlock r) s = .next t ∧ t.rst r = 7 ∧ t.rd (R.FE_STAT_TRUNC r) = 1 ∧ t.rd (R.FE_STAT_LAST_RESULT r) = 12 ∧
        Only [R.FE_STAT_STATE r, R.FE_STAT_TRUNC r, R.FE_STAT_LAST_RESULT r, L.RA_CUT r, L.RA_OFF r] [] s t)

/-- R88 to R98: the five rows of the front-end module and of coexistence. -/
def Obligations.FrontEndModuleAndCoexistence : Prop :=
  ∀ (s : State) (r : Radio), Calm s →
    (s.rst r = 3 →
      ∃ t, exec (.femPinLead r .rxEn false) s = .next t ∧ t.femPin (pinRx r) = s.femOn r ∧ t.femPin (pinTx r) = false ∧
        Only [L.FEM_PIN 0, L.FEM_PIN 1, L.FEM_PIN 2, L.FEM_PIN 3, L.FEM_PIN 4, L.FEM_PIN 5] [] s t) ∧
    (r = .stratus → s.rst r = 5 → s.rd (L.RA_TGT r) = 3 →
      ∃ t, exec (.femPinLead r .paEn false) s = .next t ∧ t.femPin 3 = s.femOn r ∧
        Only [L.FEM_PIN 3, L.FEM_PIN 5] [] s t) ∧
    (s.rst r = 6 →
      ∃ t, exec (.femPinLead r .txEn false) s = .next t ∧ t.femPin (pinTx r) = s.femOn r ∧ t.femPin (pinRx r) = false ∧
        Only [L.FEM_PIN 0, L.FEM_PIN 1, L.FEM_PIN 2, L.FEM_PIN 3, L.FEM_PIN 4, L.FEM_PIN 5] [] s t) ∧
    (s.rst r ≠ 6 → s.rst r ≠ 7 →
      ∃ t, exec (.femPinLead r .lag false) s = .next t ∧ t.femPin (pinTx r) = false ∧ Only [L.FEM_PIN 0, L.FEM_PIN 3, L.FEM_PIN 4] [] s t) ∧
    (s.rst r = 3 → s.rd R.FEMCTL_CNT_LEAD_SHORT < 2 ^ R.FEMCTL_CNT_LEAD_SHORT.wid - 1 →
      ∃ t, exec (.femPinLead r .rxEn true) s = .next t ∧ t.rd R.FEMCTL_EVT_LEAD_SHORT = 1 ∧
        t.rd R.FEMCTL_CNT_LEAD_SHORT = s.rd R.FEMCTL_CNT_LEAD_SHORT + 1) ∧
    (s.coexOn r = true → s.rd (L.RA_TGT r) = 2 ∨ s.rd (L.RA_TGT r) = 3 → s.rd (L.RA_REOPEN r) = 0 →
      ∃ t, exec (.coexReqAssert r) s = .next t ∧ t.rd (L.CX_REQ r) = 1 ∧ t.rd R.FEMCTL_COEX_STAT_REQ = 1 ∧ t.on L.COEX_REQ = !s.on L.CX_RPOL ∧ MemKept s t ∧ ListsKept s t) ∧
    (s.on (L.CX_END r) = true →
      ∃ t, exec (.coexReqRelease r) s = .next t ∧ t.rd (L.CX_REQ r) = 0 ∧ t.rd (L.CX_END r) = 0 ∧
        (s.rd (L.CX_REQ (if r = .cirrus then .stratus else .cirrus)) = 0 → t.rd R.FEMCTL_COEX_STAT_REQ = 0 ∧ t.rd R.FEMCTL_COEX_STAT_PRI = 0) ∧
        MemKept s t ∧ ListsKept s t) ∧
    (∀ level, s.coexOn r = true → s.rd (L.RA_REOPEN r) = 0 → s.gntOf r level = true → s.rd (L.RA_TGT r) = 2 ∨ s.rd (L.RA_TGT r) = 3 →
      ∃ t, exec (.coexGntSample r level) s = .next t ∧ t.rd R.FEMCTL_COEX_STAT_GNT = 1 ∧ t.rd (L.CX_OK r) = 1 ∧ MemKept s t ∧ ListsKept s t) ∧
    (∀ level, s.coexOn r = true → s.rd (L.RA_REOPEN r) = 0 → s.gntOf r level = false → s.rd (L.RA_TGT r) = 3 → s.rst r ≠ 0 → s.rst r ≠ 2 → RadioFree s r →
      s.rd R.FEMCTL_CNT_DENIED_TX < 2 ^ R.FEMCTL_CNT_DENIED_TX.wid - 1 → s.ap r (R.FE_AUTO_TX_END r) = 0 →
      ∃ t, exec (.coexGntSample r level) s = .next t ∧ t.rd R.FEMCTL_COEX_STAT_GNT = 0 ∧ t.rd (R.FE_STAT_LAST_RESULT r) = 4 ∧
        t.rd R.FEMCTL_EVT_GNT_DENIED = 1 ∧ t.rd R.FEMCTL_CNT_DENIED_TX = s.rd R.FEMCTL_CNT_DENIED_TX + 1 ∧ t.rst r = 1) ∧
    (s.coexOn r = true → s.rst r = 6 → s.ap r R.FEMCTL_COEX_CFG_ABORT_ON_LOSS = 1 →
      s.rd R.FEMCTL_CNT_LOST_GNT < 2 ^ R.FEMCTL_CNT_LOST_GNT.wid - 1 →
      ∃ t, exec (.coexGntLost r) s = .next t ∧ t.rst r = 7 ∧ t.rd (R.FE_STAT_TRUNC r) = 1 ∧ t.rd (R.FE_STAT_LAST_RESULT r) = 5 ∧
        t.rd R.FEMCTL_EVT_GNT_LOST = 1 ∧ t.rd R.FEMCTL_CNT_LOST_GNT = s.rd R.FEMCTL_CNT_LOST_GNT + 1)

/-- R122: what holds the equaliser. -/
def eqFifos (r : Radio) : List Fld := [L.EQ_C r, L.EQ_X r, L.EQ_D r, L.EQ_E r]

/-- R113 to R135: the eight rows of a modem's reception, in direct mode. -/
def Obligations.ModemReception : Prop :=
  ∀ (s : State) (r : Radio) (raw : BitVec 8), Calm s → s.rst r = 4 → s.on (R.FE_CTRL_DIRECT r) = true → s.rd (L.RX_ST r) = 0 →
    RadioFree s r → s.running = [] →
    (∀ metric : BitVec 8, s.rxOpen r = true → s.ap r (R.MDM_PD_THRESH r) ≤ metric.toNat → s.ap r (R.MDM_PD_RSSI_MIN r) = 0x80 →
      ∃ t, exec (.preambleDetect r metric raw) s = .next t ∧ t.rd (L.MF_ST r) = 1 ∧ t.rd (R.MDM_STAT_IN_FRAME r) = 1 ∧
        t.rd (R.MDM_CNT_PD r) = min (s.rd (R.MDM_CNT_PD r) + 1) (2 ^ (R.MDM_CNT_PD r).wid - 1) ∧
        t.rdS (R.MDM_STAT_RSSI_NOW r) = s.rssiAt r raw.toInt ∧
        t.on (R.MDM_STAT_FROZEN r) = (s.ap r (R.MDM_AGC_FREEZE_EN r) == 1 && s.ap r (R.MDM_AGC_FORCE r) == 0) ∧ MemKept s t ∧ ListsKept s t) ∧
    (∀ metric : BitVec 8, metric.toNat < s.ap r (R.MDM_PD_THRESH r) →
      ∃ t, exec (.preambleDetect r metric raw) s = .next t ∧ Only [R.MDM_STAT_RSSI_NOW r] [] s t) ∧
    (∀ pre sync ts lqi cfo, s.rd (L.MF_ST r) = 1 → (s.syncHit r (s.symbols r (pre ++ sync)).1).isSome = true →
      ∃ t, exec (.syncMatch r pre sync ts raw lqi cfo) s = .next t ∧ t.rd (L.MF_ST r) = 2 ∧
        t.rd (L.MF_TS r) = ux 64 ((ts.toNat : Int) - s.rdS (R.MDM_TS_ADJ_UNITS r)) ∧ t.rd (L.MF_LQI r) = lqi.toNat ∧
        t.rd (L.MF_CFO r) = cfo.toNat ∧ MemKept s t ∧ ListsKept s t) ∧
    (∀ pre sync ts lqi cfo, r = .cirrus → s.rd (L.MF_ST r) = 1 → s.ap r (R.MDM_MODE_PHY r) ≤ 1 → 32 ≤ (pre ++ sync).length →
      bitErrs (((pre ++ sync).drop ((pre ++ sync).length - 32)).map fun x => decide (0 < x.toInt)) (lsbBits 32 (s.ap r (R.MDM_SYNC_AA r))) ≤
        s.ap r (R.MDM_SYNC_CFG_ERR_MAX r) →
      ∃ t, exec (.syncMatch r pre sync ts raw lqi cfo) s = .next t ∧ t.rd (L.MF_ST r) = 2) ∧
    (s.rd (L.MF_ST r) = 1 → s.rd (L.RX_CLOSE r) = 0 →
      ∃ t, exec (.syncTimeout r) s = .next t ∧ t.rd (L.MF_ST r) = 0 ∧ t.rd (R.MDM_STAT_IN_FRAME r) = 0 ∧ t.rd (R.MDM_EVT_SYNC_TIMEOUT r) = 1 ∧
        t.rd (R.MDM_CNT_SYNC_TO r) = min (s.rd (R.MDM_CNT_SYNC_TO r) + 1) (2 ^ (R.MDM_CNT_SYNC_TO r).wid - 1) ∧
        Only [L.MF_ST r, L.MF_BYP r, R.MDM_STAT_IN_FRAME r, R.MDM_STAT_FROZEN r, R.MDM_EVT_SYNC_TIMEOUT r, R.MDM_CNT_SYNC_TO r, L.EQ_N r]
          (eqFifos r) s t) ∧
    (∀ ci term hdr tail pad, s.rd (L.MF_ST r) = 2 → s.rd (L.RX_CLOSE r) = 0 → s.rd (L.LAST_LATCH r) = 0 →
      let u := s.addSym r (ci ++ term ++ hdr ++ tail ++ pad)
      let h := u.headerOf r (u.decode r (u.rxCoded r) (u.rxSym r) false).1
      ((u.rxSym r).length < u.headerNeed r (u.rxCoded r) (u.rxSym r) → exec (.phrReceived r ci term hdr tail pad) s = .next u) ∧
      (u.headerNeed r (u.rxCoded r) (u.rxSym r) ≤ (u.rxSym r).length → s.phrRefusal r h.len h.ms h.short = 0 →
        ∃ t, exec (.phrReceived r ci term hdr tail pad) s = .next t ∧ t.rd (L.MF_ST r) = 3 ∧ t.rd (L.MF_LEN r) = h.len % 2 ^ 11 ∧
          Only [L.MF_ST r, L.MF_LEN r, L.MF_FCS16 r, L.MF_DW r, L.MF_CI r, L.EQ_N r] (L.RX_SYM r :: eqFifos r) s t) ∧
      (u.headerNeed r (u.rxCoded r) (u.rxSym r) ≤ (u.rxSym r).length → s.phrRefusal r h.len h.ms h.short ≠ 0 →
        ∃ t, exec (.phrReceived r ci term hdr tail pad) s = .next t ∧ t.rd (L.MF_ST r) = 0 ∧ t.rd (R.MDM_STAT_IN_FRAME r) = 0 ∧
          t.rd (R.MDM_LAST_STAT_RESULT r) = s.phrRefusal r h.len h.ms h.short ∧ t.rd (R.MDM_LAST_STAT_LEN r) = h.len % 2 ^ 11 ∧
          t.rd (R.MDM_EVT_RX_DONE r) = 1 ∧
          t.rd (R.MDM_CNT_PHR r) = min (s.rd (R.MDM_CNT_PHR r) + 1) (2 ^ (R.MDM_CNT_PHR r).wid - 1) ∧ MemKept s t ∧ ListsKept s t)) ∧
    (∀ body check term tail pad, s.rd (L.MF_ST r) = 3 → s.rd (L.LAST_LATCH r) = 0 → s.rd (L.MF_TS r) < 2 ^ 64 → s.rd (L.MF_LEN r) < 2 ^ 11 →
      let u := s.addSym r (body ++ check ++ term ++ tail ++ pad)
      let short := s.on (L.MF_FCS16 r)
      let f := u.frameOctets r short (s.rd (L.MF_LEN r)) (u.decode r (u.rxCoded r) (u.rxSym r) true).1
      u.frameNeed r (u.rxCoded r) short (s.rd (L.MF_LEN r)) (s.on (L.MF_CI r)) ≤ (u.rxSym r).length →
      ∃ t, exec (.rxReport r body check term tail pad) s = .next t ∧ t.rd (R.MDM_LAST_STAT_RESULT r) = (if f.2 then 1 else 2) ∧
        t.rd (R.MDM_LAST_TS_LO r) + 2 ^ 32 * t.rd (R.MDM_LAST_TS_HI r) = s.rd (L.MF_TS r) ∧
        t.rd (R.MDM_LAST_STAT_LEN r) = s.rd (L.MF_LEN r) ∧ t.rd (R.MDM_EVT_RX_DONE r) = 1 ∧ t.rd (R.MDM_STAT_IN_FRAME r) = 0 ∧
        (f.2 = true → t.rd (R.MDM_CNT_OK r) = min (s.rd (R.MDM_CNT_OK r) + 1) (2 ^ (R.MDM_CNT_OK r).wid - 1)) ∧
        (f.2 = false → t.rd (R.MDM_CNT_CRC r) = min (s.rd (R.MDM_CNT_CRC r) + 1) (2 ^ (R.MDM_CNT_CRC r).wid - 1)) ∧
        (s.rd (L.RX_PUT r) = 0 → s.ff (L.RXQ r) = [] → f.1.length ≤ 64 →
          t.ff (L.RXQ r) = f.1.map BitVec.toNat ++ List.replicate ((4 - f.1.length % 4) % 4) 0) ∧ MemKept s t ∧ ListsKept s t) ∧
    (∀ up down clip smp,
      ∃ t, exec (.agcUpdate r up down ⟨clip, raw⟩ smp) s = .next t ∧ t.rdS (R.MDM_STAT_RSSI_NOW r) = s.rssiAt r raw.toInt ∧
        (s.ap r (R.MDM_AGC_FORCE r) ≠ 1 → s.rd (R.MDM_STAT_FROZEN r) = 0 →
          t.rd (R.MDM_STAT_AGC_IDX r) = min 24 (s.rd (R.MDM_STAT_AGC_IDX r) + min up.toNat 4 - min down.toNat 2)) ∧
        (s.ap r (R.MDM_AGC_FORCE r) ≠ 1 → s.rd (R.MDM_STAT_FROZEN r) = 1 →
          t.rd (R.MDM_STAT_AGC_IDX r) = s.rd (R.MDM_STAT_AGC_IDX r) ∧ (clip = true → t.rd (R.MDM_EVT_CLIPPED r) = 1)) ∧
        (smp = [] ∨ s.rd (L.MF_ST r) < 2 → Only [R.MDM_STAT_RSSI_NOW r, R.MDM_STAT_AGC_IDX r, R.MDM_EVT_CLIPPED r] [] s t) ∧
        Only [R.MDM_STAT_RSSI_NOW r, R.MDM_STAT_AGC_IDX r, R.MDM_EVT_CLIPPED r, L.EQ_N r, L.RX_PUT r, R.MDM_FIFO_STAT_RX_LEVEL r,
          R.MDM_EVT_RXFIFO_OVF r] (L.RX_SYM r :: L.RXQ r :: eqFifos r) s t) ∧
    (∀ fst snd : List Sample, s.rd (L.MF_ST r) ≠ 0 → s.eqUsed r = true → s.rd (L.EQ_N r) = 0 → fst.length = snd.length → fst.length < 65536 →
      let q := Equaliser.train (s.dev r) (s.ap r (R.MDM_EQ_CURSOR r)) (s.ap r (R.MDM_EQ_MU_TRAIN r)) ((fst.map BitVec.toInt).zip (snd.map BitVec.toInt)) (s.eq r)
      ∃ t, exec (.eqTrainEnd r fst snd) s = .next t ∧
        (fst.length < s.ap r (R.MDM_EQ_MIN_TRAIN r) → t.rd (R.MDM_EVT_EQ_SHORT r) = 1) ∧
        (s.ap r (R.MDM_EQ_MSE_MAX r) < q.mse (s.dev r) → t.rd (R.MDM_EVT_EQ_BYPASSED r) = 1 ∧ t.rd (L.MF_MSE r) = q.mse (s.dev r)) ∧
        t.rd (L.EQ_N r) = fst.length ∧
        Only [R.MDM_EVT_EQ_SHORT r, R.MDM_EVT_EQ_BYPASSED r, L.MF_BYP r, L.MF_MSE r, L.EQ_N r] (eqFifos r) s t) ∧
    (s.on (L.CCA_ON r) = true → s.rd (L.CCA_PD r) = 0 →
      ∃ t, exec (.ccaDone r raw) s = .next t ∧
        t.on (R.MDM_STAT_CCA_BUSY r) = decide (sx 8 (s.ap r (R.MDM_CCA_THRESH r)) ≤ s.rssiAt r raw.toInt) ∧ t.rd (L.CCA_ON r) = 0 ∧
        Only [R.MDM_STAT_CCA_BUSY r, L.CCA_ON r, L.CCA_PD r] [] s t)

/-- R136 to R139: the five rows of the FIFOs and the report. -/
def Obligations.ModemFifos : Prop :=
  ∀ (s : State) (m : Master) (r : Radio) (v : Word),
    (Taken s m (R.MDM_TXFIFO r) → s.rst r ≠ 6 → (s.ff (L.TXQ r)).length ≤ 60 →
      ∃ t, exec (.txfifoWrite m r v) s = .next t ∧ t.ff (L.TXQ r) = s.ff (L.TXQ r) ++ (leBytes 4 v.toNat).map BitVec.toNat ∧
        t.rd (R.MDM_FIFO_STAT_TX_LEVEL r) = (s.ff (L.TXQ r)).length + 4 ∧ t.resp = .ok ∧ Only [R.MDM_FIFO_STAT_TX_LEVEL r] [L.TXQ r] s t) ∧
    (Taken s m (R.MDM_TXFIFO r) → 60 < (s.ff (L.TXQ r)).length → exec (.txfifoWrite m r v) s = .next s.ok) ∧
    (∀ a b c d rest, Taken s m (R.MDM_RXFIFO r) → s.ff (L.RXQ r) = a :: b :: c :: d :: rest → a < 256 → b < 256 → c < 256 → d < 256 →
      rest.length < 64 →
      ∃ t, exec (.rxfifoRead m r) s = .next t ∧ t.resp = .data (a + 256 * b + 65536 * c + 16777216 * d) ∧ t.ff (L.RXQ r) = rest ∧
        t.rd (R.MDM_FIFO_STAT_RX_LEVEL r) = rest.length ∧ Only [R.MDM_FIFO_STAT_RX_LEVEL r] [L.RXQ r] s t) ∧
    (Taken s m (R.MDM_FIFO_CFG_FLUSH r) →
      ∃ t, exec (.fifoFlush m r) s = .next t ∧ t.ff (L.TXQ r) = [] ∧ t.ff (L.RXQ r) = [] ∧ t.rd (R.MDM_FIFO_STAT_TX_LEVEL r) = 0 ∧
        t.rd (R.MDM_FIFO_STAT_RX_LEVEL r) = 0 ∧ t.resp = .ok ∧
        Only [R.MDM_FIFO_STAT_TX_LEVEL r, R.MDM_FIFO_STAT_RX_LEVEL r] [L.TXQ r, L.RXQ r] s t) ∧
    (Taken s m (R.MDM_LAST_STAT_RESULT r) → s.rd (R.MDM_LAST_STAT_HELD r) = 0 → (∀ f ∈ lastAll r, s.rd f < 2 ^ f.wid) →
      ∃ t v, exec (.lastStatRead m r) s = .next t ∧ t.resp = .data v ∧ bits v 3 0 = s.rd (R.MDM_LAST_STAT_RESULT r) ∧
        bits v 26 16 = s.rd (R.MDM_LAST_STAT_LEN r) ∧ t.rd (L.LAST_LATCH r) = 1 ∧
        (∀ f ∈ lastAll r, t.rd f = s.rd f ∧ t.rd (heldCopy f) = s.rd f) ∧ MemKept s t ∧ ListsKept s t) ∧
    (Taken s m (R.MDM_LAST_STAT_RESULT r) → s.rd (R.MDM_LAST_STAT_HELD r) = 1 →
      ∃ t, exec (.lastStatRead m r) s = .next t ∧ t.rd (R.MDM_LAST_STAT_HELD r) = 0 ∧
        (∀ f ∈ lastAll r, t.rd f = s.rd (heldCopy f) % 2 ^ f.wid) ∧ t.rd (L.LAST_LATCH r) = 1) ∧
    (s.rst r = 6 → s.on (R.FE_CTRL_DIRECT r) = true → s.ap r (R.MDM_MODE_TEST r) = 0 → s.rd (L.TX_LEFT r) ≠ 0 →
      ∃ t, exec (.txUnderrun r) s = .next t ∧ t.rst r = 7 ∧ t.rd (R.MDM_EVT_TX_UNDERRUN r) = 1 ∧ t.rd (R.FE_STAT_LAST_RESULT r) = 11 ∧
        t.rd (R.FE_STAT_TRUNC r) = 1 ∧ t.rd (L.TX_LEFT r) = 0 ∧
        Only [R.FE_STAT_STATE r, R.FE_STAT_TRUNC r, R.FE_STAT_LAST_RESULT r, L.RA_CUT r, L.RA_OFF r, R.MDM_EVT_TX_UNDERRUN r, L.TX_LEFT r] [] s t)

/-- R144 to R146: the four rows of the lockstep pair. -/
def Obligations.LockstepPair : Prop :=
  ∀ s : State, Calm s →
    (∀ pc : Word, s.rd R.LINK_STAT_CORES = 1 → s.online 10 = true → s.rd R.LINK_LS_CNT_RECENT < 2 →
      ∃ t, exec (.lockstepMismatch pc) s = .next t ∧ t.rd R.LINK_STAT_CORES = 2 ∧
        t.rd R.LINK_LS_CNT_RECENT = s.rd R.LINK_LS_CNT_RECENT + 1 ∧ t.rd R.LINK_LS_PC = pc.toNat ∧
        t.rd R.LINK_LS_CNT_TOTAL = min (s.rd R.LINK_LS_CNT_TOTAL + 1) (2 ^ R.LINK_LS_CNT_TOTAL.wid - 1) ∧
        t.rd R.LINK_EVT_LOCKSTEP = 1 ∧ bit (t.rd R.FAULT_HIT_0) 16 = true ∧ bit (t.rd R.SYSCTL_RST_CAUSE_KIND) 5 = true ∧
        t.rd L.LS_HOLD = 1 ∧ (∀ r : Radio, s.on (L.RX_ST r) = true → t.rd (L.RX_LOCKSTEP r) = 1)) ∧
    (∀ pc : Word, s.rd R.LINK_STAT_CORES = 1 → s.online 10 = true → 2 ≤ s.rd R.LINK_LS_CNT_RECENT →
      ∃ t, exec (.lockstepMismatch pc) s = .next t ∧ t.rd R.LINK_STAT_CORES = 3 ∧ t.rd R.LINK_EVT_LS_HELD = 1 ∧
        bit (t.rd R.FAULT_HIT_0) 16 = true ∧ bit (t.rd R.FAULT_HIT_0) 17 = true) ∧
    (s.rd R.LINK_STAT_CORES = 2 → s.rd R.SYSCTL_PWR_STAT_LISTEN = 0 → s.evqUsed < 64 →
      ∃ t, exec .lsRestart s = .next t ∧ t.rd R.LINK_STAT_CORES = 1 ∧
        t.evq = s.evq ++ [mkEntry 6 0 0 0 0 0 s.lt 0 0 (s.rd R.LINK_LS_CNT_RECENT)] ∧
        t.rd L.LS_HOLD = 0 ∧ RegsBut [R.LINK_STAT_CORES, R.WDL_STAT_COUNT, L.LS_HOLD] s t ∧ FifosBut [] s t ∧ MemKept s t) ∧
    (∀ m : Master, Taken s m R.LINK_CMD_LS_RELEASE →
      (s.rd R.LINK_STAT_CORES = 3 → ∃ t, exec (.lsRelease m) s = .next t ∧ t.rd R.LINK_STAT_CORES = 2 ∧ t.rd R.LINK_LS_CNT_RECENT = 0 ∧
        Only [R.LINK_STAT_CORES, R.LINK_LS_CNT_RECENT] [] s t) ∧
      (s.rd R.LINK_STAT_CORES ≠ 3 → ∃ t, exec (.lsRelease m) s = .next t ∧ Only [] [] s t)) ∧
    (s.rd R.LINK_LS_CNT_RECENT < 16 → ∃ t, exec .lsCntRecentAge s = .next t ∧
      t.rd R.LINK_LS_CNT_RECENT = s.rd R.LINK_LS_CNT_RECENT - 1 ∧ Only [R.LINK_LS_CNT_RECENT] [] s t)

/-- R149, R151, R152: identification and encryption for transmission. -/
def Obligations.FramesIdentifiedAndEncrypted : Prop :=
  ∀ s : State, Calm s →
    (∀ (r : Radio) (a : FrameAddr), s.on (L.RX_ST r) = true → s.on (L.RX_IDED r) = false →
      let e := s.rxEvent r
      let le := e.any fun x => s.leCtx x.ctx
      let ev := (e.map fun x => x.ctx).getD 256
      (s.identify r le ev a = none → s.ackContext r a = none → ∃ t, exec (.frameIdentify r a) s = .next t ∧ t.rd (L.RX_IDED r) = 1 ∧ t.rd (L.RX_CTX r) = 0 ∧
        Only [L.RX_IDED r, L.RX_CTX r] [] s t) ∧
      (∀ k, s.identify r le ev a = some k → k < 256 ∧ s.ctxMatches r le ev a k = true ∧
        (∀ j < 256, s.ctxMatches r le ev a j = true → s.ctxType j = (if a.group then 4 else 3) → s.ctxType k = s.ctxType j ∧ k ≤ j) ∧
        ∃ t, exec (.frameIdentify r a) s = .next t ∧ t.rd (L.RX_IDED r) = 1 ∧ t.rd (L.RX_CTX r) = k + 1 ∧
          (s.ctxFlag k 1 = true → (le = false ∨ s.rd (L.RX_KEYST r) = 0) → t.rd (L.RX_KEYST r) = 1 ∧ t.rd (L.RX_KCTX r) = k + 1) ∧
          (s.ctxFlag k 1 = false ∨ (le = true ∧ s.rd (L.RX_KEYST r) ≠ 0) →
            t.rd (L.RX_KEYST r) = s.rd (L.RX_KEYST r) ∧ t.rd (L.RX_KCTX r) = s.rd (L.RX_KCTX r)) ∧
          t.ctxRd k 0x74 1 = 1 ∧ t.ctxRd k 0x75 1 = (if s.rd (L.RX_KEYST r) = 2 then 3 else 2) ∧ t.ctxRd k 0x76 2 = a.got.toNat ∧
          t.ctxRd k 0x78 4 = a.ctr.toNat ∧ RegsBut [L.RX_IDED r, L.RX_CTX r, L.RX_KEYST r, L.RX_KCTX r] s t ∧ ListsKept s t ∧
          ∀ x, ¬ (ctxAddr k 0x74 ≤ x ∧ x < ctxAddr k 0x7C) → t.rdB x = s.rdB x)) ∧
    (∀ (h : BitVec 4) (hdrLen ctrOff : Nat) (e : Armed),
      (s.armed ++ s.running).find? (fun e => e.handle == h.toNat && (txKind e.kind || e.kind == 5)) = some e →
      s.on L.LANE_RST = false → s.online 13 = true → s.on R.CIPHER_STAT_READY = true →
      ((s.ctxFlag e.ctx 1 = false ∧ e.kind ≠ 8) ∨ s.on (L.ENC e.buf) = true →
        ∃ t, exec (.txEncrypt h hdrLen ctrOff false false) s = .next t ∧ Only [] [] s t) ∧
      ((s.ctxFlag e.ctx 1 = true ∨ e.kind = 8) → s.on (L.ENC e.buf) = false →
        (ctrLimit (s.ctxType e.ctx) ≤ s.ctxRd e.ctx 0x38 5 → s.evqUsed < 64 →
          ∃ t, exec (.txEncrypt h hdrLen ctrOff false false) s = .next t ∧ t.rd R.MAC_EVT_TX_CTR_LIMIT = 1 ∧
            t.evq = s.evq ++ (if txKind e.kind then [mkEntry 3 e.ctx 0 (e.handle / 8) 0 0 s.lt e.txLen 0 9] else []) ∧
            (∀ x ∈ t.armed ++ t.running, x.handle ≠ e.handle)) ∧
        (let slot := s.evAsn e % 2 ^ 32
         let ctr := s.ctxRd e.ctx 0x38 5
         let c := if s.ctxType e.ctx = 4 then slot else ctr
         ctr < ctrLimit (s.ctxType e.ctx) → ctr ≤ c → s.linkKeyOk e.ctx = true → e.buf < 2048 →
          ∃ t, exec (.txEncrypt h hdrLen ctrOff false false) s = .next t ∧ t.rd (L.ENC e.buf) = c + 1 ∧ t.ctxRd e.ctx 0x38 5 = c + 1 ∧
            t.ctxRd e.ctx 0x74 1 = 2 ∧ t.ctxRd e.ctx 0x75 1 = 1 ∧ ListsKept s t ∧
            ∀ x, (∀ b ∈ s.chain 2048 e.buf, ¬ (bufAddr b ≤ x ∧ x < bufAddr b + 128)) →
              ¬ (ctxAddr e.ctx 0 ≤ x ∧ x < ctxAddr e.ctx 0x80) → t.rdB x = s.rdB x)))

/-- R166, R167, R170, R195: the verdict. -/
def Obligations.VerdictOfAFrame : Prop :=
  (∀ (s : State) (r : Radio) (k : Nat) (f : RxFrame) (lane : Bool) (ev : Option Nat),
    (s.judge r none f lane ev).code = 4 ∧
    (s.ctxState k ≠ 2 ∨ s.ctxFaulted k = true ∨ s.on (L.RX_FAULT r) = true → (s.judge r (some k) f lane ev).code = 4) ∧
    (s.ctxState k = 2 → s.ctxFaulted k = false → s.on (L.RX_FAULT r) = false →
      (s.rd (L.RX_KEYST r) = 3 → (s.judge r (some k) f lane ev).code = 6) ∧
      (s.rd (L.RX_KEYST r) ≠ 3 →
        (lane = true → (s.judge r (some k) f lane ev).code = 5) ∧
        (lane = false → s.on (L.RX_CRC r) = false → (s.judge r (some k) f lane ev).code = 3) ∧
        (lane = false → s.on (L.RX_CRC r) = true → s.ctxType k ≠ 2 → s.ctxFlag k 1 = false → (s.judge r (some k) f lane ev).code = 0))) ∧
    (s.judge r (some k) f lane ev).code ≤ 6) ∧
  (∀ rx bm c : Nat,
    replayRule false rx bm c = some (c, 1) ∧
    (rx < c → ∃ bm', replayRule true rx bm c = some (c, bm') ∧ bit bm' 0 = true ∧
      ∀ i, i < 64 → c - rx ≤ i → bit bm' i = bit bm (i - (c - rx))) ∧
    (c ≤ rx → rx - c < 64 → bit bm (rx - c) = false → ∃ bm', replayRule true rx bm c = some (rx, bm') ∧ bit bm' (rx - c) = true ∧
      ∀ i, i ≠ rx - c → bit bm' i = bit bm i) ∧
    (c ≤ rx → (64 ≤ rx - c ∨ bit bm (rx - c) = true) → replayRule true rx bm c = none)) ∧
  (∀ (s : State) (r : Radio) (f : RxFrame) (lat : BitVec 8), Calm s → s.rd (L.RX_ST r) = 3 → s.rd R.LINK_VLAT_MAX < 2 ^ 8 → s.rd L.SNAP_WAIT = 0 →
    let k := if s.on (L.RX_IDED r) && s.on (L.RX_CTX r) then some (s.rd (L.RX_CTX r) - 1) else none
    let kn := k.getD 0
    let needKey := k.isSome && s.laneNeeds kn f
    let lane := s.on (L.RX_LOCKSTEP r) || s.rd (L.RX_KEYST r) == 4 || s.on L.LANE_RST
    let code := (s.judge r k f lane ((s.rxEvent r).map s.evAsn)).code
    s.rd (L.CTX_BAD kn) = 0 → (needKey = false ∨ s.rd (L.RX_KEYST r) ≠ 1) →
    ∃ t, exec (.verdict r f ⟨false, false, false⟩ lat []) s = .next t ∧ t.rd (R.LINK_VCNT code) = min (s.rd (R.LINK_VCNT code) + 1) (2 ^ 32 - 1) ∧
      t.rd R.LINK_VLAT_LAST = lat.toNat ∧ t.rd R.LINK_VLAT_MAX = max lat.toNat (s.rd R.LINK_VLAT_MAX) ∧
      (51 < lat.toNat → t.rd R.LINK_EVT_VERDICT_OVER = 1) ∧
      t.rd (L.RX_ST r) = 0 ∧ t.rd (L.RX_CTX r) = 0 ∧ t.rd (L.RX_KEYST r) = 0 ∧ t.rd (L.RX_EV r) = 0 ∧ t.ff (L.RX_BUFS r) = [] ∧
      ((code = 4 ∨ code = 5 ∨ code = 6) → s.rd (L.RX_EV r) = 0 → ∀ a, regionOf a = .ctxWin → t.rdB a = s.rdB a))

/-- R158: whether a context can be taken by an allocation of a type. -/
def ContextStore.Takes (s : State) (typ k : Nat) : Prop :=
  s.inPart (typeRadio typ) k = true ∧ s.ctxState k = 0 ∧ s.rd L.FREEING ≠ k + 1

/-- R158 to R162: the six rows of the context store. -/
def Obligations.ContextStoreCommands : Prop :=
  ∀ s : State, Calm s →
    (∀ (m : Master) (typ : BitVec 3), Taken s m R.CTX_ALLOC_CMD_TYPE →
      let ty := typ.toNat
      (m ≠ .link → ∃ t, exec (.ctxAlloc m typ) s = .next t ∧ Only [] [] s t) ∧
      (m = .link →
        (ty = 0 ∨ 5 < ty → ∃ t, exec (.ctxAlloc m typ) s = .next t ∧ t.rd R.CTX_ALLOC_RES_RESULT = 4 ∧ Only [R.CTX_ALLOC_RES_RESULT] [] s t) ∧
        (1 ≤ ty → ty ≤ 5 → s.typeCap ty ≤ s.typeUse ty →
          ∃ t, exec (.ctxAlloc m typ) s = .next t ∧ t.rd R.CTX_ALLOC_RES_RESULT = 3 ∧ Only [R.CTX_ALLOC_RES_RESULT] [] s t) ∧
        (1 ≤ ty → ty ≤ 5 → s.typeUse ty < s.typeCap ty → (∀ k < 256, ¬ ContextStore.Takes s ty k) →
          ∃ t, exec (.ctxAlloc m typ) s = .next t ∧ t.rd R.CTX_ALLOC_RES_RESULT = 2 ∧ Only [R.CTX_ALLOC_RES_RESULT] [] s t) ∧
        (∀ k < 256, 1 ≤ ty → ty ≤ 5 → s.typeUse ty < s.typeCap ty → ContextStore.Takes s ty k → (∀ j < k, ¬ ContextStore.Takes s ty j) →
          ∃ t, exec (.ctxAlloc m typ) s = .next t ∧ t.rd R.CTX_ALLOC_RES_RESULT = 1 ∧ t.rd R.CTX_ALLOC_RES_INDEX = k ∧
            t.ctxType k = ty ∧ t.ctxState k = 1 ∧ t.ctxRd k 2 1 = typeRadio ty ∧
            (∀ off, 3 ≤ off → off < 128 → t.rdB (ctxAddr k off) = 0#8) ∧
            (∀ a, ¬ (ctxAddr k 0 ≤ a ∧ a < ctxAddr k 0x80) → t.rdB a = s.rdB a) ∧ ListsKept s t ∧
            RegsBut [R.CTX_ALLOC_RES_RESULT, R.CTX_ALLOC_RES_INDEX, R.CTX_FAULTED (k / 32), L.LE_SEQ k, L.LE_UNMAPPED k, L.CTX_BAD k] s t))) ∧
    (∀ (m : Master) (k : BitVec 8), Taken s m R.CTX_FREE_CMD_GO →
      (m ≠ .link ∨ s.on R.CTX_FREE_STAT_BUSY = true → ∃ t, exec (.ctxFree m k) s = .next t ∧ Only [] [] s t) ∧
      (m = .link → s.on R.CTX_FREE_STAT_BUSY = false →
        ∃ t, exec (.ctxFree m k) s = .next t ∧ t.rd R.CTX_FREE_STAT_BUSY = 1 ∧ t.rd L.FREEING = k.toNat + 1 ∧ ∀ x ∈ t.armed, x.ctx ≠ k.toNat)) ∧
    (s.on R.CTX_FREE_STAT_BUSY = true →
      ((∃ r : Radio, s.rd (L.RX_CTX r) = s.rd L.FREEING) → ∃ t, exec .ctxFreeDone s = .next t ∧ Only [] [] s t) ∧
      (∀ k < 256, s.rd L.FREEING = k + 1 → (∀ r : Radio, s.rd (L.RX_CTX r) ≠ k + 1) →
        ∃ t, exec .ctxFreeDone s = .next t ∧ t.rd R.CTX_FREE_STAT_BUSY = 0 ∧ t.rd L.FREEING = 0 ∧ t.rd (L.IV k) = 0 ∧
          (∀ off < 128, t.rdB (ctxAddr k off) = 0#8) ∧ bit (t.rd (R.CTX_FAULTED (k / 32))) (k % 32) = false ∧
          (∀ a, ¬ (ctxAddr k 0 ≤ a ∧ a < ctxAddr k 0x80) → t.rdB a = s.rdB a) ∧ ListsKept s t ∧
          RegsBut [R.CTX_FREE_STAT_BUSY, L.FREEING, L.IV k, R.CTX_FAULTED (k / 32), L.LE_SEQ k, L.LE_UNMAPPED k, L.CTX_BAD k] s t)) ∧
    (∀ (m : Master) (a : Word) (z : Size) (v : Word), regionOf a.toNat = .ctxWin →
      (a.toNat % 4 = 0 → m ≠ .link ∨ z ≠ .word → ∃ t, exec (.ctxWindowStore m a z v) s = .next t ∧ t.resp = .error ∧ Only [] [] s t) ∧
      (a.toNat % 4 ≠ 0 → z = .word → ∃ t, exec (.ctxWindowStore m a z v) s = .next t ∧ t.resp = (s.misalign m true).resp ∧ Only [] [] s t) ∧
      (m = .link → z = .word → a.toNat % 4 = 0 → s.domOn (regionDom .ctxWin) = true → s.islOn (regionIsl .ctxWin) = true →
        Open s m a.toNat (regionIsl .ctxWin) →
        let k := (a.toNat - 0x20160000) / 128
        let off := (a.toNat - 0x20160000) % 128
        (s.ctxState k = 0 → ∃ t, exec (.ctxWindowStore m a z v) s = .next t ∧ t.resp = .ok ∧ Only [] [] s t) ∧
        (s.ctxState k ≠ 0 → s.armed = [] → s.running = [] →
          ∃ t, exec (.ctxWindowStore m a z v) s = .next t ∧ t.resp = .ok ∧ RegsBut [] s t ∧ ListsKept s t ∧
            (∀ i < 4, (t.rdB (a.toNat + i)).toNat =
              (ctxByte (s.ctxState k) (off + i) (s.rdB (a.toNat + i)).toNat (v.toNat / 256 ^ i % 256)).getD (s.rdB (a.toNat + i)).toNat) ∧
            ∀ x, ¬ (a.toNat ≤ x ∧ x < a.toNat + 4) → t.rdB x = s.rdB x))) ∧
    (∀ st off old new : Nat, ctxByte st 0 old new = none ∧ (ctxByte st 1 old new = if 1 ≤ new ∧ new ≤ 3 then some new else none) ∧
      (off ∈ [0x38, 0x39, 0x3A, 0x3B, 0x3C, 0x40, 0x41, 0x42, 0x43, 0x44, 0x45, 0x48, 0x4F, 0x50, 0x57, 0x66, 0x67] →
        ctxByte 2 off old new = none ∧ ctxByte 1 off old new = some new ∧ ctxByte 3 off old new = some new)) ∧
    (∀ (m : Master) (k : BitVec 8), Taken s m R.CTX_SNAP_CMD_GO →
      let waits := ∃ r : Radio, s.rd (L.RX_ST r) = 3 ∧ s.rd (L.RX_CTX r) = k.toNat + 1
      ∃ t, exec (.ctxSnap m k []) s = .next t ∧
        (waits → t.rd R.CTX_SNAP_STAT_DONE = 0 ∧ t.rd L.SNAP_WAIT = k.toNat + 1 ∧
          Only [R.CTX_SNAP_STAT_DONE, L.SNAP_WAIT] [L.SNAP_ERR] s t) ∧
        (¬ waits → s.running = [] → s.rd (L.CTX_BAD k.toNat) = 0 →
          (∀ i < 32, t.rd (R.CTX_SNAP i) = s.ctxRd k.toNat (4 * i) 4) ∧ t.rd R.CTX_SNAP_STAT_DONE = 1 ∧
          t.rd R.CTX_SNAP_STAT_UNCORR = 0 ∧ t.rd R.CTX_SNAP_STAT_INDEX = k.toNat ∧
          Only ([R.CTX_SNAP_STAT_DONE, R.CTX_SNAP_STAT_UNCORR, R.CTX_SNAP_STAT_INDEX, L.SNAP_WAIT] ++ (List.range 32).map R.CTX_SNAP)
            [L.SNAP_ERR] s t)) ∧
    ((s.rd R.CTX_CTRL_SCRUB_INT = 0 → ∃ t, exec (.ctxScrub []) s = .next t ∧ Only [] [] s t) ∧
     (s.rd R.CTX_CTRL_SCRUB_INT ≠ 0 → s.online 11 = true → s.running = [] → s.rd (L.CTX_BAD (s.rd L.SCRUB)) = 0 →
      ∃ t, exec (.ctxScrub []) s = .next t ∧ t.rd L.SCRUB = (s.rd L.SCRUB + 1) % 256 ∧ Only [L.SCRUB] [] s t))

/-- R170, R171, R173, R179, R180: five rows of the link controller's registers. -/
def Obligations.QueueAndMailboxes : Prop :=
  ∀ (s : State) (m : Master), Calm s →
    TakenAll s m [R.LINK_EVQ_CMD_POP, R.LINK_APPCMD_GO, R.LINK_APPCMD_DONE_RESULT, R.LINK_MC_POST_GO, R.LINK_VLAT_CLEAR] →
    (s.evq = [] → ∃ t, exec (.evqPop m) s = .next t ∧ Only [] [] s t) ∧
    (∀ e l, s.evq = e :: l → s.rd L.EVQ_LOST = 0 →
      ∃ t, exec (.evqPop m) s = .next t ∧ t.evq = l ∧ t.resp = .ok ∧ RegsBut [] s t ∧ FifosBut [] s t ∧ MemKept s t) ∧
    (∀ e l, s.evq = e :: l → s.rd L.EVQ_LOST ≠ 0 → l.length + s.rd L.EVQ_RSV < 64 →
      ∃ t, exec (.evqPop m) s = .next t ∧ t.evq = l ++ [mkEntry 9 0 0 0 0 0 s.lt 0 0 (min (s.rd L.EVQ_LOST) 255)] ∧ t.rd L.EVQ_LOST = 0 ∧ MemKept s t) ∧
    (∃ t, exec (.appcmdGo m) s = .next t ∧ t.rd R.LINK_APPCMD_STAT_BUSY = 1 ∧ Only [R.LINK_APPCMD_STAT_BUSY] [] s t) ∧
    (∀ res : BitVec 8,
      (m = .link → ∃ t, exec (.appcmdDone m res) s = .next t ∧ t.rd R.LINK_APPCMD_STAT_RESULT = res.toNat ∧ t.rd R.LINK_APPCMD_STAT_BUSY = 0 ∧
        Only [R.LINK_APPCMD_STAT_RESULT, R.LINK_APPCMD_STAT_BUSY] [] s t) ∧
      (m ≠ .link → ∃ t, exec (.appcmdDone m res) s = .next t ∧ Only [] [] s t)) ∧
    (m ≠ .link ∨ s.rd R.LINK_MC_POST_0 % 256 < 0x80 → ∃ t, exec (.mcPostGo m) s = .next t ∧ Only [] [] s t) ∧
    (m = .link → 0x80 ≤ s.rd R.LINK_MC_POST_0 % 256 →
      (s.evqUsed < 64 → s.rd R.SYSCTL_PWR_STAT_LISTEN = 0 →
        ∃ t, exec (.mcPostGo m) s = .next t ∧
          t.evq = s.evq ++ [⟨s.rd R.LINK_MC_POST_0, s.rd R.LINK_MC_POST_1, s.rd R.LINK_MC_POST_2, s.rd R.LINK_MC_POST_3⟩] ∧
          RegsBut [] s t ∧ FifosBut [] s t ∧ MemKept s t) ∧
      (64 ≤ s.evqUsed → ∃ t, exec (.mcPostGo m) s = .next t ∧ t.rd R.LINK_EVT_EVQ_DROP = 1 ∧
        t.rd R.LINK_EVQ_STAT_DROP_CNT = min (s.rd R.LINK_EVQ_STAT_DROP_CNT + 1) (2 ^ R.LINK_EVQ_STAT_DROP_CNT.wid - 1) ∧
        t.rd L.EVQ_LOST = min (s.rd L.EVQ_LOST + 1) (2 ^ 16 - 1) ∧
        Only [R.LINK_EVT_EVQ_DROP, R.LINK_EVQ_STAT_DROP_CNT, L.EVQ_LOST] [] s t)) ∧
    (∃ t, exec (.vlatClear m) s = .next t ∧ t.rd R.LINK_VLAT_MAX = 0 ∧ Only [R.LINK_VLAT_MAX] [] s t)

/-- R177: what a swap that takes place leaves. -/
def MicrocodeBanks.Swapped (s t : State) : Prop :=
  t.rd R.LINK_MC_STAT_ACTIVE = s.rd L.MC_TGT + 1 ∧ t.rd R.LINK_MC_STAT_REASON = 1 ∧ t.rd R.LINK_STAT_CORES = 1 ∧
    t.rd R.LINK_MC_VERSION = s.rdLe (mcBank (s.rd L.MC_TGT) + 8) 4 ∧ t.rd R.LINK_EVT_MC_SWAPPED = 1 ∧ t.rd R.LINK_STAT_CHECKING = 0 ∧
    t.rd R.LINK_STAT_YIELD_REQ = 0 ∧ (s.evqUsed < 64 → t.evq = s.evq ++ [mkEntry 7 0 0 0 0 0 s.lt 0 0 0]) ∧ (∀ a < linkRam, t.rdB a = s.rdB a) ∧
    (s.rd R.LINK_MC_STAT_ACTIVE ≠ 0 → ∀ a, linkRam ≤ a → a < linkRam + 0x2000 → t.rdB a = 0#8) ∧ FifosBut [] s t

/-- R175 to R178: the four rows of the microcode banks. -/
def Obligations.MicrocodeBanks : Prop :=
  ∀ (s : State) (m : Master), Calm s → s.rd L.MC_TGT < 2 →
    (Taken s m R.LINK_MC_CMD_SWAP →
      (s.mcBusy = true → ∃ t, exec (.mcSwap m) s = .next t ∧ Only [] [] s t) ∧
      (s.mcBusy = false → ∃ t, exec (.mcSwap m) s = .next t ∧ t.rd R.LINK_STAT_CHECKING = 1 ∧
        t.rd L.MC_TGT = (if s.rd R.LINK_MC_STAT_ACTIVE = 1 then 1 else 0) ∧ Only [R.LINK_STAT_CHECKING, L.MC_TGT] [] s t)) ∧
    (∀ b < 2, s.mcCheck b = 1 → s.rdLe (mcBank b) 4 = 0x42434D4C ∧ s.rdLe (mcBank b + 4) 2 = 1 ∧ 64 ≤ s.rdLe (mcBank b + 0x0C) 4 ∧
      s.rdLe (mcBank b + 0x0C) 4 ≤ 65536 ∧ s.rdLe (mcBank b + 0x14) 4 < s.rdLe (mcBank b + 0x0C) 4 ∧
      crc32c ((s.rdBs (mcBank b) (s.rdLe (mcBank b + 0x0C) 4)).take 16 ++ zeros 4 ++ (s.rdBs (mcBank b) (s.rdLe (mcBank b + 0x0C) 4)).drop 20) =
        s.rdLe (mcBank b + 0x10) 4) ∧
    (s.on R.LINK_STAT_CHECKING = true →
      (s.mcCheck (s.rd L.MC_TGT) ≠ 1 →
        ∃ t, exec .mcCheckDone s = .next t ∧ t.rd R.LINK_MC_STAT_REASON = s.mcCheck (s.rd L.MC_TGT) ∧ t.rd R.LINK_EVT_MC_REFUSED = 1 ∧
          t.rd R.LINK_STAT_CHECKING = 0 ∧
          Only [R.LINK_STAT_CHECKING, R.LINK_STAT_YIELD_REQ, R.LINK_MC_STAT_REASON, R.LINK_EVT_MC_REFUSED] [] s t) ∧
      (s.mcCheck (s.rd L.MC_TGT) = 1 → s.rd R.LINK_MC_STAT_ACTIVE ≠ 0 →
        ∃ t, exec .mcCheckDone s = .next t ∧ t.rd R.LINK_STAT_CHECKING = 0 ∧ t.rd R.LINK_STAT_YIELD_REQ = 1 ∧
          Only [R.LINK_STAT_CHECKING, R.LINK_STAT_YIELD_REQ] [] s t) ∧
      (s.mcCheck (s.rd L.MC_TGT) = 1 → s.rd R.LINK_MC_STAT_ACTIVE = 0 → ∃ t, exec .mcCheckDone s = .next t ∧ MicrocodeBanks.Swapped s t)) ∧
    (Taken s m R.LINK_MC_YIELD →
      (m = .link → s.on R.LINK_STAT_YIELD_REQ = true → ∃ t, exec (.mcYield m) s = .next t ∧ MicrocodeBanks.Swapped s t) ∧
      (m ≠ .link ∨ s.on R.LINK_STAT_YIELD_REQ = false → ∃ t, exec (.mcYield m) s = .next t ∧ Only [] [] s t)) ∧
    (s.on R.LINK_STAT_YIELD_REQ = true →
      ∃ t, exec .mcYieldTimeout s = .next t ∧ t.rd R.LINK_MC_STAT_REASON = 7 ∧ t.rd R.LINK_EVT_MC_REFUSED = 1 ∧ t.rd R.LINK_STAT_YIELD_REQ = 0 ∧
        Only [R.LINK_STAT_CHECKING, R.LINK_STAT_YIELD_REQ, R.LINK_MC_STAT_REASON, R.LINK_EVT_MC_REFUSED] [] s t) ∧
    (s.on R.LINK_STAT_YIELD_REQ = false → ∃ t, exec .mcYieldTimeout s = .next t ∧ Only [] [] s t)

/-- R185: what a refused arming leaves. -/
def ArmAndCancel.Refused (s : State) (m : Master) (n : Nat) : Prop :=
  ∃ t, exec (.armGo m) s = .next t ∧ t.rd R.MAC_ARM_RES_RESULT = n ∧ t.rd R.MAC_EVT_ARM_REFUSED = 1 ∧
    Only [R.MAC_ARM_RES_RESULT, R.MAC_EVT_ARM_REFUSED] [] s t

/-- R183 to R188: ARM_GO and CANCEL. -/
def Obligations.ArmAndCancel : Prop :=
  ∀ (s : State) (m : Master), Calm s →
    (Taken s m R.MAC_ARM_GO →
      (m ≠ .link → ∃ t, exec (.armGo m) s = .next t ∧ Only [] [] s t) ∧
      (m = .link →
        (s.rd R.LINK_MC_STAT_ACTIVE = 0 → ∃ t, exec (.armGo m) s = .next t ∧ Only [] [] s t) ∧
        let k := s.rd R.MAC_ARM_0 % 256
        let kind := bits (s.rd R.MAC_ARM_0) 11 8
        let chan := bits (s.rd R.MAC_ARM_0) 31 24
        let r : Radio := if typeRadio (s.ctxType k) = 1 then .stratus else .cirrus
        let used (p : Nat) : Prop := ∃ x ∈ s.armed ++ s.running, x.handle = 8 * r.idx + p
        (s.rd R.LINK_MC_STAT_ACTIVE ≠ 0 → s.ctxLive k = false → ArmAndCancel.Refused s m 4) ∧
        (s.rd R.LINK_MC_STAT_ACTIVE ≠ 0 → s.ctxLive k = true →
          (kindOk kind (s.ctxType k) = false → ArmAndCancel.Refused s m 5) ∧
          (kindOk kind (s.ctxType k) = true →
            (s.chanKhz k chan = none → ArmAndCancel.Refused s m 6) ∧
            (∀ f, s.chanKhz k chan = some f →
              ((∀ p < 8, used p) → ArmAndCancel.Refused s m 2) ∧
              (∀ p < 8, ¬ used p → (∀ q < p, used q) →
                let e := s.armEvent k f
                let late := e.fest < s.lt + s.leadUs r (txKind kind) * 256
                (late → ArmAndCancel.Refused s m 3) ∧
                (¬ late → ∃ t, exec (.armGo m) s = .next t ∧ t.rd R.MAC_ARM_RES_RESULT = 1 ∧ t.rd R.MAC_ARM_RES_HANDLE = 8 * r.idx + p ∧
                  t.armed = s.armed ++ [{ e with handle := 8 * r.idx + p }] ∧
                  e.ctx = k ∧ e.kind = kind ∧ e.freqKhz = f ∧ e.start = s.rd R.MAC_ARM_1 + 2 ^ 32 * s.rd R.MAC_ARM_2 ∧
                  e.txLen = bits (s.rd R.MAC_ARM_3) 26 16 ∧ e.buf = s.rd R.MAC_ARM_4 % 2048 ∧
                  t.running = s.running ∧ t.evq = s.evq ∧ RegsBut [R.MAC_ARM_RES_RESULT, R.MAC_ARM_RES_HANDLE] s t ∧ FifosBut [] s t ∧
                  MemKept s t))))))) ∧
    (Taken s m R.MAC_CANCEL_GO → ∀ h : BitVec 4,
      (m ≠ .link ∨ (∀ x ∈ s.armed ++ s.running, x.handle ≠ h.toNat) → ∃ t, exec (.cancel m h) s = .next t ∧ Only [] [] s t) ∧
      (m = .link →
        (∀ e, s.armed.find? (fun x => x.handle == h.toNat) = some e →
          ∃ t, exec (.cancel m h) s = .next t ∧ (∀ x ∈ t.armed, x.handle ≠ h.toNat) ∧ t.running = s.running ∧ MemKept s t ∧ FifosBut [] s t ∧
            (txKind e.kind = false → t.evq = s.evq ∧ RegsBut [] s t) ∧
            (txKind e.kind = true → s.evqUsed < 64 → t.evq = s.evq ++ [mkEntry 3 e.ctx 0 (e.handle / 8) 0 0 s.lt e.txLen 0 12])) ∧
        (∀ e, s.armed.find? (fun x => x.handle == h.toNat) = none → s.running.find? (fun x => x.handle == h.toNat) = some e → e.phase ≠ 1 →
          txKind e.kind = false →
          ∃ t, exec (.cancel m h) s = .next t ∧ (∀ x ∈ t.running, x.handle ≠ h.toNat) ∧ t.evq = s.evq ∧ MemKept s t)))

/-- R184: the command that starts an event of a kind. -/
def EventStarts.cmd (kind : Nat) (h : BitVec 4) : Instr :=
  match kind with
  | 1 => .rxWindow h
  | 2 => .macTx h
  | 3 => .macTxAck h
  | 4 => .ccaTxAck h
  | 5 => .leConnEvent h
  | 6 => .leAdvEvent h
  | 7 => .leScan h
  | 8 => .beaconTx h
  | _ => .beaconRx h

/-- The event's radio is idle, takes the sequencer's commands and has nothing else to do. -/
def EventStarts.Free (s : State) (r : Radio) : Prop :=
  s.rst r = 1 ∧ s.rd (L.RA_TGT r) = 0 ∧ RadioFree s r ∧ s.rd (R.FE_CTRL_DIRECT r) = 0 ∧ s.rd (L.ACK_BUF r) = 0 ∧
    (∀ x ∈ s.running, x.radio ≠ r) ∧ s.rd (R.FE_STAT_TX_INHIBIT r) = 0

/-- The event runs in a phase, and its radio settles for an operation at a time on a frequency (kHz). -/
def EventStarts.Runs (s t : State) (e : Armed) (phase st tgt start freq : Nat) : Prop :=
  (∃ x ∈ t.running, x.handle = e.handle ∧ x.phase = phase) ∧ (∀ x ∈ t.armed, x.handle ≠ e.handle) ∧ t.rst e.radio = st ∧
    t.rd (L.RA_TGT e.radio) = tgt ∧ t.rd (L.RA_START e.radio) = start % 2 ^ 64 ∧ t.rd (L.RA_EV e.radio) = e.handle + 1 ∧
    t.ap e.radio (R.FE_CHAN_FREQ_KHZ e.radio) = (if e.radio = .cirrus then freq - 2400000 else freq) % 2 ^ (R.FE_CHAN_FREQ_KHZ e.radio).wid ∧
    t.evq = s.evq

/-- R154: LAST_CHAN of the event's context names its channel, and no other byte of memory changes. -/
def EventStarts.Tuned (s t : State) (e : Armed) (ch : Nat) : Prop :=
  t.ctxRd e.ctx 0x68 1 = ch % 256 ∧ (∀ x, x ≠ ctxAddr e.ctx 0x68 → t.rdB x = s.rdB x) ∧ (∀ x, t.rdP x = s.rdP x) ∧ t.porchFw = s.porchFw

/-- R152, R198: neither the counter nor a missing encryption holds the event's frame back. -/
def EventStarts.MaySend (s : State) (e : Armed) : Prop :=
  s.ctxRd e.ctx 0x38 5 < ctrLimit (s.ctxType e.ctx) ∧
    ((s.ctxFlag e.ctx 1 = false ∧ e.kind ≠ 8) ∨ (s.ctxType e.ctx = 2 ∧ e.txLen ≤ 2) ∨ s.on (L.ENC e.buf) = true)

/-- R184 to R212: the nine rows that start an event. -/
def Obligations.EventStarts : Prop :=
  ∀ (s : State) (h : BitVec 4), Calm s →
    (∀ kind, 1 ≤ kind → kind ≤ 9 → (∀ x ∈ s.armed, x.handle = h.toNat → x.kind ≠ kind) →
      ∃ t, exec (EventStarts.cmd kind h) s = .next t ∧ Only [] [] s t) ∧
    (∀ e, 1 ≤ e.kind → e.kind ≤ 9 → s.armed.find? (fun x => x.handle == h.toNat && [e.kind].contains x.kind) = some e →
      let c := EventStarts.cmd e.kind h
      let r := e.radio
      let phy := s.ctxRd e.ctx 3 1
      let air := airUs r.idx (s.onAir r.idx phy e.txLen)
      let rsv := air + if e.kind = 3 ∨ e.kind = 4 then s.ackAir r.idx phy e.exp else 0
      (s.rst r = 8 → txKind e.kind = false → ∃ t, exec c s = .next t ∧ t.ctxRd e.ctx 0x70 2 = min (s.ctxRd e.ctx 0x70 2 + 1) 65535 ∧
        (∀ x ∈ t.armed, x.handle ≠ e.handle) ∧ t.evq = s.evq ∧ RegsBut [] s t ∧ FifosBut [] s t) ∧
      (s.rst r = 8 ∨ s.on (R.FE_CTRL_DIRECT r) = true ∨ s.on (L.ACK_BUF r) = true → txKind e.kind = true → s.evqUsed < 64 →
        ∃ t, exec c s = .next t ∧ t.evq = s.evq ++ [mkEntry 3 e.ctx 0 (e.handle / 8) 0 0 s.lt e.txLen 0 8] ∧ (∀ x ∈ t.armed, x.handle ≠ e.handle)) ∧
      (s.rst r ≠ 8 → s.on (R.FE_CTRL_DIRECT r) = true ∨ s.on (L.ACK_BUF r) = true → txKind e.kind = false →
        ∃ t, exec c s = .next t ∧ (∀ x ∈ t.armed, x.handle ≠ e.handle) ∧ t.evq = s.evq ∧ RegsBut [] s t ∧ MemKept s t) ∧
      (EventStarts.Free s r →
        (e.kind = 1 ∨ e.kind = 9 → ∃ t, exec c s = .next t ∧ EventStarts.Runs s t e 3 3 2 e.fest e.freqKhz ∧ EventStarts.Tuned s t e e.chan) ∧
        (e.kind = 7 → ∃ t, exec c s = .next t ∧ EventStarts.Runs s t e 3 3 2 e.start e.freqKhz ∧ EventStarts.Tuned s t e e.chan) ∧
        (EventStarts.MaySend s e →
          (s.dutyBand e.ctx e.freqKhz = none → r = .cirrus →
            (e.kind = 2 ∨ e.kind = 3 ∨ e.kind = 8 → ∃ t, exec c s = .next t ∧ EventStarts.Runs s t e 1 5 3 e.start e.freqKhz ∧ EventStarts.Tuned s t e e.chan) ∧
            (e.kind = 4 → ∃ t, exec c s = .next t ∧ EventStarts.Runs s t e 4 3 2 e.fest e.freqKhz ∧ t.rd (L.CCA_ON r) = 1 ∧ EventStarts.Tuned s t e e.chan)) ∧
          (∀ n, s.dutyBand e.ctx e.freqKhz = some n → (rsv : Int) ≤ s.dutyAvail n →
            (e.kind = 2 ∨ e.kind = 3 ∨ e.kind = 8 → ∃ t, exec c s = .next t ∧ EventStarts.Runs s t e 1 5 3 e.start e.freqKhz ∧
              t.rd (L.DUTY_RSV n) = (s.rd (L.DUTY_RSV n) + rsv) % 2 ^ 32 ∧ EventStarts.Tuned s t e e.chan) ∧
            (e.kind = 4 → ∃ t, exec c s = .next t ∧ EventStarts.Runs s t e 4 3 2 e.fest e.freqKhz ∧ t.rd (L.CCA_ON r) = 1 ∧
              t.rd (L.DUTY_RSV n) = (s.rd (L.DUTY_RSV n) + rsv) % 2 ^ 32 ∧ EventStarts.Tuned s t e e.chan)) ∧
          (∀ n, s.dutyBand e.ctx e.freqKhz = some n → s.dutyAvail n < (rsv : Int) → e.kind = 2 ∨ e.kind = 3 ∨ e.kind = 8 → s.evqUsed < 64 →
            ∃ t, exec c s = .next t ∧ t.rd R.MAC_EVT_DUTY_REFUSED = 1 ∧
              t.evq = s.evq ++ [mkEntry 3 e.ctx 0 (e.handle / 8) 0 0 s.lt e.txLen 0 3] ∧ (∀ x ∈ t.armed ++ t.running, x.handle ≠ e.handle))) ∧
        (e.kind = 5 → r = .cirrus →
          let ch := (s.leChan e.ctx).1
          (s.ctxFlag e.ctx 2 = false → ∃ t, exec c s = .next t ∧ EventStarts.Runs s t e 3 3 2 e.fest (leKhz ch) ∧
            t.ctxRd e.ctx 0x66 2 = (s.ctxRd e.ctx 0x66 2 + 1) % 65536) ∧
          (s.ctxFlag e.ctx 2 = true → EventStarts.MaySend s e → s.dutyBand e.ctx (leKhz ch) = none →
            ∃ t, exec c s = .next t ∧ EventStarts.Runs s t e 1 5 3 e.start (leKhz ch) ∧
              t.ctxRd e.ctx 0x66 2 = (s.ctxRd e.ctx 0x66 2 + 1) % 65536)) ∧
        (∀ ch, e.kind = 6 → r = .cirrus → EventStarts.MaySend s e → 37 ≤ ch → ch < 40 → bit (s.ctxRd e.ctx 0x60 5) ch = true →
          (∀ j < ch, 37 ≤ j → bit (s.ctxRd e.ctx 0x60 5) j = false) → s.dutyBand e.ctx (leKhz ch) = none →
          ∃ t d, d ≤ 2560000 ∧ exec c s = .next t ∧ EventStarts.Runs s t e 1 5 3 (max (e.start + d) s.lt) (leKhz ch) ∧ EventStarts.Tuned s t e ch)))

/-- R193, R203, R204, R208, R209, R211: six rows of the medium access engine. -/
def Obligations.WaitsWindowsAndBudgets : Prop :=
  ∀ s : State, Calm s →
    (∀ r : Radio, s.runOn r = none → ∀ c ∈ [Instr.ackWaitTimeout r, .rxWindowClose r, .maxdurUsExpire r], ∃ t, exec c s = .next t ∧ Only [] [] s t) ∧
    (∀ (r : Radio) (e : Armed), s.runOn r = some e →
      (e.phase ≠ 2 ∨ s.on (L.RX_ST r) = true → ∃ t, exec (.ackWaitTimeout r) s = .next t ∧ Only [] [] s t) ∧
      (e.phase = 2 → s.on (L.RX_ST r) = false → s.on (R.MDM_STAT_IN_FRAME r) = true →
        (e.kind = 6 ∨ e.kind = 7 → ∃ t, exec (.ackWaitTimeout r) s = .next t ∧ Only [] [] s t) ∧
        (e.kind ≠ 6 → e.kind ≠ 7 → s.rst r = 4 →
          ∃ t, exec (.ackWaitTimeout r) s = .next t ∧ t.rd (L.RX_CLOSE r) = 1 ∧ Only [L.RX_CLOSE r] [] s t)) ∧
      (e.phase ≠ 3 ∨ (e.kind ≠ 7 ∧ s.on (L.RX_ST r) = true ∧ s.on (R.MDM_STAT_IN_FRAME r) = false) →
        ∃ t, exec (.rxWindowClose r) s = .next t ∧ Only [] [] s t) ∧
      (e.phase = 3 → s.on (R.MDM_STAT_IN_FRAME r) = true → s.rst r = 4 →
        (e.kind ≠ 7 → ∃ t, exec (.rxWindowClose r) s = .next t ∧ t.rd (L.RX_CLOSE r) = 1 ∧ Only [L.RX_CLOSE r] [] s t) ∧
        (e.kind = 7 → ∃ t, exec (.rxWindowClose r) s = .next t ∧ t.rd (L.RX_CLOSE r) = 1 ∧ RegsBut [L.RX_CLOSE r] s t ∧
          t.running = s.running.map (fun x => if x.handle = e.handle then { e with exp := 1 } else x) ∧ t.armed = s.armed ∧ t.evq = s.evq ∧
          FifosBut [] s t ∧ MemKept s t)) ∧
      (e.kind < 5 ∨ 7 < e.kind → ∃ t, exec (.maxdurUsExpire r) s = .next t ∧ Only [] [] s t) ∧
      (5 ≤ e.kind → e.kind ≤ 7 → e.phase = 1 → ∃ t, exec (.maxdurUsExpire r) s = .next t ∧
        t.running = s.running.map (fun x => if x.handle = e.handle then { e with exp := 1 } else x) ∧ t.armed = s.armed ∧ t.evq = s.evq ∧
        RegsBut [] s t ∧ FifosBut [] s t ∧ MemKept s t) ∧
      (s.rst r = 4 → s.ap r (R.FE_AUTO_RX_END r) = 0 → s.on (L.RX_ST r) = false → s.on (R.MDM_STAT_IN_FRAME r) = false →
        (e.phase = 2 → e.kind = 3 ∨ e.kind = 4 → s.evqUsed < 64 → ∃ t, exec (.ackWaitTimeout r) s = .next t ∧ t.rst r = 1 ∧
          t.evq = s.evq ++ [mkEntry 3 e.ctx 0 (e.handle / 8) 0 0 s.lt e.txLen 0 1] ∧ (∀ x ∈ t.running, x.handle ≠ e.handle)) ∧
        (e.phase = 2 → e.kind = 5 → ∃ t, exec (.ackWaitTimeout r) s = .next t ∧ t.rst r = 1 ∧ t.evq = s.evq ∧ (∀ x ∈ t.running, x.handle ≠ e.handle) ∧
          (e.anch = true ∨ e.fails ≠ 0 → MemKept s t) ∧
          (e.anch = false → e.fails = 0 → t.ctxRd e.ctx 0x70 2 = min (s.ctxRd e.ctx 0x70 2 + 1) 65535)) ∧
        (e.phase = 2 → e.kind = 7 → ∃ t, exec (.ackWaitTimeout r) s = .next t ∧ (∃ x ∈ t.running, x.handle = e.handle ∧ x.phase = 3) ∧
          t.rd (L.RA_TGT r) = 2 ∧ MemKept s t) ∧
        (e.phase = 3 → e.kind ≠ 7 → ∃ t, exec (.rxWindowClose r) s = .next t ∧ t.rst r = 1 ∧
          t.ctxRd e.ctx 0x70 2 = min (s.ctxRd e.ctx 0x70 2 + 1) 65535 ∧ (∀ x ∈ t.running, x.handle ≠ e.handle) ∧ t.evq = s.evq) ∧
        (e.phase = 3 → e.kind = 7 → ∃ t, exec (.rxWindowClose r) s = .next t ∧ t.rst r = 1 ∧ (∀ x ∈ t.running, x.handle ≠ e.handle) ∧ MemKept s t) ∧
        (e.phase ≠ 1 → e.kind = 5 ∨ e.kind = 7 → ∃ t, exec (.maxdurUsExpire r) s = .next t ∧ t.rst r = 1 ∧ t.evq = s.evq ∧
          (∀ x ∈ t.running, x.handle ≠ e.handle) ∧ MemKept s t))) ∧
    (∀ (m : Master) (v : Word), Taken s m R.MAC_FT_OFS_HI →
      (m = .link → s.rd L.FT_LO < 2 ^ 32 → ∃ t, exec (.ftOfsHiWrite m v) s = .next t ∧ t.rd R.MAC_FT_OFS_HI = v.toNat ∧
        t.rd R.MAC_FT_OFS_LO = s.rd L.FT_LO ∧ Only [R.MAC_FT_OFS_HI, R.MAC_FT_OFS_LO] [] s t) ∧
      (m ≠ .link → ∃ t, exec (.ftOfsHiWrite m v) s = .next t ∧ Only [] [] s t)) ∧
    (∀ n : Fin 8,
      (∃ t, exec (.dutyBucketRoll n) s = .next t ∧ t.ff (L.DUTY_BKT n.val) = 0 :: (s.ff (L.DUTY_BKT n.val)).take 64 ∧
        Only [] [L.DUTY_BKT n.val] s t) ∧
      (s.rd (L.DUTY_T0 n.val) + s.rd (R.MAC_DUTY_WINDOW_S n.val) * 256000000 ≤ s.lt →
        ∃ t, exec (.dutyWindowFull n) s = .next t ∧ t.rd (R.MAC_DUTY_WINDOW_FULL n.val) = 1 ∧ Only [R.MAC_DUTY_WINDOW_FULL n.val] [] s t) ∧
      (s.lt < s.rd (L.DUTY_T0 n.val) + s.rd (R.MAC_DUTY_WINDOW_S n.val) * 256000000 →
        ∃ t, exec (.dutyWindowFull n) s = .next t ∧ Only [] [] s t))

/-- R225, R228: the state slot k loads into, where no check is injected. -/
def KeyStore.loaded (s : State) (bad : BitVec 16) (k : Nat) : Nat :=
  if bad.getLsbD k then 3 else if bit (s.rd R.KEYS_REVOKE_PEND) k || s.on (L.OTP_REV k) then 2 else s.rd (L.OTP_STATE k)

/-- R225 to R231, R245: the eight rows of the key store. -/
def Obligations.KeyStoreCommands : Prop :=
  ∀ s : State, Calm s → (∀ k < 16, s.rd (L.OTP_STATE k) < 4) → s.rd L.PROG_POLICY < 32 →
    (∀ bad : BitVec 16, s.domOn 7 = true → s.islOn 4 = true → s.on R.CIPHER_STAT_READY = false → s.on L.LANE_RST = false →
      ∃ t, exec (.keystoreLoadDone bad) s = .next t ∧ t.rd R.CIPHER_STAT_READY = 1 ∧
        (∀ k < 16, t.rd (R.KEYS_SLOT_STATE k) = KeyStore.loaded s bad k ∧ t.rd (L.OTP_STATE k) = s.rd (L.OTP_STATE k) ∧
          (bad.getLsbD k = true → bit (t.rd R.FAULT_HIT_1) 5 = true)) ∧ MemKept s t ∧ ListsKept s t) ∧
    (∀ bad : BitVec 16, s.on R.CIPHER_STAT_READY = true ∨ s.on L.LANE_RST = true →
      ∃ t, exec (.keystoreLoadDone bad) s = .next t ∧ Only [] [] s t) ∧
    (∀ bad : BitVec 16, s.on L.LANE_RST = true →
      ∃ t, exec (.laneResetDone bad) s = .next t ∧ t.rd R.CIPHER_STAT_READY = 1 ∧ t.rd L.LANE_RST = 0 ∧ t.domOn 7 = true ∧
        (∀ k < 16, t.rd (R.KEYS_SLOT_STATE k) = KeyStore.loaded s bad k) ∧ MemKept s t ∧ ListsKept s t) ∧
    (∀ bad : BitVec 16, s.on L.LANE_RST = false → ∃ t, exec (.laneResetDone bad) s = .next t ∧ Only [] [] s t) ∧
    (∀ r : Radio, s.rd (L.RX_KEYST r) = 1 → s.on L.LANE_RST = false → s.on R.CIPHER_STAT_READY = true →
      let k := s.rd (L.RX_KCTX r) - 1
      (s.linkKeyOk k = false → ∃ t, exec (.keyDerived (.frame r) false) s = .next t ∧ t.rd (L.RX_KEYST r) = 3 ∧ t.rd R.KEYS_EVT_REFUSED = 1 ∧
        t.rd R.KEYS_REFUSE_CNT = min (s.rd R.KEYS_REFUSE_CNT + 1) (2 ^ R.KEYS_REFUSE_CNT.wid - 1) ∧
        Only [L.RX_KEYST r, R.KEYS_EVT_REFUSED, R.KEYS_REFUSE_CNT] [] s t) ∧
      (s.linkKeyOk k = true → ∃ t, exec (.keyDerived (.frame r) false) s = .next t ∧ t.rd (L.RX_KEYST r) = 2 ∧
        t.rd (L.RX_KEY r) = ofLe (s.linkKey k) % 2 ^ 128 ∧ t.rd R.CIPHER_LANE_CONSEC = 0 ∧
        (s.rd (L.RX_CTX r) = k + 1 → t.ctxRd k 0x75 1 = 3) ∧ (s.rd (L.RX_CTX r) ≠ k + 1 → MemKept s t) ∧
        (∀ a, a ≠ ctxAddr k 0x75 → t.rdB a = s.rdB a) ∧ (∀ a, t.rdP a = s.rdP a) ∧ t.porchFw = s.porchFw ∧
        RegsBut [L.RX_KEYST r, L.RX_KEY r, L.RX_SLOT r, R.CIPHER_LANE_CONSEC] s t ∧ FifosBut [] s t ∧ ListsKept s t) ∧
      (s.linkKeyOk k = true → ∃ t, exec (.keyDerived (.frame r) true) s = .next t ∧
        (s.rd R.CIPHER_LANE_CONSEC + 1 < s.rd R.CIPHER_LANE_CFG_PERSIST → s.rd R.CIPHER_LANE_CONSEC < 31 →
          t.rd R.CIPHER_EVT_LANE_MISMATCH = 1 ∧ t.rd (L.RX_KEYST r) = 4 ∧ t.rd R.CIPHER_LANE_CONSEC = s.rd R.CIPHER_LANE_CONSEC + 1))) ∧
    (∀ q : Fin 5, s.rd (L.JOB_ST q.val) = 1 → s.on R.CIPHER_STAT_READY = true →
      let d := s.dscAt (s.rd (R.CIPHER_Q_CUR q.val))
      (s.slotAllowed (dscSlot d) (chanUser q.val) = false → ∃ t, exec (.keyDerived (.job q) false) s = .next t ∧ t.rd (L.JOB_ST q.val) = 2 ∧
        t.rd (L.JOB_BAD q.val) = 5 ∧ t.rd R.KEYS_EVT_REFUSED = 1 ∧
        Only [L.JOB_ST q.val, L.JOB_BAD q.val, R.KEYS_EVT_REFUSED, R.KEYS_REFUSE_CNT] [] s t) ∧
      (s.slotAllowed (dscSlot d) (chanUser q.val) = true → ∃ t, exec (.keyDerived (.job q) false) s = .next t ∧ t.rd (L.JOB_ST q.val) = 2 ∧
        t.rd (L.JOB_KEY q.val) = ofLe (s.jobKey (dscSlot d) (dscLabel d) (dscDiv d) (dscDepth d) (dscK256 d)) % 2 ^ 256 ∧
        MemKept s t ∧ ListsKept s t)) ∧
    (∀ m : Master, TakenAll s m [R.KEYS_KEYSEQ, R.KEYS_PROG_CFG_GO, R.KEYS_REVOKE_GO] →
      (∃ t, exec (.keyseqWrite m 0x0D6E#16) s = .next t ∧ t.rd L.KEYSEQ = (if m = .app then 1 else 0) ∧ Only [L.KEYSEQ] [] s t) ∧
      (∃ t, exec (.keyseqWrite m 0x0B71#16) s = .next t ∧ t.rd L.KEYSEQ = (if m = .app ∧ s.rd L.KEYSEQ = 1 then 2 else 0) ∧ Only [L.KEYSEQ] [] s t) ∧
      (∀ v : BitVec 16, v ≠ 0x0D6E#16 → v ≠ 0x0B71#16 → ∃ t, exec (.keyseqWrite m v) s = .next t ∧ t.rd L.KEYSEQ = 0 ∧ Only [L.KEYSEQ] [] s t) ∧
      (s.on R.KEYS_PROG_STAT_BUSY = false → s.on R.KEYS_REVOKE_STAT_BUSY = false → m = .app →
        (∀ (k : Fin 16) (k256 : Bool) (pol : BitVec 5),
          let bad : Nat := if s.rd L.KEYSEQ ≠ 2 then 6 else if s.rd R.FLASHC_RDP_LEVEL ≠ 0 then 5 else if s.rd (R.KEYS_SLOT_STATE k.val) ≠ 0 then 4 else 0
          (bad ≠ 0 → ∃ t, exec (.keyProvision m k k256 pol) s = .next t ∧ t.rd R.KEYS_PROG_STAT_RESULT = bad ∧ t.rd R.KEYS_EVT_PROG_DONE = 1 ∧
            t.rd L.KEYSEQ = 0 ∧ Only [R.KEYS_PROG_STAT_RESULT, R.KEYS_EVT_PROG_DONE, L.KEYSEQ] [] s t) ∧
          (bad = 0 → ∃ t, exec (.keyProvision m k k256 pol) s = .next t ∧ t.rd R.KEYS_PROG_STAT_BUSY = 1 ∧ t.rd L.PROG_SLOT = k.val ∧
            t.rd L.PROG_KSIZE = b2n k256 ∧ t.rd L.PROG_POLICY = pol.toNat ∧ t.rd L.KEYSEQ = 0 ∧ MemKept s t ∧ ListsKept s t)) ∧
        (∀ k : Fin 16,
          (s.rd L.KEYSEQ ≠ 2 → ∃ t, exec (.keyRevoke m k) s = .next t ∧ t.rd R.KEYS_REVOKE_STAT_RESULT = 6 ∧
            Only [R.KEYS_REVOKE_STAT_RESULT, L.KEYSEQ] [] s t) ∧
          (s.rd L.KEYSEQ = 2 → s.rd (R.KEYS_SLOT_STATE k.val) ≠ 1 → ∃ t, exec (.keyRevoke m k) s = .next t ∧ t.rd R.KEYS_REVOKE_STAT_RESULT = 3 ∧
            Only [R.KEYS_REVOKE_STAT_RESULT, L.KEYSEQ] [] s t) ∧
          (s.rd L.KEYSEQ = 2 → s.rd (R.KEYS_SLOT_STATE k.val) = 1 → s.rd R.CIPHER_STAT_CH_RUN = 0 →
            ∃ t, exec (.keyRevoke m k) s = .next t ∧ t.rd (R.KEYS_SLOT_STATE k.val) = 2 ∧ bit (t.rd R.KEYS_REVOKE_PEND) k.val = true ∧
              t.rd R.KEYS_REVOKE_STAT_BUSY = 1 ∧ t.rd R.KEYS_REVOKE_STAT_RESULT = 2 ∧
              (∀ r : Radio, s.rd (L.RX_KEYST r) = 2 → s.rd (L.RX_SLOT r) = k.val → t.rd (L.RX_KEYST r) = 3) ∧ MemKept s t ∧ ListsKept s t)))) ∧
    (∀ same : Bool, s.on R.KEYS_PROG_STAT_BUSY = true → s.on R.SYSCTL_SUPPLY_STAT_WARN = false → s.rd L.PROG_SLOT < 16 →
      ∃ t, exec (.keyProgDone same) s = .next t ∧ t.rd R.KEYS_PROG_STAT_BUSY = 0 ∧ t.rd R.KEYS_PROG_STAT_RESULT = (if same then 1 else 7) ∧
        t.rd (R.KEYS_SLOT_STATE (s.rd L.PROG_SLOT)) = (if same then 1 else 3) ∧ t.rd (L.OTP_STATE (s.rd L.PROG_SLOT)) = (if same then 1 else 3) ∧
        t.rd (R.KEYS_SLOT_POLICY (s.rd L.PROG_SLOT)) = s.rd L.PROG_POLICY ∧ (∀ i < 8, t.rd (R.KEYS_PROG_DATA i) = 0) ∧
        t.rd R.KEYS_EVT_PROG_DONE = 1 ∧ MemKept s t ∧ ListsKept s t) ∧
    (s.on R.KEYS_REVOKE_STAT_BUSY = true → s.rd L.REV_SLOT < 16 →
      ∃ t, exec .revokeDone s = .next t ∧ t.rd (L.OTP_REV (s.rd L.REV_SLOT)) = 15 ∧
        t.rd (L.OTP_STATE (s.rd L.REV_SLOT)) = s.rd (L.OTP_STATE (s.rd L.REV_SLOT)) ∧ bit (t.rd R.KEYS_REVOKE_PEND) (s.rd L.REV_SLOT) = false ∧
        t.rd R.KEYS_EVT_REVOKE_DONE = 1 ∧ ((∀ j < 16, j ≠ s.rd L.REV_SLOT → bit (s.rd R.KEYS_REVOKE_PEND) j = false) →
          t.rd R.KEYS_REVOKE_STAT_BUSY = 0 ∧ t.rd R.KEYS_REVOKE_STAT_RESULT = 1) ∧ MemKept s t ∧ ListsKept s t)

/-- R232 to R239: the three rows of a cipher channel. -/
def Obligations.CipherJobs : Prop :=
  ∀ (s : State) (q : Fin 5), Calm s →
    (∀ m : Master, Taken s m (R.CIPHER_Q_CMD_GO q.val) →
      (chanMaster m q.val = false ∨ s.chRun q.val = true → ∃ t, exec (.jobGo m q) s = .next t ∧ Only [] [] s t) ∧
      (chanMaster m q.val = true → s.chRun q.val = false → s.rd (R.CIPHER_Q_DESC q.val) < 2 ^ 32 →
        let a := s.rd (R.CIPHER_Q_DESC q.val)
        let d := s.dscAt a
        ∃ t, exec (.jobGo m q) s = .next t ∧ t.chRun q.val = true ∧ t.rd (R.CIPHER_Q_CUR q.val) = a ∧
          t.rd (R.CIPHER_Q_STAT_STATE q.val) = 1 ∧ t.rd (R.CIPHER_Q_PROG q.val) = 0 ∧ t.rd (L.JOB_ABORT q.val) = 0 ∧
          (a % 16 ≠ 0 → t.rd (L.JOB_BAD q.val) = 3 ∧ t.rd (L.JOB_ST q.val) = 2) ∧
          (a % 16 = 0 → s.jobSegs q.val false a 96 = none → t.rd (L.JOB_BAD q.val) = 4) ∧
          (∀ l, a % 16 = 0 → s.jobSegs q.val false a 96 = some l → s.portOff l ≠ none → t.rd (L.JOB_BAD q.val) = 11) ∧
          (∀ l, a % 16 = 0 → s.jobSegs q.val false a 96 = some l → s.portOff l = none → dscLens d = false → t.rd (L.JOB_BAD q.val) = 3) ∧
          (s.jobCheck q.val a = 0 → t.rd (L.JOB_BAD q.val) = 0 ∧ t.rd (L.JOB_ST q.val) = (if dscKsrc d = 1 then 1 else 2)) ∧
          (s.dscSingle d = false → MemKept s t) ∧ ∀ x, regionOf x ≠ .pbm → t.rdB x = s.rdB x) ∧
      (chanMaster m q.val = true → s.chRun q.val = true → ∃ t, exec (.jobAbort m q) s = .next t ∧ t.rd (L.JOB_ABORT q.val) = 1 ∧
        t.rd (R.CIPHER_Q_STAT_STATE q.val) = 3 ∧ Only [L.JOB_ABORT q.val, R.CIPHER_Q_STAT_STATE q.val] [] s t) ∧
      (chanMaster m q.val = false ∨ s.chRun q.val = false → ∃ t, exec (.jobAbort m q) s = .next t ∧ Only [] [] s t)) ∧
    (s.chRun q.val = false ∨ (s.rd (L.JOB_ST q.val) ≠ 2 ∧ s.rd (L.JOB_ABORT q.val) = 0) →
      ∃ t, exec (.jobEnd q 0 false false 0) s = .next t ∧ Only [] [] s t) ∧
    (s.chRun q.val = true → s.portWaits q (s.jobAll q.val) = true → ∃ t, exec (.jobEnd q 0 false false 0) s = .next t ∧ Only [] [] s t) ∧
    (s.chRun q.val = true → s.portWaits q (s.jobAll q.val) = false → s.rd (L.JOB_ST q.val) = 2 → s.rd (L.JOB_QBUF q.val) = 0 → q.val = 0 ∨ q.val = 2 ∨ q.val = 4 →
      s.on R.CIPHER_LOCK_RELEASING = false →
      let a := s.rd (R.CIPHER_Q_CUR q.val)
      let d := s.dscAt a
      a % 16 = 0 → s.jobSegs q.val false a 96 = some [(a, 96)] → regionOf a ≠ .flash → s.portOff [(a, 96)] = none →
      (∀ bad, s.rd (L.JOB_BAD q.val) = bad → 2 ≤ bad → bad ≤ 11 →
        ∃ t, exec (.jobEnd q 0 false false 0) s = .next t ∧ t.chRun q.val = false ∧ t.rd (R.CIPHER_Q_STAT_LAST q.val) = bad ∧
          t.rdLe (a + 0x50) 4 = bad + 2 ^ 31 ∧ t.rdLe (a + 0x54) 4 = 0 ∧ bit (t.rd R.CIPHER_EVT_JOB_ERR) q.val = true ∧
          ∀ x, ¬ (a + 0x50 ≤ x ∧ x < a + 0x58) → t.rdB x = s.rdB x) ∧
      (s.rd (L.JOB_BAD q.val) = 0 → dscMode d = 0 → s.on (L.JOB_ABORT q.val) = true ∨ s.jobGate q.val = 4 →
        let st := if s.on (L.JOB_ABORT q.val) then 10 else 4
        ∃ t, exec (.jobEnd q 0 false false 0) s = .next t ∧ t.chRun q.val = false ∧ t.rd (R.CIPHER_Q_STAT_LAST q.val) = st ∧
          t.rdLe (a + 0x50) 4 = st + 2 ^ 31 ∧ t.rdLe (a + 0x54) 4 = (if dscDataLen d = 0 then 0 else min (s.rd (R.CIPHER_Q_PROG q.val)) (dscDataLen d)) ∧
          bit (t.rd R.CIPHER_EVT_JOB_ERR) q.val = true ∧ ∀ x, ¬ (a + 0x50 ≤ x ∧ x < a + 0x58) → t.rdB x = s.rdB x) ∧
      (s.rd (L.JOB_BAD q.val) = 0 → s.rd (L.JOB_ABORT q.val) = 0 → s.jobGate q.val = 0 → s.rd (R.CIPHER_Q_PROG q.val) = 0 →
        s.ff (L.JOB_IN q.val) = [] → dscMode d = 0 → dscLens d = true → dscLast d = true →
        ∀ src dst, s.jobSegs q.val false (dscWord d 0x10) (dscDataLen d) = some [(src, dscDataLen d)] →
          s.jobSegs q.val true (dscWord d 0x14) (dscDataLen d) = some [(dst, dscDataLen d)] → (dst + dscDataLen d ≤ a ∨ a + 96 ≤ dst) →
        ∃ t, exec (.jobEnd q 0 false false 0) s = .next t ∧ t.chRun q.val = false ∧ t.rd (R.CIPHER_Q_STAT_LAST q.val) = 1 ∧
          t.rdBs dst (dscDataLen d) = ((ecbEnc (s.jobKeyBytes q.val d) (s.rdBs src (dscDataLen d))).take (dscDataLen d)) ∧
          t.rdLe (a + 0x50) 4 = 1 + 2 ^ 31 ∧ t.rdLe (a + 0x54) 4 = dscDataLen d ∧ bit (t.rd R.CIPHER_EVT_JOB_DONE) q.val = true ∧
          ∀ x, ¬ (a + 0x50 ≤ x ∧ x < a + 0x58) → ¬ (dst ≤ x ∧ x < dst + dscDataLen d) → t.rdB x = s.rdB x))

/-- The registers that a lock returned to FREE writes (R237, R238). -/
def CipherLock.freed : List Fld :=
  [R.CIPHER_LOCK_OWNER, R.PBM_TOKENS_CIPHER, R.CIPHER_LOCK_RELEASING] ++ (List.range 8).map R.CIPHER_SWKEY

/-- The lock is free, and SWKEY reads 0. -/
def CipherLock.IsFree (t : State) : Prop :=
  t.rd R.CIPHER_LOCK_OWNER = 0 ∧ t.rd R.PBM_TOKENS_CIPHER = 0 ∧ t.rd R.CIPHER_LOCK_RELEASING = 0 ∧ ∀ k < 8, t.rd (R.CIPHER_SWKEY k) = 0

/-- R223, R237, R238, R243: the lock's, SWKEY's and the IV table's seven rows. -/
def Obligations.CipherLockAndKeys : Prop :=
  ∀ (s : State) (m : Master), Taken s m R.CIPHER_LOCK_CMD_OP →
    (∀ id : BitVec 3,
      let mine : Prop := id ≠ 0#3 ∧ lockMaster m (id.toNat - 1) = true
      let holder := s.rd R.CIPHER_LOCK_OWNER
      (mine → holder = 0 → ∃ t, exec (.lockAcquire m id) s = .next t ∧ t.rd R.CIPHER_LOCK_OWNER = id.toNat ∧
        t.rd R.PBM_TOKENS_CIPHER = id.toNat ∧ Only [R.CIPHER_LOCK_OWNER, R.PBM_TOKENS_CIPHER, R.CIPHER_LOCK_RELEASING] [] s t) ∧
      (¬ mine ∨ holder ≠ 0 → ∃ t, exec (.lockAcquire m id) s = .next t ∧ Only [] [] s t) ∧
      (mine → holder = id.toNat → s.jobUsesSw (id.toNat - 1) = false →
        ∃ t, exec (.lockRelease m id) s = .next t ∧ CipherLock.IsFree t ∧ Only CipherLock.freed [] s t) ∧
      (mine → holder = id.toNat → s.jobUsesSw (id.toNat - 1) = true →
        ∃ t, exec (.lockRelease m id) s = .next t ∧ t.rd R.CIPHER_LOCK_RELEASING = 1 ∧ t.rd R.CIPHER_LOCK_OWNER = holder ∧
          Only [R.CIPHER_LOCK_RELEASING] [] s t) ∧
      (¬ mine ∨ holder ≠ id.toNat → ∃ t, exec (.lockRelease m id) s = .next t ∧ Only [] [] s t) ∧
      (mine → m = .app → ∃ t, exec (.lockForce m id) s = .next t ∧ CipherLock.IsFree t ∧ t.rd R.CIPHER_EVT_LOCK_FORCED = 1 ∧
        (holder = 0 ∨ s.jobUsesSw (holder - 1) = false → Only (R.CIPHER_EVT_LOCK_FORCED :: CipherLock.freed) [] s t)) ∧
      (¬ mine ∨ m ≠ .app → ∃ t, exec (.lockForce m id) s = .next t ∧ Only [] [] s t)) ∧
    (s.on R.CIPHER_LOCK_RELEASING = true → s.jobUsesSw (s.rd R.CIPHER_LOCK_OWNER - 1) = false →
      ∃ t, exec .lockReleaseDone s = .next t ∧ CipherLock.IsFree t ∧ Only CipherLock.freed [] s t) ∧
    (s.on R.CIPHER_LOCK_RELEASING = false ∨ s.jobUsesSw (s.rd R.CIPHER_LOCK_OWNER - 1) = true →
      ∃ t, exec .lockReleaseDone s = .next t ∧ Only [] [] s t) ∧
    (∀ (k : Fin 9) (v : Word), Taken s m R.CIPHER_SWKEY_CFG_KSIZE →
      let o := s.rd R.CIPHER_LOCK_OWNER
      let may : Prop := o ≠ 0 ∧ lockMaster m (o - 1) = true ∧ s.jobUsesSw (o - 1) = false
      (may → k.val < 8 → ∃ t, exec (.swkeyWrite m k v) s = .next t ∧ t.rd (R.CIPHER_SWKEY k.val) = v.toNat ∧ Only [R.CIPHER_SWKEY k.val] [] s t) ∧
      (may → k.val = 8 → ∃ t, exec (.swkeyWrite m k v) s = .next t ∧ t.rd R.CIPHER_SWKEY_CFG_KSIZE = v.toNat % 2 ∧
        Only [R.CIPHER_SWKEY_CFG_KSIZE] [] s t) ∧
      (¬ may → ∃ t, exec (.swkeyWrite m k v) s = .next t ∧ t.rd R.CIPHER_EVT_SWKEY_IGNORED = 1 ∧ Only [R.CIPHER_EVT_SWKEY_IGNORED] [] s t)) ∧
    (∀ k : BitVec 8, Taken s m R.KEYS_IV_CMD_OP →
      (m = .link →
        (∃ t, exec (.ivRead m k) s = .next t ∧ t.rd R.KEYS_IV_LO = s.rd (L.IV k.toNat) % 2 ^ 32 ∧
          t.rd R.KEYS_IV_HI = s.rd (L.IV k.toNat) / 2 ^ 32 % 2 ^ 32 ∧ t.rd L.KEYSEQ = 0 ∧ Only [R.KEYS_IV_LO, R.KEYS_IV_HI, L.KEYSEQ] [] s t) ∧
        (s.rd R.KEYS_IV_LO < 2 ^ 32 → s.rd R.KEYS_IV_HI < 2 ^ 32 →
          ∃ t, exec (.ivWrite m k) s = .next t ∧ t.rd (L.IV k.toNat) = s.rd R.KEYS_IV_LO + s.rd R.KEYS_IV_HI * 2 ^ 32 ∧ t.rd L.KEYSEQ = 0 ∧
            Only [L.IV k.toNat, L.KEYSEQ] [] s t)) ∧
      (m ≠ .link → ∀ c ∈ [Instr.ivRead m k, .ivWrite m k], ∃ t, exec c s = .next t ∧ t.rd L.KEYSEQ = 0 ∧ Only [L.KEYSEQ] [] s t))

/-- R248: one step of the LFSR x^16 + x^14 + x^13 + x^11 + 1. -/
def Lottery.step (v : Nat) : Nat := if v % 2 = 1 then v / 2 ^^^ 0xB400 else v / 2

/-- R248: the sum of the tickets of the ready requesters below a number. -/
def Lottery.sum (s : State) (ready : BitVec 5) (n : Nat) : Nat :=
  (List.range n).foldl (fun t q => t + if ready.getLsbD q then s.rd (R.ARB_TKT_TICKETS q) else 0) 0

/-- R248: requester w wins the lottery for an LFSR value. -/
def Lottery.Wins (s : State) (ready : BitVec 5) (lfsr w : Nat) : Prop :=
  w < 5 ∧ ready.getLsbD w = true ∧
    if Lottery.sum s ready 5 = 0 then ∀ q < w, ready.getLsbD q = false
    else Lottery.sum s ready w ≤ lfsr * Lottery.sum s ready 5 / 65536 ∧ lfsr * Lottery.sum s ready 5 / 65536 < Lottery.sum s ready (w + 1)

/-- R252: after a unit of w: it goes on with the units its burst has left where it has a further unit, else no burst stands. -/
def Lottery.Holds (t : State) (p w left : Nat) (more : Bool) : Prop :=
  if more = true ∧ left ≠ 0 then t.rd (arbHolder p) = w ∧ t.rd (arbRemain p) = left else t.rd (arbHolder p) = 7 ∧ t.rd (arbRemain p) = 0

/-- R247 to R255: the five rows of the arbiter. -/
def Obligations.LotteryAndHints : Prop :=
  ∀ (s : State) (port : Bool), s.rd (arbLfsr (b2n port)) < 65536 →
    let p := b2n port
    (∀ ready more : BitVec 5, s.domOn 7 = false → ∃ t, exec (.draw port ready more) s = .next t ∧ Only [] [] s t) ∧
    (∀ more : BitVec 5, s.domOn 7 = true → s.rd (arbHolder p) = 7 →
      ∃ t, exec (.draw port 0#5 more) s = .next t ∧ t.rd (arbHolder p) = 7 ∧ t.rd (arbLfsr p) = s.rd (arbLfsr p) ∧ MemKept s t ∧ ListsKept s t) ∧
    (∀ (ready more : BitVec 5) (w : Nat), s.domOn 7 = true → s.rd (arbHolder p) = 7 → s.rd (L.HINT p) = 0 → s.ff (L.DUE p) = [] →
      Lottery.Wins s ready (Lottery.step (s.rd (arbLfsr p))) w → 1 ≤ s.rd (R.ARB_TKT_BURST w) → s.rd (R.ARB_TKT_BURST w) ≤ 64 →
      ∃ t, exec (.draw port ready more) s = .next t ∧ t.rd (arbLfsr p) = Lottery.step (s.rd (arbLfsr p)) ∧
        Lottery.Holds t p w (s.rd (R.ARB_TKT_BURST w) - 1) (more.getLsbD w) ∧ t.rd (arbWins p w) = min (s.rd (arbWins p w) + 1) 65535 ∧ t.resp = .data w ∧
        (s.rd (R.ARB_TKT_TICKETS w) = 0 → ∀ q < 5, ready.getLsbD q = true → s.rd (R.ARB_TKT_TICKETS q) = 0) ∧
        (port = true ∨ s.rd (L.JOB_ST w) ≠ 2 → MemKept s t) ∧ ListsKept s t) ∧
    (∀ (ready more : BitVec 5) (w : Nat), s.domOn 7 = true → s.rd (arbHolder p) = 7 → s.rd (L.HINT p) = 0 → s.ff (L.DUE p) = [w] → w < 5 →
      ready.getLsbD w = true → 1 ≤ s.rd (R.ARB_TKT_BURST w) → s.rd (R.ARB_TKT_BURST w) ≤ 64 →
      ∃ t, exec (.draw port ready more) s = .next t ∧ t.rd (arbLfsr p) = Lottery.step (s.rd (arbLfsr p)) ∧
        Lottery.Holds t p w (s.rd (R.ARB_TKT_BURST w) - 1) (more.getLsbD w) ∧ t.rd (arbAged p) = min (s.rd (arbAged p) + 1) 65535 ∧ t.resp = .data w ∧ t.rd (L.AGE p w) = 0) ∧
    (∀ (ready more : BitVec 5) (h : Nat), s.domOn 7 = true → s.rd (arbHolder p) = h → h < 5 → ready.getLsbD h = true →
      s.rd (arbRemain p) ≠ 0 → s.rd (arbRemain p) < 128 → s.rd (L.BREAK p) = 0 → s.rd (L.HINT p) = 0 →
      ∃ t, exec (.draw port ready more) s = .next t ∧
        Lottery.Holds t p h (s.rd (arbRemain p) - 1) (more.getLsbD h) ∧ t.rd (arbLfsr p) = s.rd (arbLfsr p) ∧ t.resp = .data h ∧
        (port = true ∨ s.rd (L.JOB_ST h) ≠ 2 → MemKept s t) ∧ ListsKept s t ∧
        (let d := s.dscAt (s.rd (R.CIPHER_Q_CUR h))
         port = false → s.chRun h = true → s.rd (L.JOB_ST h) = 2 → s.rd (L.JOB_BAD h) = 0 → s.rd (L.JOB_QBUF h) = 0 → s.jobGate h = 0 →
          s.portWaits (Fin.ofNat 5 h) (s.jobAll h) = false → dscLens d = true → s.rd (R.CIPHER_Q_PROG h) < dscDataLen d →
          t.rd (R.CIPHER_Q_PROG h) = min (dscDataLen d) (s.rd (R.CIPHER_Q_PROG h) + 16))) ∧
    (∀ (ready more : BitVec 5) (q : Nat), s.domOn 7 = true → q < 5 → ready.getLsbD q = true →
      ∃ t, exec (.draw port ready more) s = .next t ∧ bit (t.rd (L.HINT p)) q = false) ∧
    (∀ (m : Master) (q : Fin 5) (tickets : BitVec 8) (burst : BitVec 7), Taken s m (R.ARB_TKT_TICKETS q.val) →
      (s.on R.ARB_CTRL_LOCK = true → ∃ t, exec (.tktWrite m q tickets burst) s = .next t ∧ Only [] [] s t) ∧
      (s.on R.ARB_CTRL_LOCK = false → ∃ t, exec (.tktWrite m q tickets burst) s = .next t ∧ t.rd (R.ARB_TKT_TICKETS q.val) = tickets.toNat ∧
        t.rd (R.ARB_TKT_BURST q.val) = (if 1 ≤ burst.toNat ∧ burst.toNat ≤ 64 then burst.toNat else s.rd (R.ARB_TKT_BURST q.val)) ∧
        (s.rd (arbHolder p) = q.val → t.rd (L.BREAK p) = 1) ∧
        Only [R.ARB_TKT_TICKETS q.val, R.ARB_TKT_BURST q.val, L.BREAK 0, L.BREAK 1] [] s t)) ∧
    (∀ (m : Master) (q : BitVec 3), Taken s m R.ARB_HINT_CMD_GO ∨ (m = .link ∧ s.online 15 = true ∧ Open s .link (blockAddr 15 0x3C) (blkIsl 15)) →
      let ours : Prop := (m = .app ∧ (q = 0#3 ∨ q = 2#3)) ∨ (m = .link ∧ q = 4#3)
      let goes : Prop := s.rd (arbHolder p) ≠ q.toNat ∧ s.rd (R.ARB_TKT_TICKETS q.toNat) ≠ 0 ∧ bit (s.rd (L.BARRED p)) q.toNat = false
      (ours → goes → ∃ t, exec (.hintCmd m q port) s = .next t ∧ (bit (s.rd (L.READY p)) q.toNat = false → bit (t.rd (L.HINT p)) q.toNat = true) ∧
        (bit (s.rd (L.READY p)) q.toNat = true → t.rd (L.HINT p) = s.rd (L.HINT p)) ∧ t.rd R.ARB_HINT_CNT_POSTED = min (s.rd R.ARB_HINT_CNT_POSTED + 1) 65535 ∧ Only [L.HINT p, R.ARB_HINT_CNT_POSTED] [] s t) ∧
      (¬ ours ∨ ¬ goes → ∃ t, exec (.hintCmd m q port) s = .next t ∧ Only [] [] s t)) ∧
    (∀ q : Fin 5,
      (bit (s.rd (L.HINT p)) q.val = true → ∃ t, exec (.hintExpire q port) s = .next t ∧ bit (t.rd (L.HINT p)) q.val = false ∧
        bit (t.rd (L.BARRED p)) q.val = true ∧ t.rd R.ARB_HINT_CNT_EXPIRED = min (s.rd R.ARB_HINT_CNT_EXPIRED + 1) 65535 ∧
        t.rd R.ARB_EVT_HINT_EXP = 1 ∧ Only [L.HINT p, L.BARRED p, R.ARB_HINT_CNT_EXPIRED, R.ARB_EVT_HINT_EXP] [] s t) ∧
      (bit (s.rd (L.HINT p)) q.val = false → ∃ t, exec (.hintExpire q port) s = .next t ∧ Only [] [] s t) ∧
      (∃ t, exec (.hintBlockEnd q port) s = .next t ∧ bit (t.rd (L.BARRED p)) q.val = false ∧ Only [L.BARRED p] [] s t))

/-- R261: what a refused command of a set leaves (0 the A_ set, 1 the L_ set). -/
def BufferCommands.Refused (s t : State) (l n : Nat) : Prop :=
  (if l = 0 then t.rd R.PBM_A_RES_RESULT else t.rd L.L_RESULT) = n ∧ t.pbmBusy l = false ∧ t.rd R.PBM_EVT_REFUSED = 1 ∧
    (∀ b < 2048, t.desc b = s.desc b) ∧ MemKept s t ∧ ListsKept s t

/-- R256 to R267: the eight rows of the packet buffers. -/
def Obligations.BufferCommands : Prop :=
  ∀ s : State, Calm s →
    (∀ (m : Master), Taken s m (pbmCmd m) →
      let l := pbmSet m
      (s.pbmBusy l = true → ∀ (tgt : BitVec 4) (n : BitVec 5) (head : BitVec 11),
        ∀ c ∈ [Instr.bufAlloc m ⟨tgt, tgt⟩ n, .bufXfer m tgt tgt head], ∃ t, exec c s = .next t ∧ Only [] [] s t) ∧
      (s.pbmBusy l = false → s.on R.PBM_STAT_RECLAIMING = true → ∀ (src tgt : BitVec 4) (n : BitVec 5) (head : BitVec 11),
        bit (s.rd L.RECL) tgt.toNat = true ∨ bit (s.rd L.RECL) src.toNat = true →
        ∀ c ∈ [Instr.bufAlloc m ⟨src, tgt⟩ n, .bufXfer m src tgt head], ∃ t, exec c s = .next t ∧ BufferCommands.Refused s t l 6) ∧
      (s.pbmBusy l = false → s.rd R.PBM_STAT_RECLAIMING = 0 → ∀ (src tgt : BitVec 4) (n : BitVec 5),
        let o := tgt.toNat
        let k := n.toNat
        (8 < src.toNat ∨ 8 < o ∨ k = 0 ∨ 16 < k ∨ mayAlloc l o = false → ∃ t, exec (.bufAlloc m ⟨src, tgt⟩ n) s = .next t ∧ BufferCommands.Refused s t l 5) ∧
        (src.toNat ≤ 8 → o ≤ 8 → 1 ≤ k → k ≤ 16 → mayAlloc l o = true →
          (s.rd (R.PBM_SHARE o) < s.rd (R.PBM_LEDGER o) + k → ∃ t, exec (.bufAlloc m ⟨src, tgt⟩ n) s = .next t ∧ BufferCommands.Refused s t l 2) ∧
          (s.rd (R.PBM_LEDGER o) + k ≤ s.rd (R.PBM_SHARE o) →
            ((s.freeBufs k false).length < k → ∃ t, exec (.bufAlloc m ⟨src, tgt⟩ n) s = .next t ∧ BufferCommands.Refused s t l 7) ∧
            ((s.freeBufs k true).length = k →
              ∃ t, exec (.bufAlloc m ⟨src, tgt⟩ n) s = .next t ∧ (if l = 0 then t.rd R.PBM_A_RES_RESULT else t.rd L.L_RESULT) = 1 ∧
                (if l = 0 then t.rd R.PBM_A_RES_HEAD else t.rd L.L_HEAD) = (s.freeBufs k true).headD 0 ∧ t.pbmBusy l = false ∧
                (∀ b ∈ s.freeBufs k true, t.owner b = o ∧ dLen (t.desc b) = 0) ∧
                (∀ b < 2048, b ∉ s.freeBufs k true → t.desc b = s.desc b) ∧
                (s.rd (R.PBM_LEDGER o) < 2048 → t.rd (R.PBM_LEDGER o) = s.rd (R.PBM_LEDGER o) + k) ∧ MemKept s t ∧ ListsKept s t) ∧
            (k ≤ (s.freeBufs k false).length → (s.freeBufs k true).length ≠ k →
              ∃ t, exec (.bufAlloc m ⟨src, tgt⟩ n) s = .next t ∧ t.pbmBusy l = true ∧ t.rd (L.ALLOC_WAIT l) = 1 ∧
                (∀ b ∈ s.freeBufs k false, dZeroing (s.desc b) = true → ∃ x ∈ t.zq, x % 2048 = b) ∧ MemKept s t)))) ∧
      (s.pbmBusy l = false → s.rd R.PBM_STAT_RECLAIMING = 0 → ∀ (src dst : BitVec 4) (head : BitVec 11),
        (8 < src.toNat ∨ 8 < dst.toNat ∨ mayXfer l src.toNat dst.toNat = false →
          ∃ t, exec (.bufXfer m src dst head) s = .next t ∧ BufferCommands.Refused s t l 5) ∧
        (src.toNat ≤ 8 → dst.toNat ≤ 8 → mayXfer l src.toNat dst.toNat = true →
          ∃ t, exec (.bufXfer m src dst head) s = .next t ∧ t.xferRuns l = true ∧ bits (t.rd (L.CMD_WORD l)) 7 4 = src.toNat ∧
            bits (t.rd (L.CMD_WORD l)) 11 8 = dst.toNat ∧ bits (t.rd (L.CMD_WORD l)) 31 21 = head.toNat ∧
            (∀ b < 2048, t.desc b = s.desc b) ∧ MemKept s t ∧ ListsKept s t))) ∧
    (∀ m : Master, Taken s m (if m = .link then R.PBM_L_DESC else R.PBM_A_DESC) → ∀ d : Word,
      let b := s.rd (if m = .link then R.PBM_L_DESC_SEL_INDEX else R.PBM_A_DESC_SEL_INDEX)
      (mayAlloc (pbmSet m) (s.owner b) = true → dLen d.toNat ≤ 128 →
        ∃ t, exec (.descWrite m d) s = .next t ∧ dNext (t.desc b) = dNext d.toNat ∧ dLast (t.desc b) = dLast d.toNat ∧
          dLen (t.desc b) = dLen d.toNat ∧ t.owner b = s.owner b ∧ dZeroing (t.desc b) = dZeroing (s.desc b) ∧ Only [L.DESC b] [] s t) ∧
      (mayAlloc (pbmSet m) (s.owner b) = false ∨ 128 < dLen d.toNat →
        ∃ t, exec (.descWrite m d) s = .next t ∧ t.rd R.PBM_EVT_REFUSED = 1 ∧ Only [R.PBM_EVT_REFUSED] [] s t)) ∧
    (∀ link : Bool,
      let l := b2n link
      let w := s.rd (L.CMD_WORD l)
      (s.on (L.ALLOC_WAIT l) = false → ∃ t, exec (.bufAllocDone link) s = .next t ∧ Only [] [] s t) ∧
      (s.on (L.ALLOC_WAIT l) = true → (s.freeBufs (bits w 16 12) true).length = bits w 16 12 →
        ∃ t, exec (.bufAllocDone link) s = .next t ∧ t.pbmBusy l = false ∧ t.rd (L.ALLOC_WAIT l) = 0 ∧
          (∀ b ∈ s.freeBufs (bits w 16 12) true, t.owner b = bits w 11 8) ∧ MemKept s t ∧ ListsKept s t) ∧
      (s.xferRuns l = false → ∃ t, exec (.xferDone link false) s = .next t ∧ Only [] [] s t) ∧
      (s.xferRuns l = true → s.xferWaits l = true → ∃ t, exec (.xferDone link false) s = .next t ∧ Only [] [] s t) ∧
      (s.xferRuns l = true → s.xferWaits l = false →
        let r := s.checkWalk (bits w 7 4) 2048 (bits w 31 21)
        (r.1 ≠ 1 → ∃ t, exec (.xferDone link false) s = .next t ∧ BufferCommands.Refused s t l r.1) ∧
        (r.1 = 1 → bits w 11 8 ≠ 0 → (bits w 11 8 = bits w 7 4 ∨ s.overShare (bits w 11 8) r.2.length = false) →
          ∃ t, exec (.xferDone link false) s = .next t ∧ t.pbmBusy l = false ∧
            (if l = 0 then t.rd R.PBM_A_RES_RESULT else t.rd L.L_RESULT) = 1 ∧ (∀ b ∈ r.2, t.owner b = bits w 11 8) ∧
            (∀ b < 2048, b ∉ r.2 → t.desc b = s.desc b) ∧ MemKept s t ∧ ListsKept s t) ∧
        (r.1 = 1 → bits w 11 8 = 0 → bits w 7 4 ≠ 0 →
          ∃ t, exec (.xferDone link false) s = .next t ∧ t.pbmBusy l = false ∧
            (if l = 0 then t.rd R.PBM_A_RES_RESULT else t.rd L.L_RESULT) = 1 ∧ (∀ b ∈ r.2, t.owner b = 0 ∧ dZeroing (t.desc b) = true) ∧
            (∀ b < 2048, b ∉ r.2 → t.desc b = s.desc b) ∧ MemKept s t))) ∧
    (∀ b : Fin 2048,
      (dZeroing (s.desc b.val) = true → s.zq = [] ∨ s.zq.headD 0 % 2048 = b.val → 1 ≤ s.rd R.PBM_STAT_ZEROING →
        ∃ t, exec (.bufferZeroed b) s = .next t ∧ dZeroing (t.desc b.val) = false ∧ t.owner b.val = s.owner b.val ∧
          (∀ i < 128, t.rdB (bufAddr b.val + i) = 0#8) ∧ (∀ a, ¬ (bufAddr b.val ≤ a ∧ a < bufAddr b.val + 128) → t.rdB a = s.rdB a) ∧
          (∀ x ∈ t.zq, x % 2048 ≠ b.val) ∧ RegsBut [L.DESC b.val, R.PBM_STAT_ZEROING] s t) ∧
      (dZeroing (s.desc b.val) = false → ∃ t, exec (.bufferZeroed b) s = .next t ∧ Only [] [] s t)) ∧
    ((s.on R.PBM_CTRL_AUDIT_EN = false ∨ s.domOn 6 = false → ∃ t, exec (.auditPassEnd false) s = .next t ∧ Only [] [] s t) ∧
     (s.on R.PBM_CTRL_AUDIT_EN = true → s.domOn 6 = true →
      ((∀ o < 9, countBelow (fun b => s.owner b == o) 2048 = s.rd (R.PBM_LEDGER o)) →
        ∃ t, exec (.auditPassEnd false) s = .next t ∧ t.rd R.PBM_AUDIT_CNT = (s.rd R.PBM_AUDIT_CNT + 1) % 2 ^ R.PBM_AUDIT_CNT.wid ∧
          Only [R.PBM_AUDIT_CNT] [] s t) ∧
      ((∃ o < 9, countBelow (fun b => s.owner b == o) 2048 ≠ s.rd (R.PBM_LEDGER o)) →
        ∃ t, exec (.auditPassEnd false) s = .next t ∧ t.rd R.PBM_EVT_LEDGER_ERR = 1 ∧ bit (t.rd R.FAULT_HIT_1) 16 = true ∧ MemKept s t ∧ ListsKept s t))) ∧
    (∀ o, 5 ≤ o → o < 9 → s.rd L.RECL = 2 ^ o → s.rd L.RECL_CAUSE = 0 →
      ∃ t, exec .reclaimDone s = .next t ∧ (∀ b < 2048, t.owner b ≠ o) ∧ t.rd L.RECL = 0 ∧ t.rd R.PBM_STAT_RECLAIMING = 0 ∧
        t.rd R.PBM_RECLAIM_LOG_OWNER = o ∧ t.rd R.PBM_EVT_RECLAIM = 1 ∧ MemKept s t) ∧
    (∀ c, c = 4 ∨ c = 5 → s.rd L.RECL = 0x1E → s.rd L.RECL_CAUSE = c →
      ∃ t, exec .reclaimDone s = .next t ∧ (∀ b < 2048, 1 ≤ s.owner b → s.owner b ≤ 4 → b ∉ s.radioHeld → t.owner b = 0) ∧
        t.rd L.RECL = 0 ∧ t.rd R.PBM_STAT_RECLAIMING = 0 ∧ t.rd R.PBM_RECLAIM_LOG_OWNER = 15 ∧ t.rd R.PBM_RECLAIM_LOG_CAUSE = c ∧
        t.rd R.PBM_EVT_RECLAIM = 1 ∧ MemKept s t)

/-- R272: a register of a unit after one data bit, least significant bit first, with the reflected polynomial. -/
def CheckUnits.bitStep (poly reg : Nat) (b : Bool) : Nat :=
  let x := reg ^^^ b2n b
  if x % 2 = 1 then x / 2 ^^^ poly else x / 2

/-- R275: the register after the `w` low bits of a word, the least significant bit first. -/
def CheckUnits.feedBits (poly reg v w : Nat) : Nat :=
  (List.range w).foldl (fun a i => CheckUnits.bitStep poly a (bit v i)) reg

/-- R272 to R275, R278: the seven commands of the check-value units. -/
def Obligations.CheckUnitCommands : Prop :=
  ∀ (s : State) (m : Master) (n : Fin 4) (v : Word), 
    TakenAll s m [R.CHK_RUN n.val, R.CHK_COUNT n.val, R.CHK_CMD_START n.val, R.CHK_CFG_USE n.val, R.CHK_DIN_W n.val, R.CHK_DIN_H n.val, R.CHK_DIN_B n.val] →
    s.rd (R.CHK_RUN n.val) < 2 ^ 32 →
    (∃ t, exec (.dinW m n v) s = .next t ∧
      t.rd (R.CHK_RUN n.val) = CheckUnits.feedBits (chkPoly n.val) (s.rd (R.CHK_RUN n.val)) v.toNat 32 ∧
      t.rd (R.CHK_COUNT n.val) = (s.rd (R.CHK_COUNT n.val) + 4) % 2 ^ 32 ∧ t.resp = .ok ∧
      Only [R.CHK_RUN n.val, R.CHK_COUNT n.val] [] s t) ∧
    (∃ t, exec (.dinH m n v) s = .next t ∧
      t.rd (R.CHK_RUN n.val) = CheckUnits.feedBits (chkPoly n.val) (s.rd (R.CHK_RUN n.val)) v.toNat 16 ∧
      t.rd (R.CHK_COUNT n.val) = (s.rd (R.CHK_COUNT n.val) + 2) % 2 ^ 32 ∧ t.resp = .ok ∧
      Only [R.CHK_RUN n.val, R.CHK_COUNT n.val] [] s t) ∧
    (∃ t, exec (.dinB m n v) s = .next t ∧
      t.rd (R.CHK_RUN n.val) = CheckUnits.feedBits (chkPoly n.val) (s.rd (R.CHK_RUN n.val)) v.toNat 8 ∧
      t.rd (R.CHK_COUNT n.val) = (s.rd (R.CHK_COUNT n.val) + 1) % 2 ^ 32 ∧ t.resp = .ok ∧
      Only [R.CHK_RUN n.val, R.CHK_COUNT n.val] [] s t) ∧
    (∃ t, exec (.chkStart m n) s = .next t ∧
      t.rd (R.CHK_RUN n.val) =
        (let i := chkInit (s.rd (R.CHK_CFG_USE n.val)) (s.rd (R.CHK_INIT n.val))
         if s.on (R.CHK_CFG_FOLD_EN n.val) then CheckUnits.feedBits (chkPoly n.val) i (s.rd (R.CHK_FOLD n.val)) 32 else i) ∧
      t.rd (R.CHK_COUNT n.val) = 0 ∧ t.resp = .ok ∧ Only [R.CHK_RUN n.val, R.CHK_COUNT n.val] [] s t) ∧
    (∃ t, exec (.chkRunWrite m n v) s = .next t ∧ t.rd (R.CHK_RUN n.val) = v.toNat % 2 ^ chkWidth n.val ∧ t.resp = .ok ∧
      Only [R.CHK_RUN n.val] [] s t) ∧
    (∃ t, exec (.chkCountWrite m n v) s = .next t ∧ t.rd (R.CHK_COUNT n.val) = v.toNat ∧ t.resp = .ok ∧
      Only [R.CHK_COUNT n.val] [] s t) ∧
    (∃ t, exec (.chkUseWrite m n v) s = .next t ∧ t.rd (R.CHK_CFG_FOLD_EN n.val) = bits v.toNat 8 8 ∧
      t.rd (R.CHK_CFG_USE n.val) =
        (if s.rd R.CHK_CTRL_LOCK = 0 ∧ v.toNat % 8 ∈ chkUses n.val then v.toNat % 8 else s.rd (R.CHK_CFG_USE n.val)) ∧
      t.resp = .ok ∧ Only [R.CHK_CFG_USE n.val, R.CHK_CFG_FOLD_EN n.val] [] s t)

/-- Nothing waits in the reader: no held write, no kept chain, no power state entry. -/
def Reader.Clear (s : State) : Prop :=
  s.ff L.NF_WPEND = [] ∧ s.rd L.NF_KEPT = 0 ∧ s.rd L.ENT_HOLD = 0 ∧ s.rd L.NF_RX = 0

/-- R302: the command in progress has ended with a result. -/
def Reader.Ended (s t : State) (result st : Nat) : Prop :=
  t.rd R.NFCR_STAT_RESULT = result ∧ t.rd R.NFCR_EVT_DONE = 1 ∧ t.rd L.NF_OP = 0 ∧ t.rd R.NFCR_STAT_STATE = st ∧ MemKept s t

/-- R291, R296: the octets of the frame that a TRANSCEIVE sends: those of its chain up to TX_LEN, with their CRC where MODE asks for it. -/
def Reader.txFrame (s : State) : List Byte :=
  let l := (s.chainBytes (s.nfcChain (s.rd R.NFCR_TX_HEAD))).take (s.rd R.NFCR_TX_LEN)
  if s.on R.NFCR_MODE_CRC_TX then l ++ nfCrc (s.rd R.NFCR_MODE_TYPE == 1) l else l

/-- R295: the command of an operation code. -/
def Reader.cmd (m : Master) (op : Nat) : Instr :=
  match op with
  | 1 => .fieldOn m
  | 2 => .fieldOff m
  | 3 => .inventory m
  | 4 => .transceive m
  | _ => .nfcAbort m

/-- R293 to R303: the five commands of the reader. -/
def Obligations.ReaderCommands : Prop :=
  ∀ (s : State) (m : Master), Calm s → Taken s m R.NFCR_CMD_OP →
    (∀ op ∈ [1, 3, 4], s.rd R.NFCR_STAT_STATE ≠ 0 → s.rd R.NFCR_STAT_STATE ≠ 3 →
      ∃ t, exec (Reader.cmd m op) s = .next t ∧ Only [] [] s t) ∧
    (s.rd R.NFCR_STAT_STATE = 1 ∨ s.rd R.NFCR_STAT_STATE = 2 → ∃ t, exec (.fieldOff m) s = .next t ∧ Only [] [] s t) ∧
    (∀ op ∈ [1, 3, 4], s.rd R.NFCR_STAT_STATE = 0 ∨ s.rd R.NFCR_STAT_STATE = 3 → s.on L.ENT_HOLD = true →
      ∃ t, exec (Reader.cmd m op) s = .next t ∧ t.rd L.NF_HELD = op ∧ Only [L.NF_HELD] [] s t) ∧
    (Reader.Clear s → s.rd L.NF_STG = 0 →
      (s.rd R.NFCR_STAT_STATE = 0 → s.on L.NF_ON = false → s.on L.VNFC_LOW = false → s.on R.SYSCTL_SUPPLY_STAT_WARN = false →
        ∀ op ∈ [1, 3, 4],
          (s.on L.EXT_LVL = false ∨ s.on R.HALL_CLK_STAT_NFC_SYN_LOCK = false →
            ∃ t, exec (Reader.cmd m op) s = .next t ∧ t.rd R.NFCR_STAT_STATE = 1 ∧ t.rd L.NF_OP = op ∧
              t.rd L.NF_CA = s.rd R.HALL_CLK_STAT_NFC_SYN_LOCK % 2 ∧ MemKept s t ∧ ListsKept s t) ∧
          (s.on L.EXT_LVL = true → s.on R.HALL_CLK_STAT_NFC_SYN_LOCK = true →
            ∃ t, exec (Reader.cmd m op) s = .next t ∧ Reader.Ended s t 6 0 ∧ t.rd L.NF_ON = 0 ∧ t.rd R.NFCR_EVT_EXT_FIELD = 1)) ∧
      (s.rd R.NFCR_STAT_STATE = 0 ∨ s.rd R.NFCR_STAT_STATE = 3 → s.on L.VNFC_LOW = true ∨ s.on R.SYSCTL_SUPPLY_STAT_WARN = true →
        ∀ op ∈ [1, 3, 4], ∃ t, exec (Reader.cmd m op) s = .next t ∧ Reader.Ended s t 7 0 ∧ t.rd L.NF_ON = 0 ∧ t.rd R.NFCR_EVT_FIELD_DROP = 1) ∧
      (s.rd R.NFCR_STAT_STATE = 3 → s.on L.NF_ON = true → s.on L.NF_GRD = false → s.on L.VNFC_LOW = false → s.on R.SYSCTL_SUPPLY_STAT_WARN = false →
        (∃ t, exec (.fieldOn m) s = .next t ∧ Reader.Ended s t 1 3) ∧
        (s.on R.NFCR_INV_CFG_A_EN = true → ∃ t, exec (.inventory m) s = .next t ∧ t.rd R.NFCR_STAT_STATE = 4 ∧ t.rd R.NFCR_STAT_INV_N = 0 ∧
          (∀ n < 8, t.rd (R.NFCR_INV_VALID n) = 0) ∧ t.ff L.NF_FRM = [if s.on R.NFCR_INV_CFG_WUP then 0x52 else 0x26] ∧ t.rd L.NF_STG = 1 ∧
          MemKept s t ∧ ListsKept s t) ∧
        (s.on R.NFCR_INV_CFG_A_EN = false → s.on R.NFCR_INV_CFG_B_EN = true → s.rd R.NFCR_INV_CFG_AFI < 256 → s.rd R.NFCR_INV_CFG_B_N0 < 8 →
          let l : List Byte := [5, BitVec.ofNat 8 (s.rd R.NFCR_INV_CFG_AFI),
            BitVec.ofNat 8 (s.rd R.NFCR_INV_CFG_B_N0 + if s.on R.NFCR_INV_CFG_WUP then 8 else 0)]
          ∃ t, exec (.inventory m) s = .next t ∧ t.rd R.NFCR_STAT_STATE = 4 ∧ t.ff L.NF_FRM = (l ++ nfCrc true l).map BitVec.toNat ∧
            t.ff L.NF_PARB = [] ∧ MemKept s t) ∧
        (s.domOn 6 = true → s.islOn 3 = true → ∃ t, exec (.transceive m) s = .next t ∧ t.rd R.NFCR_STAT_STATE = 4 ∧ t.rd L.NF_STG = 1 ∧
          t.ff L.NF_FRM = (Reader.txFrame s).map BitVec.toNat ∧
          (s.rd R.NFCR_MODE_TYPE = 0 → s.on R.NFCR_MODE_PARITY = true → s.rd R.NFCR_MODE_TX_LAST_BITS = 0 →
            t.ff L.NF_PARB = (Reader.txFrame s).map oddParity) ∧ MemKept s t ∧ ListsKept s t)) ∧
      (s.rd R.NFCR_STAT_STATE = 0 ∨ s.rd R.NFCR_STAT_STATE = 3 → s.rd L.NF_OP = 0 →
        (∃ t, exec (.fieldOff m) s = .next t ∧ Reader.Ended s t 1 0 ∧ t.rd L.NF_ON = 0) ∧
        (∃ t, exec (.nfcAbort m) s = .next t ∧ Only [] [] s t))) ∧
    (Reader.Clear s → 1 ≤ s.rd L.NF_OP → s.rd L.NF_OP ≤ 4 → s.rd L.NF_STG ≤ 2 →
      (∃ t, exec (.nfcAbort m) s = .next t ∧ Reader.Ended s t 11 (if !s.on L.NF_ON then 0 else if s.on L.NF_GRD then 2 else 3)) ∧
      (s.rd R.NFCR_STAT_STATE = 4 → ∃ t, exec (.fieldOff m) s = .next t ∧ Reader.Ended s t 11 0 ∧ t.rd L.NF_ON = 0))

/-- R294: an external field has ended the command in progress, the field off. -/
def Reader.External (s t : State) : Prop :=
  Reader.Ended s t 6 0 ∧ t.rd R.NFCR_EVT_EXT_FIELD = 1 ∧ t.rd R.NFCR_EXT_CNT = min (s.rd R.NFCR_EXT_CNT + 1) (2 ^ R.NFCR_EXT_CNT.wid - 1)

/-- R291 to R302, R498: the ten rows of the reader's events. -/
def Obligations.ReaderEvents : Prop :=
  ∀ s : State, Calm s → s.online 18 = true →
    (s.on L.EXT_LVL = false ∨ s.on L.NF_CA = true ∨ s.rd R.NFCR_STAT_STATE ≠ 1 → ∃ t, exec .nfcSynLocked s = .next t ∧ t.rd R.HALL_CLK_STAT_NFC_SYN_LOCK = 1 ∧ (s.rd R.NFCR_STAT_STATE = 1 → t.rd L.NF_CA = 1) ∧
      Only [R.HALL_CLK_STAT_NFC_SYN_LOCK, L.NF_CA] [] s t) ∧
    (s.on L.EXT_LVL = true → s.on L.NF_CA = false → s.rd R.NFCR_STAT_STATE = 1 → s.on L.NF_ON = false → 1 ≤ s.rd L.NF_OP → s.rd L.NF_OP ≤ 4 →
      ∃ t, exec .nfcSynLocked s = .next t ∧ t.rd R.HALL_CLK_STAT_NFC_SYN_LOCK = 1 ∧ Reader.External s t) ∧
    (s.on L.NF_CA = false → ∃ t, exec .caIntervalEnd s = .next t ∧ Only [] [] s t) ∧
    (s.on L.NF_CA = true →
      ∃ t, exec .caIntervalEnd s = .next t ∧ t.rd L.NF_ON = 1 ∧ t.rd R.NFCR_STAT_STATE = 2 ∧ t.rd L.NF_CA = 0 ∧ t.rd L.NF_GRD = 1 ∧
        Only [L.NF_CA, L.NF_ON, L.NF_LOW, L.NF_GRD, R.NFCR_STAT_STATE] [] s t) ∧
    (∀ present : Bool, s.on L.NF_CA = false ∨ present = false →
      ∃ t, exec (.extField present) s = .next t ∧ t.rd L.EXT_LVL = b2n present ∧
        t.liveFields 18 0x08 = [(4, b2n (present && !s.on L.NF_ON))] ∧ Only [L.EXT_LVL] [] s t) ∧
    (s.on L.NF_CA = true → s.on L.NF_ON = false → 1 ≤ s.rd L.NF_OP → s.rd L.NF_OP ≤ 4 →
      ∃ t, exec (.extField true) s = .next t ∧ t.rd L.EXT_LVL = 1 ∧ Reader.External s t) ∧
    (s.rd R.NFCR_STAT_STATE ≠ 2 → ∃ t, exec .guardEnd s = .next t ∧ Only [] [] s t) ∧
    (s.rd R.NFCR_STAT_STATE = 2 → s.rd L.IV_PH = 0 → s.on L.NF_ON = true → s.domOn 6 = true → s.islOn 3 = true →
      (s.rd L.NF_OP = 1 → ∃ t, exec .guardEnd s = .next t ∧ Reader.Ended s t 1 3) ∧
      (s.rd L.NF_OP = 4 → ∃ t, exec .guardEnd s = .next t ∧ t.rd R.NFCR_STAT_STATE = 4 ∧ t.rd L.NF_STG = 1 ∧
        t.ff L.NF_FRM = (Reader.txFrame s).map BitVec.toNat)) ∧
    (s.rd L.NF_STG ≠ 1 → ∃ t, exec .nfcFrameSent s = .next t ∧ Only [] [] s t) ∧
    (s.rd L.NF_STG = 1 → s.rd L.IV_PH < 4 → ∃ t, exec .nfcFrameSent s = .next t ∧ t.rd L.NF_STG = 2 ∧ t.ff L.NF_FRM = s.ff L.NF_FRM ∧ MemKept s t ∧
      (s.rd L.NF_OP = 4 → ∀ b ∈ s.nfcChain (s.rd R.NFCR_TX_HEAD), t.owner b = ownFree)) ∧
    (s.rd L.NF_STG ≠ 2 → (∃ t, exec .responseTimeout s = .next t ∧ Only [] [] s t) ∧
      ∀ octets lb crc par coll, ∃ t, exec (.piccResponse octets lb crc par coll) s = .next t ∧ Only [] [] s t) ∧
    (s.rd L.NF_STG = 2 → s.rd L.IV_PH = 0 → s.rd L.NF_OP = 4 → s.rd L.NF_RX = 0 → s.on L.NF_ON = true → s.on L.NF_GRD = false →
      s.domOn 6 = true → s.islOn 3 = true →
      (∃ t, exec .responseTimeout s = .next t ∧ Reader.Ended s t 2 3) ∧
      (∀ (octets : List Byte) (lb : BitVec 3) (crc par : Bool) (coll : Option (BitVec 8)), octets ≠ [] → octets.length < 2 ^ R.NFCR_RX_LEN.wid →
        let n := bufsFor octets.length
        let bs := s.freeBufs n false
        let typeA : Bool := s.rd R.NFCR_MODE_TYPE == 0
        let res := if coll.isSome && typeA then 5 else if par && s.on R.NFCR_MODE_PARITY && typeA then 4
          else if crc && s.on R.NFCR_MODE_CRC_RX then 3 else 1
        (s.overShare ownNfc n = true ∨ bs.length < n →
          ∃ t, exec (.piccResponse octets lb crc par coll) s = .next t ∧ Reader.Ended s t 9 3 ∧ t.rd R.NFCR_RX_LEN = 0) ∧
        (s.overShare ownNfc n = false → bs.length = n → s.overShare ownApp n = false → res ≠ 1 ∨ s.on R.NFCR_JOB_EN = false →
          ∃ t, exec (.piccResponse octets lb crc par coll) s = .next t ∧ t.rd R.NFCR_STAT_RESULT = res ∧ t.rd R.NFCR_EVT_DONE = 1 ∧
            t.rd L.NF_OP = 0 ∧ t.rd R.NFCR_STAT_STATE = 3 ∧ t.rd R.NFCR_RX_LEN = octets.length ∧ t.rd R.NFCR_RX_HEAD = bs.headD 0 ∧
            (octets.length ≤ 128 → t.owner (bs.headD 0) = ownApp ∧ t.rdBs (bufAddr (bs.headD 0)) octets.length = octets)))) ∧
    (s.rd L.NF_STG = 2 → s.rd L.IV_PH = 1 → ∀ (octets : List Byte) (lb : BitVec 3),
      ∃ t, exec (.piccResponse octets lb false false none) s = .next t ∧ t.ff L.NF_FRM = [0x93, 0x20] ∧ t.rd L.IV_PH = 2 ∧ MemKept s t ∧ ListsKept s t) ∧
    (s.rd L.NF_STG = 2 → s.rd L.IV_PH = 2 → s.rd L.IV_NB = 0 → s.rd L.IV_BITS = 0 → s.rd L.IV_CL < 3 → ∀ a b c d : Byte,
      ∃ t, exec (.piccResponse [a, b, c, d] 0#3 false false none) s = .next t ∧ t.rd L.IV_PH = 3 ∧
        let l : List Byte := [BitVec.ofNat 8 (0x93 + 2 * s.rd L.IV_CL), 0x70, a, b, c, d, a ^^^ b ^^^ c ^^^ d]
        t.ff L.NF_FRM = (l ++ nfCrc false l).map BitVec.toNat ∧ t.ff L.NF_PARB = (l ++ nfCrc false l).map oddParity ∧ MemKept s t) ∧
    (∀ steps : BitVec 5,
      (s.on L.NF_ON = true → s.rd R.NFCR_DRV_LEVEL < 32 →
        ∃ t, exec (.ilim steps) s = .next t ∧ t.rd L.NF_LOW = min (s.rd L.NF_LOW + steps.toNat) (s.rd R.NFCR_DRV_LEVEL) ∧
          t.rd R.NFCR_EVT_ILIM = 1 ∧ t.rd R.NFCR_ILIM_CNT = min (s.rd R.NFCR_ILIM_CNT + 1) (2 ^ R.NFCR_ILIM_CNT.wid - 1) ∧
          Only [L.NF_LOW, R.NFCR_EVT_ILIM, R.NFCR_ILIM_CNT] [] s t) ∧
      (s.on L.NF_ON = false → ∃ t, exec (.ilim steps) s = .next t ∧ Only [] [] s t)) ∧
    (s.rd L.NF_STG ≠ 3 → s.rd L.NF_RX = 0 → s.on L.NF_ON = true → ∃ t, exec .vnfcLow s = .next t ∧ t.rd L.VNFC_LOW = 1 ∧ t.rd L.NF_ON = 0 ∧
      t.rd R.NFCR_EVT_FIELD_DROP = 1 ∧ t.rd R.NFCR_STAT_STATE = 0 ∧ MemKept s t) ∧
    (∃ t, exec .vnfcRestored s = .next t ∧ t.rd L.VNFC_LOW = 0 ∧ Only [L.VNFC_LOW] [] s t)

/-- No page is being written, no host command or Attic command is in hand, the loader has nothing to write, and no lowering of the
read-out protection runs. -/
def Porch.Quiet (s : State) : Prop :=
  s.on R.FLASHC_RDP_LOWERING = false ∧ s.rd L.PW_STEP = 0 ∧ s.rd L.PF_BUSY = 0 ∧ s.rd L.PW_LDR = 0 ∧ s.rd L.PH_ST = 0 ∧ s.rd L.PF_ST = 0

/-- R307: the identifier octets of a cascade level, the check octet last. -/
def Porch.level (s : State) (lvl2 : Bool) : List Byte :=
  let u := fun i => s.rdP i
  if lvl2 then [u 3, u 4, u 5, u 6, u 3 ^^^ u 4 ^^^ u 5 ^^^ u 6] else [0x88, u 0, u 1, u 2, 0x88 ^^^ u 0 ^^^ u 1 ^^^ u 2]

/-- R306, R308: the Porch has sent a frame of a kind. -/
def Porch.Sent (s t : State) (kind : Nat) (l : List Byte) : Prop :=
  t.rd L.P_KIND = kind ∧ t.ff L.P_OUT = l.map BitVec.toNat ∧
    t.rd R.PORCH_STAT_LM = b2n (s.domOn 2 && s.on R.PORCH_CFG_ALM_EN && !s.on R.SYSCTL_SUPPLY_STAT_WARN)

/-- R60, R304, R310, R348: the Porch answers. -/
abbrev Porch.Answers (s : State) : Prop :=
  s.on R.PORCH_STAT_FIELD = true ∧ s.present 19 = true ∧ s.on L.P_UP = true ∧ s.on L.P_EN = true ∧ s.on R.FLASHC_RDP_LOWERING = false

/-- R305, R306, R318, R320: the field arrives and is lost. -/
def Porch.FieldRules : Prop :=
  ∀ (s : State), Porch.Quiet s →
    (s.on R.PORCH_STAT_FIELD = true → ∃ t, exec .porchFieldArrival s = .next t ∧ Only [] [] s t) ∧
    (s.on R.PORCH_STAT_FIELD = false → ∃ t, exec .porchFieldArrival s = .next t ∧ t.rd R.PORCH_STAT_FIELD = 1 ∧ t.rd R.PORCH_EVT_FIELD_ON = 1 ∧
      t.islOn 8 = (s.islOn 8 || s.present 19) ∧ Only [R.PORCH_STAT_FIELD, R.PORCH_EVT_FIELD_ON, R.HALL_CLK_STAT_RUN] [] s t) ∧
    (s.on R.PORCH_STAT_FIELD = false → ∃ t, exec .porchFieldLoss s = .next t ∧ Only [] [] s t) ∧
    (s.on R.PORCH_STAT_FIELD = true → s.domOn 2 = true → s.on R.PORCH_STAT_SESSION = false →
      ∃ t, exec .porchFieldLoss s = .next t ∧ t.rd R.PORCH_STAT_FIELD = 0 ∧ t.rd R.PORCH_EVT_FIELD_OFF = 1 ∧ t.rd R.PORCH_STAT_RESERVE = 0 ∧
        t.rd L.P_TAG = 0 ∧ t.rd L.P_STAR = 0 ∧ t.ff L.PQ_DATA = [] ∧
        Only [R.PORCH_STAT_FIELD, R.PORCH_EVT_FIELD_OFF, R.PORCH_STAT_RESERVE, L.P_TAG, L.P_STAR] [L.PQ_DATA] s t) ∧
    (s.on R.PORCH_STAT_FIELD = true → s.domOn 2 = true → s.on R.PORCH_STAT_SESSION = true →
      ∃ t, exec .porchFieldLoss s = .next t ∧ t.rd R.PORCH_STAT_FIELD = 0 ∧ t.rd R.PORCH_EVT_FIELD_OFF = 1 ∧ t.rd L.P_TAG = 0 ∧
        t.rd R.PORCH_STAT_SESSION = 0 ∧ t.rd R.PORCH_EVT_SESSION_END = 1 ∧ t.rd L.P_RIGHTS = 0 ∧ t.rd L.P_RND = 0 ∧ t.rd L.P_FAILS = 0 ∧
        t.rd L.P_APP = 0 ∧ t.rd L.P_FILE = 0 ∧ t.ff L.P_PEND = [] ∧ t.ff L.P_CHAIN = [] ∧
        (s.rd R.PORCH_STAT_OWNER = 1 → t.rd R.PORCH_STAT_OWNER = 0 ∧ t.rd R.PBM_TOKENS_PORCH = 0) ∧ MemKept s t ∧ ListsKept s t) ∧
    (s.on R.PORCH_STAT_FIELD = true → s.domOn 2 = false →
      ∃ t, exec .porchFieldLoss s = .next t ∧ t.rd R.PORCH_STAT_FIELD = 0 ∧ t.rd L.P_UP = 0 ∧ t.rd L.P_TAG = 0 ∧ t.rd R.PORCH_STAT_SESSION = 0 ∧
        t.rd R.PORCH_STAT_OWNER = 0 ∧ t.rd L.P_RIGHTS = 0 ∧ t.islOn 8 = false ∧ MemKept s t ∧ ListsKept s t)

/-- R310, R317, R353: the start-up decision. -/
def Porch.StartUpRules : Prop :=
  ∀ (s : State) (fwOk : Bool), Porch.Quiet s → s.rd R.PORCH_STAT_SESSION = 0 →
    let commit := (s.rdP (shadowHdr + 10)).toNat
    let target := ofLe (s.rdPs shadowHdr 2)
    let seq := ofLe (s.rdPs (shadowHdr + 2) 4)
    let good := ofLe (s.rdPs (shadowHdr + 6) 4) = crc32c (s.rdPs shadowHdr 6 ++ s.rdPs shadowPay 64)
    (s.on L.P_UP = true ∨ s.islOn 8 = false ∨ s.on R.PORCH_STAT_FIELD = false ∧ s.domOn 2 = false →
      ∃ t, exec (.porchPowerUp fwOk) s = .next t ∧ Only [] [] s t) ∧
    (s.on L.P_UP = false → s.islOn 8 = true → s.on R.PORCH_STAT_FIELD = true ∨ s.domOn 2 = true →
      ∃ t, exec (.porchPowerUp fwOk) s = .next t ∧
        t.rd L.P_UP = 1 ∧ t.rd L.P_TAG = 0 ∧ t.rd R.PORCH_SEQ = seq ∧ t.rd R.PORCH_UID_LO = ofLe (t.rdPs 0 4) ∧ t.rd R.PORCH_UID_HI = ofLe (t.rdPs 4 3) ∧
        t.rd L.P_EN = (t.rdP 7).toNat % 2 ∧ t.rd R.PORCH_CFG_FWI = (t.rdP 7).toNat / 16 ∧
        t.rd R.ATTIC_PFW_STAT_SELECTED = t.fwSel ∧ t.rd R.ATTIC_PFW_STAT_ACTIVE = (if fwOk then t.fwSel else 1 - t.fwSel) ∧
        t.rd R.ATTIC_PFW_STAT_FALLBACK = (if fwOk then 0 else 1) ∧
        (commit = 0 → t.rd R.PORCH_TEAR_LOG_OUTCOME = 0 ∧ t.rd R.PORCH_TEAR_LOG_PAGE = 0 ∧ MemKept s t) ∧
        (commit = 0x3C → good → target < 254 → t.rd R.PORCH_TEAR_LOG_OUTCOME = 1 ∧ t.rd R.PORCH_TEAR_LOG_PAGE = target ∧ t.rd R.PORCH_EVT_REDO = 1 ∧
          (∀ i < 64, t.rdP (64 * target + i) = s.rdP (shadowPay + i)) ∧ t.rdP (shadowHdr + 10) = 0 ∧
          ∀ a, a / 64 ≠ target → a ≠ shadowHdr + 10 → t.rdP a = s.rdP a) ∧
        (commit ≠ 0 → ¬ (commit = 0x3C ∧ good) → t.rd R.PORCH_TEAR_LOG_OUTCOME = 2 ∧ t.rd R.PORCH_TEAR_LOG_PAGE = target ∧ t.rdP (shadowHdr + 10) = 0 ∧
          ∀ a, a ≠ shadowHdr + 10 → t.rdP a = s.rdP a) ∧
        (∀ a, t.rdB a = s.rdB a) ∧ t.porchFw = s.porchFw ∧ ListsKept s t)

/-- R305, R310, R317, R318, R320: the field and the start-up decision. -/
def Obligations.PorchFieldAndStartUp : Prop := Porch.FieldRules ∧ Porch.StartUpRules

/-- R307, R308, R320, R321: the frames that identify and select the Porch. -/
def Obligations.PorchSelection : Prop :=
  ∀ (s : State) (lvl2 : Bool) (n : BitVec 6) (known id : BitVec 40),
    (¬ Porch.Answers s → ∀ i ∈ [.reqa, .wupa, .anticollision lvl2 n known, .select lvl2 id, .hlta, .rats],
      ∃ t, exec i s = .next t ∧ Only [] [] s t) ∧
    (Porch.Answers s →
      let tag := s.rd L.P_TAG
      let at' := if lvl2 then 2 else 1
      let fallen := if s.on L.P_STAR then 4 else 0
      let sent := [R.PORCH_STAT_LM, L.P_KIND]
      (tag = 0 → ∀ i ∈ [.reqa, .wupa], ∃ t, exec i s = .next t ∧ t.rd L.P_TAG = 1 ∧ t.rd L.P_STAR = 0 ∧ Porch.Sent s t 1 [0x44, 0x00] ∧
        Only (L.P_TAG :: L.P_STAR :: sent) [L.P_OUT] s t) ∧
      (tag = 4 → (∃ t, exec .reqa s = .next t ∧ Only [] [] s t) ∧
        ∃ t, exec .wupa s = .next t ∧ t.rd L.P_TAG = 1 ∧ t.rd L.P_STAR = 1 ∧ Porch.Sent s t 1 [0x44, 0x00] ∧
          Only (L.P_TAG :: L.P_STAR :: sent) [L.P_OUT] s t) ∧
      (tag = 1 ∨ tag = 2 ∨ tag = 3 → ∀ i ∈ [.reqa, .wupa], ∃ t, exec i s = .next t ∧ t.rd L.P_TAG = fallen ∧ Only [L.P_TAG] [] s t) ∧
      (tag = 5 → ∀ i ∈ [.reqa, .wupa, .hlta], ∃ t, exec i s = .next t ∧ Only [] [] s t) ∧
      (let v := ofLe (Porch.level s lvl2)
       let k := n.toNat
       (tag = at' → k < 40 → known.toNat % 2 ^ k = v % 2 ^ k → ∃ t, exec (.anticollision lvl2 n known) s = .next t ∧
          Porch.Sent s t 2 (leBytes ((47 - k) / 8) (v / 2 ^ k)) ∧ Only sent [L.P_OUT] s t) ∧
       (tag ≠ at' ∨ 40 ≤ k ∨ known.toNat % 2 ^ k ≠ v % 2 ^ k → ∃ t, exec (.anticollision lvl2 n known) s = .next t ∧ Only [] [] s t) ∧
       (tag = at' → id.toNat = v → ∃ t, exec (.select lvl2 id) s = .next t ∧ t.rd L.P_TAG = (if lvl2 then 3 else 2) ∧
          Porch.Sent s t 3 [if lvl2 then 0x20 else 0x04] ∧ Only (L.P_TAG :: sent) [L.P_OUT] s t) ∧
       (tag = 1 ∨ tag = 2 → tag ≠ at' ∨ id.toNat ≠ v → ∃ t, exec (.select lvl2 id) s = .next t ∧ t.rd L.P_TAG = fallen ∧ Only [L.P_TAG] [] s t)) ∧
      (tag = 3 → ∃ t, exec .hlta s = .next t ∧ t.rd L.P_TAG = 4 ∧ Only [L.P_TAG] [] s t) ∧
      (tag = 3 → Porch.Quiet s → s.ff L.P_PEND = [] → ∃ t, exec .rats s = .next t ∧ t.rd L.P_TAG = 5 ∧ t.rd R.PORCH_STAT_SESSION = 1 ∧
        t.rd L.P_BLK = 1 ∧ t.ff L.P_LAST = [] ∧ t.ff L.P_CHAIN = [] ∧ t.rd L.P_WTX = 0 ∧ t.rd R.PORCH_STAT_OWNER = 1 ∧ t.rd R.PBM_TOKENS_PORCH = 1 ∧
        Porch.Sent s t 4 [0x05, 0x78, 0x00, BitVec.ofNat 8 (s.rd R.PORCH_CFG_FWI * 16), 0x02] ∧
        Only ([L.P_TAG, R.PORCH_STAT_SESSION, L.P_BLK, L.P_WTX, R.PORCH_STAT_OWNER, R.PBM_TOKENS_PORCH] ++ sent) [L.P_OUT, L.P_LAST, L.P_CHAIN] s t) ∧
      (tag ≠ 3 → ∃ t, exec .rats s = .next t ∧ Only [] [] s t))

/-- R308, R311: an APDU has been answered with data and a status word, which an R-block may call for again. -/
def Porch.Answered (s t : State) (l : List Byte) (sw : Nat) : Prop :=
  Porch.Sent s t 5 (l ++ [BitVec.ofNat 8 (sw / 256), BitVec.ofNat 8 sw]) ∧ t.ff L.P_LAST = 5 :: t.ff L.P_OUT ∧ t.ff L.P_PEND = [] ∧
    t.rd L.P_WTX = 0

/-- The registers and FIFOs that every answer changes. -/
def Porch.answerRegs : List Fld := [R.PORCH_STAT_LM, L.P_KIND, L.P_WTX, L.P_BLK]
def Porch.answerFifos : List Fld := [L.P_OUT, L.P_LAST, L.P_PEND, L.P_CHAIN]

/-- R307: an I-block answered at once, the block number toggled by it, and nothing else but the listed registers changed. -/
def Porch.Replies (s t : State) (l : List Byte) (sw : Nat) (fs : List Fld) : Prop :=
  Porch.Answered s t l sw ∧ t.rd L.P_BLK = 1 - s.rd L.P_BLK ∧ t.ff L.P_CHAIN = [] ∧ Only (Porch.answerRegs ++ fs) Porch.answerFifos s t

/-- R309, R311: the files: their number in this statement, FID, first octet and size. -/
def Porch.table : List (Nat × Nat × Nat × Nat) :=
  [(1, 0xE103, 0x80, 15), (2, 0xE1A0, 0xC0, 320), (3, 0xE1A1, 0x40, 64), (4, 0xE104, 0x200, 4096), (5, 0xE1A2, 0x1200, 1024), (6, 0xE1A3, 0x1600, 8192)]

/-- R309: reading a file is open to the session. -/
def Porch.readable (s : State) (fid : Nat) : Bool :=
  match fid with
  | 0xE1A2 => (s.rd L.P_RIGHTS).testBit 0
  | 0xE1A3 => (s.rd L.P_RIGHTS).testBit 1
  | _ => true

/-- R309: writing a file is open to the session. -/
def Porch.writable (s : State) (fid : Nat) : Bool :=
  match fid with
  | 0xE104 => s.rdP 142 == 0 || (s.rd L.P_RIGHTS).testBit 3
  | 0xE1A3 => (s.rd L.P_RIGHTS).testBit 2
  | _ => false

/-- An I-block that is an APDU of its own can be processed at once. -/
abbrev Porch.Ready (s : State) : Prop :=
  Porch.Answers s ∧ s.on R.PORCH_STAT_SESSION = true ∧ s.ff L.P_PEND = [] ∧ s.ff L.P_CHAIN = [] ∧ s.rd L.PW_STEP = 0 ∧ s.rd L.PF_BUSY = 0

/-- R311, R314: the I-blocks that write nothing. -/
def Porch.ApduRules (s : State) (aid data : List Byte) (fid : BitVec 16) (off : BitVec 15) (le k : Byte) : Prop :=
  (∃ t, exec (.selectApplication ⟨aid, false⟩) s = .next t ∧
    if aid = [0xD2, 0x76, 0x00, 0x00, 0x85, 0x01, 0x01] then t.rd L.P_APP = 1 ∧ t.rd L.P_FILE = 0 ∧ Porch.Replies s t [] 0x9000 [L.P_APP, L.P_FILE]
    else Porch.Replies s t [] 0x6A82 []) ∧
  (∀ e ∈ Porch.table, fid.toNat = e.2.1 → s.on L.P_APP = true →
    ∃ t, exec (.selectFile (some fid)) s = .next t ∧ t.rd L.P_FILE = e.1 ∧ Porch.Replies s t [] 0x9000 [L.P_FILE]) ∧
  (s.on L.P_APP = false ∨ (∀ e ∈ Porch.table, fid.toNat ≠ e.2.1) → ∃ t, exec (.selectFile (some fid)) s = .next t ∧ Porch.Replies s t [] 0x6A82 []) ∧
  (s.rd L.P_FILE = 0 → ∃ t, exec (.readBinary off (some le)) s = .next t ∧ Porch.Replies s t [] 0x6A82 []) ∧
  (∀ e ∈ Porch.table, s.rd L.P_FILE = e.1 → ∃ t, exec (.readBinary off (some le)) s = .next t ∧
    if Porch.readable s e.2.1 = false then Porch.Replies s t [] 0x6982 []
    else if e.2.2.2 ≤ off.toNat then Porch.Replies s t [] 0x6B00 []
    else if le.toNat = 0 ∨ 250 < le.toNat ∨ e.2.2.2 < off.toNat + le.toNat then Porch.Replies s t [] 0x6700 []
    else Porch.Replies s t ((List.range le.toNat).map fun i => s.rdP (e.2.2.1 + off.toNat + i)) 0x9000 []) ∧
  (∃ t r, exec .getChallenge s = .next t ∧ r < 2 ^ 128 ∧ t.rd L.P_RND = r + 1 ∧ Porch.Replies s t (leBytes 16 r) 0x9000 [L.P_RND]) ∧
  (∃ t, exec (.externalAuthenticate k ⟨data, false⟩) s = .next t ∧
    if s.rd L.P_FAILS = 3 then Porch.Replies s t [] 0x6983 []
    else if data.length ≠ 16 then Porch.Replies s t [] 0x6700 []
    else if s.on L.P_RND = true ∧ k.toNat < 4 ∧ s.rdPs (216 * 64 + 16 * k.toNat) 16 ≠ List.replicate 16 0 ∧
        data = aesEnc (s.rdPs (216 * 64 + 16 * k.toNat) 16) (leBytes 16 (s.rd L.P_RND - 1)) then
      t.rd L.P_RND = 0 ∧ t.rd L.P_RIGHTS = s.rd L.P_RIGHTS ||| (s.rdP (217 * 64 + k.toNat)).toNat % 16 ∧
        Porch.Replies s t [] 0x9000 [L.P_RND, L.P_RIGHTS]
    else t.rd L.P_RND = 0 ∧ t.rd L.P_FAILS = s.rd L.P_FAILS + 1 ∧ Porch.Replies s t [] 0x6300 [L.P_RND, L.P_FAILS]) ∧
  (∃ t, exec .instructionNotSupported s = .next t ∧ Porch.Replies s t [] 0x6D00 [])

/-- R309, R311, R315, R319: UPDATE BINARY. -/
def Porch.UpdateRules (s : State) (off : BitVec 15) (data : List Byte) : Prop :=
  (s.rd L.P_FILE = 0 → ∃ t, exec (.updateBinary off ⟨data, false⟩) s = .next t ∧ Porch.Replies s t [] 0x6A82 []) ∧
  ∀ e ∈ Porch.table, s.rd L.P_FILE = e.1 → ∃ t, exec (.updateBinary off ⟨data, false⟩) s = .next t ∧
    if Porch.writable s e.2.1 = false then Porch.Replies s t [] 0x6982 []
    else if e.2.2.2 ≤ off.toNat then Porch.Replies s t [] 0x6B00 []
    else if data = [] ∨ 246 < data.length ∨ e.2.2.2 < off.toNat + data.length then Porch.Replies s t [] 0x6700 []
    else
      let a := e.2.2.1 + off.toNat
      let n := min (64 - a % 64) data.length
      let old := s.rdPs (a / 64 * 64) 64
      t.rd L.PW_STEP = 1 ∧ t.rd L.PW_RUN = 1 ∧ t.rd L.PW_WHO = 1 ∧ t.rd L.PW_TGT = a / 64 ∧
        t.rd L.PW_DATA = ofLe (old.take (a % 64) ++ data.take n ++ old.drop (a % 64 + n)) ∧
        t.ff L.PQ_DATA = (data.drop n).map BitVec.toNat ∧ t.rd L.PQ_ADDR = a + n ∧ t.rd L.P_WTX = 1 ∧
        t.ff L.P_PEND = 3 :: off.toNat :: data.map BitVec.toNat ∧
        t.rd L.P_BLK = 1 - s.rd L.P_BLK ∧
        Only [L.PW_STEP, L.PW_RUN, L.PW_WHO, L.PW_TGT, L.PW_DATA, L.PQ_ADDR, L.P_WTX, L.P_BLK] [L.PQ_DATA, L.P_PEND, L.P_CHAIN] s t

/-- R308, R309, R311, R314, R319 to R321: a session's blocks. -/
def Obligations.PorchSession : Prop :=
  ∀ (s : State) (aid data : List Byte) (fid : BitVec 16) (off : BitVec 15) (le k : Byte) (nak : Bool) (num : BitVec 1), Calm s →
    let iblocks : List (Instr × List Nat) :=
      [(.selectApplication ⟨aid, false⟩, 0 :: 0 :: aid.map BitVec.toNat), (.selectFile (some fid), [1, fid.toNat]),
       (.readBinary off (some le), [2, off.toNat, le.toNat]), (.updateBinary off ⟨data, false⟩, 3 :: off.toNat :: data.map BitVec.toNat),
       (.getChallenge, [4, 0]), (.externalAuthenticate k ⟨data, false⟩, 5 :: k.toNat :: data.map BitVec.toNat), (.instructionNotSupported, [6, 0])]
    let chained : List (Instr × List Byte) :=
      [(.selectApplication ⟨aid, true⟩, aid), (.selectFile none, []), (.readBinary off none, []), (.updateBinary off ⟨data, true⟩, data),
       (.externalAuthenticate k ⟨data, true⟩, data)]
    let session := Porch.Answers s ∧ s.on R.PORCH_STAT_SESSION = true
    (¬ session ∨ s.ff L.P_PEND ≠ [] → ∀ i ∈ iblocks.map Prod.fst ++ chained.map Prod.fst, ∃ t, exec i s = .next t ∧ Only [] [] s t) ∧
    (session → s.ff L.P_PEND = [] → ∀ i ∈ chained, ∃ t, exec i.1 s = .next t ∧ Porch.Sent s t 6 [BitVec.ofNat 8 (0xA2 + (1 - s.rd L.P_BLK))] ∧
      t.ff L.P_CHAIN = s.ff L.P_CHAIN ++ i.2.map BitVec.toNat ∧ t.rd L.P_BLK = 1 - s.rd L.P_BLK ∧ t.ff L.P_LAST = 6 :: t.ff L.P_OUT ∧
      Only [R.PORCH_STAT_LM, L.P_KIND, L.P_BLK] [L.P_OUT, L.P_LAST, L.P_CHAIN] s t) ∧
    (session → s.ff L.P_PEND = [] → (∀ b ∈ s.ff L.P_CHAIN, b < 256) →
      let l := (s.ff L.P_CHAIN).map (BitVec.ofNat 8)
      let r := s.setFf L.P_CHAIN []
      exec (.selectApplication ⟨aid, false⟩) s = exec (.selectApplication ⟨l ++ aid, false⟩) r ∧
      exec (.updateBinary off ⟨data, false⟩) s = exec (.updateBinary off ⟨l ++ data, false⟩) r ∧
      exec (.externalAuthenticate k ⟨data, false⟩) s = exec (.externalAuthenticate k ⟨l ++ data, false⟩) r) ∧
    (session → s.ff L.P_PEND = [] → s.ff L.P_CHAIN = [] → aid.length ≤ 251 → data.length ≤ 251 → s.on L.PW_STEP = true ∨ s.on L.PF_BUSY = true →
      ∀ i ∈ iblocks, ∃ t, exec i.1 s = .next t ∧ t.ff L.P_PEND = i.2 ∧ t.rd L.P_WTX = 1 ∧ t.rd L.P_BLK = 1 - s.rd L.P_BLK ∧
        Only [L.P_WTX, L.P_BLK] [L.P_PEND, L.P_CHAIN] s t) ∧
    (Porch.Ready s → 251 < data.length → ∀ i ∈ [.selectApplication ⟨data, false⟩, .updateBinary off ⟨data, false⟩, .externalAuthenticate k ⟨data, false⟩],
      ∃ t, exec i s = .next t ∧ Porch.Replies s t [] 0x6700 []) ∧
    (Porch.Ready s → aid.length ≤ 251 → data.length ≤ 251 → Porch.ApduRules s aid data fid off le k ∧ Porch.UpdateRules s off data) ∧
    (¬ session → ∀ i ∈ [.sDeselect, .rBlock nak num], ∃ t, exec i s = .next t ∧ Only [] [] s t) ∧
    (session → Porch.Quiet s → ∃ t, exec .sDeselect s = .next t ∧ Porch.Sent s t 8 [0xC2] ∧ t.rd L.P_TAG = 4 ∧ t.rd L.P_STAR = 0 ∧
      t.rd R.PORCH_STAT_SESSION = 0 ∧ t.rd R.PORCH_EVT_SESSION_END = 1 ∧ t.rd L.P_APP = 0 ∧ t.rd L.P_FILE = 0 ∧ t.rd L.P_RND = 0 ∧
      t.rd L.P_FAILS = 0 ∧ t.rd L.P_RIGHTS = 0 ∧ t.ff L.P_PEND = [] ∧ t.ff L.P_CHAIN = [] ∧ t.ff L.PQ_DATA = [] ∧
      (s.rd R.PORCH_STAT_OWNER = 1 → t.rd R.PORCH_STAT_OWNER = 0) ∧ MemKept s t ∧ ListsKept s t) ∧
    (session → s.rd L.P_WTX = 1 → ∃ t, exec (.rBlock nak num) s = .next t ∧ Only [] [] s t) ∧
    (session → s.rd L.P_WTX ≠ 1 → num.toNat = s.rd L.P_BLK → ∀ (kind : Nat) (l : List Byte), kind < 16 → s.ff L.P_LAST = kind :: l.map BitVec.toNat →
      ∃ t, exec (.rBlock nak num) s = .next t ∧ Porch.Sent s t kind l ∧ Only [R.PORCH_STAT_LM, L.P_KIND] [L.P_OUT] s t) ∧
    (session → s.rd L.P_WTX ≠ 1 → num.toNat ≠ s.rd L.P_BLK ∨ s.ff L.P_LAST = [] → ∃ t, exec (.rBlock nak num) s = .next t ∧
      if nak then Porch.Sent s t 6 [BitVec.ofNat 8 (0xA2 + s.rd L.P_BLK)] ∧ Only [R.PORCH_STAT_LM, L.P_KIND] [L.P_OUT] s t
      else Only [] [] s t) ∧
    (Porch.Answers s → s.rd L.P_WTX = 2 → ∃ t, exec .wtxResponse s = .next t ∧ t.rd L.P_WTX = 1 ∧ Only [L.P_WTX] [] s t) ∧
    (¬ Porch.Answers s ∨ s.rd L.P_WTX ≠ 2 → ∃ t, exec .wtxResponse s = .next t ∧ Only [] [] s t) ∧
    (Porch.Answers s → s.rd L.P_WTX = 1 → s.ff L.P_PEND ≠ [] → ∃ t, exec .sWtxSend s = .next t ∧ Porch.Sent s t 7 [0xF2, 0x01] ∧
      t.rd L.P_WTX = 2 ∧ t.ff L.P_LAST = 7 :: t.ff L.P_OUT ∧ Only [L.P_WTX, R.PORCH_STAT_LM, L.P_KIND] [L.P_OUT, L.P_LAST] s t) ∧
    (¬ Porch.Answers s ∨ s.rd L.P_WTX ≠ 1 ∨ s.ff L.P_PEND = [] → ∃ t, exec .sWtxSend s = .next t ∧ Only [] [] s t)

/-- R485: the INFLIGHT records of the Porch and of the Attic's commands on it. -/
def Porch.inflight : List Fld :=
  R.FAULT_IF_OVERRUN :: [1, 11].flatMap fun n => [R.FAULT_INFLIGHT_OP n, R.FAULT_INFLIGHT_STEP n, R.FAULT_INFLIGHT_PROG n, R.FAULT_INFLIGHT_DETAIL n, R.FAULT_INFLIGHT_DETAIL2 n]

/-- R316: the write gate is open; and a dip that holds back the steps of a write. -/
def Porch.gateOpen (s : State) : Prop := s.on R.PORCH_STAT_RESERVE = true ∨ s.domOn 2 = true ∧ s.on R.SYSCTL_SUPPLY_STAT_WARN = false
def Porch.dip (s : State) : Prop := s.domOn 2 = true ∧ s.on R.SYSCTL_SUPPLY_STAT_WARN = true ∧ s.on R.PORCH_STAT_FIELD = false

/-- The step in progress has ended and the next one has started, or waits for the gate. -/
def Porch.NextStep (s t : State) (k : Nat) (fs : List Fld) : Prop :=
  t.rd L.PW_STEP = k ∧ (k = 3 → (t.rd L.PW_RUN = 1 ↔ Porch.gateOpen s)) ∧ (k ≠ 3 → t.rd L.PW_RUN = 1) ∧
    RegsBut ([L.PW_STEP, L.PW_RUN] ++ fs ++ Porch.inflight) s t ∧ FifosBut [] s t ∧ (∀ a, t.rdB a = s.rdB a) ∧ t.porchFw = s.porchFw ∧ ListsKept s t

/-- The octets from `a` on read as a list, every other octet as before. -/
def Porch.Written (s t : State) (a : Nat) (l : List Byte) : Prop :=
  t.rdPs a l.length = l ∧ ∀ x, ¬ (a ≤ x ∧ x < a + l.length) → t.rdP x = s.rdP x

/-- R315: steps 1 to 4. -/
def Porch.StepRules (s : State) (fail : Bool) : Prop :=
  let pay := leBytes 64 (s.rd L.PW_DATA)
  let seq := (s.rd R.PORCH_SEQ + 1) % 2 ^ 32
  let head := leBytes 2 (s.rd L.PW_TGT) ++ leBytes 4 seq
  (s.rd L.PW_STEP = 0 ∨ s.on L.PW_RUN = false → ∃ t, exec (.pageWriteStepDone fail) s = .next t ∧ Only [] [] s t) ∧
  (s.on L.PW_RUN = true → ¬ Porch.dip s →
    (s.rd L.PW_STEP = 1 → fail = false → ∃ t, exec (.pageWriteStepDone fail) s = .next t ∧ Porch.NextStep s t 2 [] ∧ Porch.Written s t shadowPay pay) ∧
    (s.rd L.PW_STEP = 2 → fail = false → ∃ t, exec (.pageWriteStepDone fail) s = .next t ∧ Porch.NextStep s t 3 [R.PORCH_SEQ] ∧ t.rd R.PORCH_SEQ = seq ∧
      Porch.Written s t shadowHdr (head ++ leBytes 4 (crc32c (head ++ pay)))) ∧
    (s.rd L.PW_STEP = 3 → ∃ t, exec (.pageWriteStepDone fail) s = .next t ∧ Porch.NextStep s t 4 [] ∧ Porch.Written s t (shadowHdr + 10) [0x3C]) ∧
    (s.rd L.PW_STEP = 4 → fail = false → ∃ t, exec (.pageWriteStepDone fail) s = .next t ∧ Porch.NextStep s t 5 [] ∧ Porch.Written s t (64 * s.rd L.PW_TGT) pay))

/-- R323: the host command has ended with a result. -/
def Porch.HostEnded (s t : State) (result : Nat) : Prop :=
  t.rd L.PH_ST = 0 ∧ t.rd R.PORCH_HSTAT_RESULT = result ∧ t.rd R.PORCH_EVT_HCMD_DONE = 1 ∧ t.rd R.PORCH_STAT_OWNER = 0 ∧ t.rd L.PW_STEP = 0 ∧
    (s.rd L.PH_OP = 3 → (∀ k < 4, t.rd (R.PORCH_KEYBUF k) = 0) ∧ t.rd L.PH_KEY = 0)

/-- No session, Attic command, loader write or lowering of the read-out protection stands beside the host's command. -/
abbrev Porch.HostAlone (s : State) : Prop :=
  s.on L.P_UP = true ∧ s.on R.FLASHC_RDP_LOWERING = false ∧ s.on R.PORCH_STAT_SESSION = false ∧ s.rd L.PW_LDR = 0 ∧ s.rd L.PF_ST = 0 ∧ s.rd L.PF_BUSY = 0

/-- R315, R316, R319, R323: step 5, and the writes that end early. -/
def Porch.EndRules (s : State) (fail : Bool) : Prop :=
  (s.rd L.PW_STEP = 5 → s.on L.PW_RUN = true →
    (s.rd L.PW_WHO = 1 → s.on R.PORCH_STAT_SESSION = true → s.ff L.PQ_DATA = [] →
      ∃ t, exec (.pageWriteStepDone fail) s = .next t ∧ t.rd L.PW_STEP = 0 ∧ t.rd R.PORCH_EVT_WRITE_BY_FIELD = 1 ∧
        Porch.Answered s t [] 0x9000 ∧ Porch.Written s t (shadowHdr + 10) [0x00] ∧ ListsKept s t) ∧
    (s.rd L.PW_WHO = 2 → s.rd L.PH_ST = 1 → Porch.HostAlone s →
      (s.rd L.PH_I + 1 = s.rd L.PH_N → ∃ t, exec (.pageWriteStepDone fail) s = .next t ∧ Porch.HostEnded s t 1 ∧
        t.rd R.PORCH_HSTAT_DONE_PAGES = s.rd L.PH_N ∧ Porch.Written s t (shadowHdr + 10) [0x00] ∧ ListsKept s t) ∧
      (s.rd L.PH_I + 1 < s.rd L.PH_N → s.rd L.PH_PAGE + s.rd L.PH_N ≤ 256 → s.rd L.PH_OP = 2 → ¬ Porch.dip s → ∃ t, exec (.pageWriteStepDone fail) s = .next t ∧ t.rd L.PH_ST = 1 ∧
        t.rd L.PH_I = s.rd L.PH_I + 1 ∧ t.rd R.PORCH_HSTAT_DONE_PAGES = s.rd L.PH_I + 1 ∧ t.rd L.PW_STEP = 1 ∧ t.rd L.PW_RUN = 1 ∧
        t.rd L.PW_TGT = s.rd L.PH_PAGE + s.rd L.PH_I + 1 ∧ t.rd R.PORCH_STAT_OWNER = 2 ∧ Porch.Written s t (shadowHdr + 10) [0x00] ∧ ListsKept s t) ∧
      (s.rd L.PH_I = 0 → s.rd L.PH_N = 2 → s.rd L.PH_OP = 3 → s.rd L.PH_PAGE < 4 → ¬ Porch.dip s → ∃ t, exec (.pageWriteStepDone fail) s = .next t ∧
        t.rd L.PH_ST = 1 ∧ t.rd L.PH_I = 1 ∧ t.rd L.PW_STEP = 1 ∧ t.rd L.PW_RUN = 1 ∧ t.rd L.PW_TGT = 217 ∧
        t.rd L.PW_DATA = ofLe ((s.rdPs (217 * 64) 64).set (s.rd L.PH_PAGE) (BitVec.ofNat 8 (s.rd L.PH_RIGHTS))) ∧ t.rd R.PORCH_STAT_OWNER = 2 ∧
        Porch.Written s t (shadowHdr + 10) [0x00] ∧ ListsKept s t))) ∧
  (∀ o ∈ [(1, shadowPay, 64), (2, shadowHdr, 10), (4, 64 * s.rd L.PW_TGT, 64)], s.rd L.PW_STEP = o.1 → s.on L.PW_RUN = true → fail = true →
    let outside := fun t : State => ∀ x, ¬ (o.2.1 ≤ x ∧ x < o.2.1 + o.2.2) → t.rdP x = s.rdP x
    (s.rd L.PW_WHO = 2 → s.rd L.PH_ST = 1 → Porch.HostAlone s →
      ∃ t, exec (.pageWriteStepDone fail) s = .next t ∧ Porch.HostEnded s t 7 ∧ outside t ∧ (∀ a, t.rdB a = s.rdB a) ∧ ListsKept s t) ∧
    (s.rd L.PW_WHO = 1 → s.on R.PORCH_STAT_SESSION = true → s.on R.FLASHC_RDP_LOWERING = false → s.rd L.PW_LDR = 0 → s.rd L.PH_ST = 0 →
      s.rd L.PF_ST = 0 → s.rd L.PF_BUSY = 0 →
      ∃ t, exec (.pageWriteStepDone fail) s = .next t ∧ t.rd L.PW_STEP = 0 ∧ t.ff L.PQ_DATA = [] ∧ Porch.Answered s t [] 0x6581 ∧ outside t ∧
        (∀ a, t.rdB a = s.rdB a) ∧ ListsKept s t)) ∧
  (s.rd L.PW_STEP ≠ 3 ∨ s.on L.PW_RUN = true ∨ Porch.gateOpen s → ∃ t, exec .writeAbandoned s = .next t ∧ Only [] [] s t) ∧
  (s.rd L.PW_STEP = 3 → s.on L.PW_RUN = false → ¬ Porch.gateOpen s →
    (s.rd L.PW_WHO = 2 → s.rd L.PH_ST = 1 → Porch.HostAlone s →
      ∃ t, exec .writeAbandoned s = .next t ∧ Porch.HostEnded s t 6 ∧ MemKept s t ∧ ListsKept s t) ∧
    (s.rd L.PW_WHO = 1 → s.on R.PORCH_STAT_SESSION = true → s.on R.FLASHC_RDP_LOWERING = false → s.rd L.PW_LDR = 0 → s.rd L.PH_ST = 0 →
      s.rd L.PF_ST = 0 → s.rd L.PF_BUSY = 0 →
      ∃ t, exec .writeAbandoned s = .next t ∧ t.rd L.PW_STEP = 0 ∧ t.ff L.PQ_DATA = [] ∧ Porch.Answered s t [] 0x6581 ∧ MemKept s t ∧ ListsKept s t))

/-- R316: the charge of the VPORCH capacitor opens the gate. -/
def Porch.GateRules (s : State) (reserve : Bool) : Prop :=
  ∃ t, exec (.writeGateOpen reserve) s = .next t ∧ t.rd R.PORCH_STAT_RESERVE = (if reserve && s.on R.PORCH_STAT_FIELD then 1 else 0) ∧
    (s.rd L.PW_STEP = 3 → s.on L.PW_RUN = false → ¬ Porch.dip s → (t.rd L.PW_RUN = 1 ↔ Porch.gateOpen t)) ∧
    Only ([R.PORCH_STAT_RESERVE, L.PW_RUN] ++ Porch.inflight) [] s t

/-- R323: a command refused with a result. -/
def Porch.Refused (s t : State) (result : Nat) (fs : List Fld) : Prop :=
  t.rd R.PORCH_HSTAT_RESULT = result ∧ t.rd R.PORCH_HSTAT_DONE_PAGES = 0 ∧ t.rd R.PORCH_EVT_HCMD_DONE = 1 ∧
    Only ([R.PORCH_HSTAT_RESULT, R.PORCH_HSTAT_DONE_PAGES, R.PORCH_EVT_HCMD_DONE] ++ fs) [] s t

/-- R322: a command queued. -/
def Porch.QueuedCmd (s t : State) (op page n rights key : Nat) : Prop :=
  t.rd L.PH_ST = 2 ∧ t.rd R.PORCH_HSTAT_RESULT = 2 ∧ t.rd L.PH_OP = op ∧ t.rd L.PH_PAGE = page ∧ t.rd L.PH_N = n ∧ t.rd L.PH_RIGHTS = rights ∧
    t.rd L.PH_KEY = key ∧ Only [L.PH_ST, L.PH_OP, L.PH_PAGE, L.PH_N, L.PH_I, L.PH_RIGHTS, L.PH_KEY, R.PORCH_HSTAT_RESULT, R.PORCH_HSTAT_DONE_PAGES] [] s t

/-- R320: a write has taken the token and begun its first page. -/
def Porch.Begun (s t : State) (op page n tgt : Nat) (data : List Byte) : Prop :=
  t.rd L.PH_ST = 1 ∧ t.rd L.PH_OP = op ∧ t.rd L.PH_PAGE = page ∧ t.rd L.PH_N = n ∧ t.rd L.PH_I = 0 ∧ t.rd R.PORCH_STAT_OWNER = 2 ∧
    t.rd R.PBM_TOKENS_PORCH = 2 ∧ t.rd L.PW_STEP = 1 ∧ t.rd L.PW_RUN = 1 ∧ t.rd L.PW_TGT = tgt ∧ t.rd L.PW_WHO = 2 ∧ t.rd L.PW_DATA = ofLe data ∧
    Only ([L.PH_ST, L.PH_OP, L.PH_PAGE, L.PH_N, L.PH_I, L.PH_RIGHTS, L.PH_KEY, R.PORCH_HSTAT_DONE_PAGES, R.PORCH_STAT_OWNER, R.PBM_TOKENS_PORCH,
      L.PW_STEP, L.PW_RUN, L.PW_TGT, L.PW_WHO, L.PW_DATA] ++ Porch.inflight) [] s t

/-- R309, R320, R322, R323: the host's commands. -/
def Porch.HostRules (s : State) (m : Master) (page : BitVec 8) (npages : BitVec 5) (slot : BitVec 2) (rights : BitVec 4) : Prop :=
  let p := page.toNat
  let n := npages.toNat
  let token := s.on R.PORCH_STAT_SESSION = true ∨ s.rd R.PORCH_STAT_OWNER ≠ 0 ∨ s.on L.PW_STEP = true
  let en := s.on R.PORCH_CFG_HOST_WRITE_EN
  (Taken s m R.PORCH_HCMD_GO →
    (s.on L.PH_ST = true ∨ n = 0 ∨ 16 < n → ∀ i ∈ [.hcmdRead m page npages, .hcmdWrite m page npages], ∃ t, exec i s = .next t ∧ Only [] [] s t) ∧
    (s.rd L.PH_ST = 0 → 1 ≤ n → n ≤ 16 →
      (256 < p + n → ∀ i ∈ [.hcmdRead m page npages, .hcmdWrite m page npages], ∃ t, exec i s = .next t ∧ Porch.Refused s t 5 []) ∧
      (p + n ≤ 256 → 216 < p + n → ∃ t, exec (.hcmdRead m page npages) s = .next t ∧ Porch.Refused s t 4 []) ∧
      (p + n ≤ 256 → p < 2 ∨ 216 < p + n ∨ en = false → ∃ t, exec (.hcmdWrite m page npages) s = .next t ∧ Porch.Refused s t 4 []) ∧
      (p + n ≤ 216 → token → ∃ t, exec (.hcmdRead m page npages) s = .next t ∧ Porch.QueuedCmd s t 1 p n 0 0) ∧
      (2 ≤ p → p + n ≤ 216 → en = true → token → ∃ t, exec (.hcmdWrite m page npages) s = .next t ∧ Porch.QueuedCmd s t 2 p n 0 0) ∧
      (Porch.HostAlone s → ¬ token →
        (p + n ≤ 216 → ∃ t, exec (.hcmdRead m page npages) s = .next t ∧ (∀ w < 16 * n, t.rd (R.PORCH_HBUF w) = ofLe (s.rdPs (64 * p + 4 * w) 4)) ∧
          t.rd L.PH_ST = 0 ∧ t.rd R.PORCH_HSTAT_RESULT = 1 ∧ t.rd R.PORCH_HSTAT_DONE_PAGES = n ∧ t.rd R.PORCH_EVT_HCMD_DONE = 1 ∧
          t.rd R.PORCH_STAT_OWNER = 0 ∧ MemKept s t ∧ ListsKept s t) ∧
        (2 ≤ p → p + n ≤ 216 → en = true → ¬ Porch.dip s → ∃ t, exec (.hcmdWrite m page npages) s = .next t ∧
          Porch.Begun s t 2 p n p ((List.range 16).flatMap fun w => leBytes 4 (s.rd (R.PORCH_HBUF w))))))) ∧
  (Taken s m R.PORCH_KEY_CMD_GO →
    (s.rd L.PH_ST = 1 → ∃ t, exec (.keyCmd m slot rights) s = .next t ∧ Only [] [] s t) ∧
    (s.rd L.PH_ST = 2 → ∃ t, exec (.keyCmd m slot rights) s = .next t ∧ (∀ k < 4, t.rd (R.PORCH_KEYBUF k) = 0) ∧
      Porch.Refused s t 3 ((List.range 4).map R.PORCH_KEYBUF)) ∧
    (s.rd L.PH_ST = 0 → en = false → ∃ t, exec (.keyCmd m slot rights) s = .next t ∧ (∀ k < 4, t.rd (R.PORCH_KEYBUF k) = 0) ∧
      Porch.Refused s t 4 ((List.range 4).map R.PORCH_KEYBUF)) ∧
    (s.rd L.PH_ST = 0 → en = true → token → ∃ t, exec (.keyCmd m slot rights) s = .next t ∧ Porch.QueuedCmd s t 3 slot.toNat 2 rights.toNat
      (ofLe ((List.range 4).flatMap fun w => leBytes 4 (s.rd (R.PORCH_KEYBUF w))))) ∧
    (s.rd L.PH_ST = 0 → en = true → Porch.HostAlone s → ¬ token → ¬ Porch.dip s → ∃ t, exec (.keyCmd m slot rights) s = .next t ∧
      Porch.Begun s t 3 slot.toNat 2 216 (s.rdPs (216 * 64) (16 * slot.toNat) ++ ((List.range 4).flatMap fun w => leBytes 4 (s.rd (R.PORCH_KEYBUF w))) ++
        s.rdPs (216 * 64 + 16 * slot.toNat + 16) (48 - 16 * slot.toNat))))

/-- R309, R315, R316, R319, R320, R322, R323: page writes and host commands. -/
def Obligations.PorchWritesAndHostCommands : Prop :=
  ∀ (s : State) (m : Master) (fail reserve : Bool) (page : BitVec 8) (npages : BitVec 5) (slot : BitVec 2) (rights : BitVec 4), Calm s →
    Porch.StepRules s fail ∧ Porch.EndRules s fail ∧ Porch.GateRules s reserve ∧ Porch.HostRules s m page npages slot rights

/-- R335: the codes the sequence keeps for its masters. -/
def Flash.code : Master → Nat
  | .app => 1
  | .dma => 2
  | .debug => 3
  | .link => 4
  | .host => 5
  | .cipher _ => 6
  | .nfc => 7

/-- R335: the sequence is unlocked for a master. -/
abbrev Flash.Unlocked (s : State) (m : Master) : Prop := s.rd L.FL_SEQ = 2 ∧ s.rd L.FL_SEQM = Flash.code m

/-- The registers of a command's own words, and of the sequence. -/
def Flash.words : List Fld := [L.FL_SEQ, L.FL_CMD, R.FLASHC_STAT_KEY_OK, R.FLASHC_ADDR, R.FLASHC_DATA_0, R.FLASHC_DATA_1, R.FLASHC_DATA_2, R.FLASHC_DATA_3]
/-- R485: the flash controller's INFLIGHT record. -/
def Flash.inflight : List Fld :=
  [R.FAULT_INFLIGHT_OP 0, R.FAULT_INFLIGHT_STEP 0, R.FAULT_INFLIGHT_PROG 0, R.FAULT_INFLIGHT_DETAIL 0, R.FAULT_INFLIGHT_DETAIL2 0, R.FAULT_IF_OVERRUN]

/-- R335: the sequence is discarded. -/
def Flash.Discarded (s t : State) : Prop :=
  t.rd L.FL_SEQ = 0 ∧ t.rd R.FLASHC_STAT_KEY_OK = 0 ∧ t.rd R.FLASHC_EVT_SEQ_ERR = 1 ∧ t.rd R.FLASHC_STAT_RESULT = 3 ∧
    Only (Flash.words ++ [R.FLASHC_EVT_SEQ_ERR, R.FLASHC_STAT_RESULT]) [] s t

/-- R335: the command has ended with a result, and its sequence with it. -/
def Flash.Ended (s t : State) (result : Nat) (fs : List Fld) : Prop :=
  t.rd L.FL_SEQ = 0 ∧ t.rd R.FLASHC_STAT_KEY_OK = 0 ∧ t.rd R.FLASHC_STAT_RESULT = result ∧
    t.rd (if result = 1 then R.FLASHC_EVT_DONE else R.FLASHC_EVT_ERR) = 1 ∧
    Only (Flash.words ++ [R.FLASHC_STAT_RESULT, if result = 1 then R.FLASHC_EVT_DONE else R.FLASHC_EVT_ERR] ++ fs) [] s t

/-- R329: the octets an operation covers. -/
def Flash.area (op a : Nat) : Nat × Nat :=
  match op with
  | 1 => (a / 16 * 16, 16)
  | 2 => (a / 4096 * 4096, 4096)
  | 3 => (a / 65536 * 65536, 65536)
  | _ => (if a < 0x08200000 then 0x08000000 else 0x08200000, 0x200000)

/-- R343: a write-protected block lies in an area. -/
def Flash.protectedIn (s : State) (r : Nat × Nat) : Bool :=
  (List.range 64).any fun k =>
    (s.rd (if k < 32 then R.FLASHC_WRP_0 else R.FLASHC_WRP_1)).testBit (k % 32) &&
      decide (0x08000000 + k * 0x10000 < r.1 + r.2 ∧ r.1 < 0x08000000 + (k + 1) * 0x10000)

/-- R340: the region a suspended erase withholds. -/
def Flash.withheld (s : State) : Nat × Nat :=
  if s.rd L.FL_E_OP = 4 then Flash.area 4 (s.rd L.FL_E_ADDR) else Flash.area 3 (s.rd L.FL_E_ADDR)

/-- R336: an operation or a level change runs. -/
def Flash.busy (s : State) : Bool :=
  s.on L.FL_P_ON || (s.on L.FL_E_OP && !s.on R.FLASHC_STAT_SUSPENDED) || s.on L.FL_RDP || s.on R.FLASHC_RDP_LOWERING || s.on L.FL_ENG

/-- R336, R337, R340, R341: the result of the first check that fails, 0 where the command starts. -/
def Flash.check (s : State) (m : Master) (op a : Nat) (raw : Bool) : Nat :=
  if m = .debug ∧ s.rd R.FLASHC_RDP_LEVEL ≠ 0 then 13
  else if Flash.busy s = true ∨ s.on R.SYSCTL_SUPPLY_STAT_WARN = true then 2
  else if ¬ (0x08000000 ≤ a ∧ a < 0x08400000) ∨ op = 1 ∧ a % 16 ≠ 0 then 4
  else if 0x08018000 ≤ a ∧ a < 0x08020000 ∧ (op = 1 ∨ op = 2) then 5
  else if Flash.protectedIn s (Flash.area op a) = true then 6
  else if s.on R.FLASHC_STAT_SUSPENDED = true ∧
      (op ≠ 1 ∨ (Flash.withheld s).1 ≤ a ∧ a < (Flash.withheld s).1 + (Flash.withheld s).2) then 7
  else if op = 1 ∧ (raw = true ∨ ¬ ((s.rdBs a 16).all (fun b => b == 0xFF) = true ∧ a ∉ s.ff L.FL_BAD)) then 8
  else 0

/-- R329: the BUSY bit of an address's bank. -/
def Flash.busyBit (a : Nat) : Fld := if a < 0x08200000 then R.FLASHC_STAT_BUSY0 else R.FLASHC_STAT_BUSY1

/-- The command of an erase code. -/
def Flash.eraseCmd (m : Master) (op : Nat) (a : Word) : Instr :=
  match op with
  | 2 => .erasePage m a
  | 3 => .eraseBlock m a
  | _ => .eraseBank m a

/-- R335: the keys. -/
def Flash.KeyRules (s : State) (m : Master) (v : BitVec 16) : Prop :=
  Taken s m R.FLASHC_KEY →
    (m = .dma → ∃ t, exec (.flashKey m v) s = .next t ∧ Only [] [] s t) ∧
    (m ≠ .dma → s.rd L.FL_SEQ = 0 → v = 0x5A17 → ∃ t, exec (.flashKey m v) s = .next t ∧ t.rd L.FL_SEQ = 1 ∧ t.rd L.FL_SEQM = Flash.code m ∧
      Only [L.FL_SEQ, L.FL_SEQM] [] s t) ∧
    (m ≠ .dma → s.rd L.FL_SEQ = 1 → s.rd L.FL_SEQM = Flash.code m → v = 0xC3E8 → ∃ t, exec (.flashKey m v) s = .next t ∧ t.rd L.FL_SEQ = 2 ∧
      t.rd R.FLASHC_STAT_KEY_OK = 1 ∧ Only [L.FL_SEQ, R.FLASHC_STAT_KEY_OK] [] s t) ∧
    (m ≠ .dma → ¬ (s.rd L.FL_SEQ = 0 ∧ v = 0x5A17) → ¬ (s.rd L.FL_SEQ = 1 ∧ s.rd L.FL_SEQM = Flash.code m ∧ v = 0xC3E8) →
      ∃ t, exec (.flashKey m v) s = .next t ∧ Flash.Discarded s t)

/-- R336, R337, R339: PROGRAM and the erases. -/
def Flash.StartRules (s : State) (m : Master) (a d0 d1 d2 d3 : Word) (raw : Bool) : Prop :=
  let prog := Instr.program m a d0 d1 d2 d3 raw
  (m = .dma → ∀ i ∈ [prog, .erasePage m a, .eraseBlock m a, .eraseBank m a, .setRdp m a, .suspend m, .resume m],
    ∃ t, exec i s = .next t ∧ Only [] [] s t) ∧
  (m ≠ .dma → ¬ Flash.Unlocked s m → ∀ i ∈ [prog, .erasePage m a, .eraseBlock m a, .eraseBank m a, .setRdp m a, .suspend m, .resume m],
    ∃ t, exec i s = .next t ∧ Flash.Discarded s t) ∧
  (m ≠ .dma → Flash.Unlocked s m →
    (∀ op ∈ [2, 3, 4], Flash.check s m op a.toNat false ≠ 0 →
      ∃ t, exec (Flash.eraseCmd m op a) s = .next t ∧ Flash.Ended s t (Flash.check s m op a.toNat false) []) ∧
    (∀ op ∈ [2, 3, 4], Flash.check s m op a.toNat false = 0 → ∃ t, exec (Flash.eraseCmd m op a) s = .next t ∧
      t.rd L.FL_E_OP = op ∧ t.rd L.FL_E_ADDR = a.toNat ∧ t.rd L.FL_E_PULSES = 0 ∧ t.rd L.FL_E_GROUP = 0 ∧ t.rd R.FLASHC_STAT_OP = op ∧
      t.rd (Flash.busyBit a.toNat) = 1 ∧ t.rd L.FL_SEQ = 0 ∧
      Only (Flash.words ++ [L.FL_E_OP, L.FL_E_ADDR, L.FL_E_PULSES, L.FL_E_GROUP, L.FL_E_MAX, L.FL_E_CUT, L.FL_FAIL, R.FLASHC_STAT_OP,
        Flash.busyBit a.toNat] ++ Flash.inflight) [] s t) ∧
    (Flash.check s m 1 a.toNat raw ≠ 0 → ∃ t, exec prog s = .next t ∧ Flash.Ended s t (Flash.check s m 1 a.toNat raw) []) ∧
    (Flash.check s m 1 a.toNat raw = 0 → ∃ t, exec prog s = .next t ∧ t.rd L.FL_P_ON = 1 ∧ t.rd L.FL_P_ADDR = a.toNat ∧
      t.rd L.FL_P_DATA = d0.toNat + 2 ^ 32 * d1.toNat + 2 ^ 64 * d2.toNat + 2 ^ 96 * d3.toNat ∧ t.rd L.FL_P_PULSES = 0 ∧
      t.rd (Flash.busyBit a.toNat) = 1 ∧ t.rd L.FL_SEQ = 0 ∧
      Only (Flash.words ++ [L.FL_P_ON, L.FL_P_ADDR, L.FL_P_DATA, L.FL_P_PULSES, L.FL_P_PAUSE, L.FL_FAIL, R.FLASHC_STAT_OP,
        Flash.busyBit a.toNat] ++ Flash.inflight) [] s t))

/-- R340, R341: SUSPEND, the cut, and RESUME. -/
def Flash.SuspendRules (s : State) (m : Master) : Prop :=
  let warn := s.on R.SYSCTL_SUPPLY_STAT_WARN
  let erasing := s.on L.FL_P_ON = false ∧ s.on L.FL_E_OP = true
  (Taken s m R.FLASHC_CMD_OP → m ≠ .dma → Flash.Unlocked s m →
    (m = .debug → s.rd R.FLASHC_RDP_LEVEL ≠ 0 → ∀ i ∈ [.suspend m, .resume m], ∃ t, exec i s = .next t ∧ Flash.Ended s t 13 []) ∧
    (m = .debug → s.rd R.FLASHC_RDP_LEVEL = 0) →
      (warn = true ∨ s.on L.FL_E_CUT = true → ∃ t, exec (.suspend m) s = .next t ∧ Flash.Ended s t 2 []) ∧
      (warn = false → s.on L.FL_E_CUT = false → ¬ (erasing ∧ s.on R.FLASHC_STAT_SUSPENDED = false) →
        ∃ t, exec (.suspend m) s = .next t ∧ Flash.Ended s t 11 []) ∧
      (warn = false → s.on L.FL_E_CUT = false → erasing → s.on R.FLASHC_STAT_SUSPENDED = false →
        ∃ t, exec (.suspend m) s = .next t ∧ t.rd L.FL_E_CUT = 1 ∧ t.rd L.FL_SEQ = 0 ∧
          Only [L.FL_E_CUT, L.FL_SEQ, R.FLASHC_STAT_KEY_OK] [] s t) ∧
      (warn = true ∨ s.on L.FL_P_ON = true → ∃ t, exec (.resume m) s = .next t ∧ Flash.Ended s t 2 []) ∧
      (warn = false → s.on L.FL_P_ON = false → ¬ (s.on L.FL_E_OP = true ∧ s.on R.FLASHC_STAT_SUSPENDED = true) →
        ∃ t, exec (.resume m) s = .next t ∧ Flash.Ended s t 11 []) ∧
      (warn = false → erasing → s.on R.FLASHC_STAT_SUSPENDED = true → s.rd R.FLASHC_STAT_SUSP_BY = 1 →
        ∃ t, exec (.resume m) s = .next t ∧ t.rd R.FLASHC_STAT_SUSPENDED = 0 ∧ t.rd R.FLASHC_STAT_SUSP_BY = 0 ∧
          t.rd (Flash.busyBit (s.rd L.FL_E_ADDR)) = 1 ∧
          Flash.Ended s t 1 ([R.FLASHC_STAT_SUSPENDED, R.FLASHC_STAT_SUSP_BY, Flash.busyBit (s.rd L.FL_E_ADDR)] ++ Flash.inflight))) ∧
  (s.on L.FL_E_CUT = false → ∃ t, exec .eraseSuspended s = .next t ∧ Only [] [] s t) ∧
  (s.on L.FL_E_CUT = true → ∃ t, exec .eraseSuspended s = .next t ∧ t.rd R.FLASHC_STAT_SUSPENDED = 1 ∧
    t.rd (Flash.busyBit (s.rd L.FL_E_ADDR)) = 0 ∧ t.rd L.FL_E_CUT = 0 ∧ (t.rd R.FLASHC_STAT_SUSP_BY).testBit 0 = true ∧
    t.rd R.FLASHC_STAT_RESULT = 1 ∧ t.rd R.FLASHC_EVT_DONE = 1 ∧
    Only ([R.FLASHC_STAT_SUSPENDED, R.FLASHC_STAT_SUSP_BY, Flash.busyBit (s.rd L.FL_E_ADDR), L.FL_E_CUT, R.FLASHC_STAT_RESULT, R.FLASHC_EVT_DONE] ++
      Flash.inflight) [] s t)

/-- R336, R347, R348: SET_RDP, its result 0 where a level change starts. -/
def Flash.rdpCheck (s : State) (m : Master) (v : Nat) : Nat :=
  let lv := s.rd R.FLASHC_RDP_LEVEL
  if m = .debug ∧ lv = 2 then 13
  else if Flash.busy s = true ∨ s.on R.SYSCTL_SUPPLY_STAT_WARN = true then 2
  else if v < 0x52D00000 ∨ 0x52D00002 < v then 4
  else if s.on R.FLASHC_STAT_SUSPENDED = true then 7
  else if lv = 2 then 12
  else if v = 0x52D00000 + lv then 1
  else 0
def Flash.RdpRules (s : State) (m : Master) (v : Word) : Prop :=
  Taken s m R.FLASHC_CMD_OP → m ≠ .dma → Flash.Unlocked s m →
    (Flash.rdpCheck s m v.toNat ≠ 0 → ∃ t, exec (.setRdp m v) s = .next t ∧ Flash.Ended s t (Flash.rdpCheck s m v.toNat) []) ∧
    (Flash.rdpCheck s m v.toNat = 0 → ∃ t, exec (.setRdp m v) s = .next t ∧ t.rd R.FLASHC_STAT_OP = 7 ∧ t.rd R.FLASHC_STAT_BUSY0 = 1 ∧
      t.rd R.FLASHC_STAT_BUSY1 = 1 ∧ t.rd L.FL_SEQ = 0 ∧
      (v.toNat % 16 = 0 → t.rd R.FLASHC_RDP_LOWERING = 1 ∧ t.rd L.FL_LSTEP = 1) ∧ (v.toNat % 16 ≠ 0 → t.rd L.FL_RDP = v.toNat % 16 + 1) ∧
      Only (Flash.words ++ [R.FLASHC_STAT_OP, R.FLASHC_STAT_BUSY0, R.FLASHC_STAT_BUSY1, R.FLASHC_RDP_LOWERING, L.FL_LSTEP, L.FL_RDP] ++
        Flash.inflight) [] s t)

/-- R335, R336, R337, R339, R340, R341, R343, R347, R348: the commands of the flash. -/
def Obligations.FlashCommands : Prop :=
  ∀ (s : State) (m : Master) (k : BitVec 16) (a d0 d1 d2 d3 : Word) (raw : Bool), NoInjection s →
    Flash.KeyRules s m k ∧ (Taken s m R.FLASHC_CMD_OP → Flash.StartRules s m a d0 d1 d2 d3 raw) ∧ Flash.SuspendRules s m ∧ Flash.RdpRules s m a

/-- Every octet of the bus memories outside an area reads as before, and the Porch's memories are as before. -/
def Flash.Outside (s t : State) (r : Nat × Nat) : Prop :=
  (∀ x, ¬ (r.1 ≤ x ∧ x < r.1 + r.2) → t.rdB x = s.rdB x) ∧ (∀ x, t.rdP x = s.rdP x) ∧ t.porchFw = s.porchFw

/-- R339: what a pulse of an erase covers. -/
def Flash.pulseArea (s : State) : Nat × Nat :=
  let a := s.rd L.FL_E_ADDR
  if s.rd L.FL_E_OP = 4 then ((if a < 0x08200000 then 0x08000000 else 0x08200000) + s.rd L.FL_E_GROUP * 0x80000, 0x80000) else Flash.area (s.rd L.FL_E_OP) a

/-- R339, R340, R341: the pulses. -/
def Flash.PulseRules (s : State) (ok : Bool) : Prop :=
  let go := s.domOn 11 = true ∧ s.islOn 9 = true
  let verified := ok = true ∧ s.on L.FL_FAIL = false
  let n := s.rd L.FL_P_PULSES + 1
  let e := s.rd L.FL_E_PULSES + 1
  let a := s.rd L.FL_P_ADDR
  let r := Flash.pulseArea s
  let erasing := s.on L.FL_P_ON = false ∧ s.on L.FL_E_OP = true ∧ s.on R.FLASHC_STAT_SUSPENDED = false
  let most := max e (s.rd L.FL_E_MAX)
  (¬ go ∨ s.on L.FL_P_ON = true ∧ s.on L.FL_P_PAUSE = true ∨ s.on L.FL_P_ON = false ∧ ¬ erasing →
    ∃ t, exec (.flashPulseDone ok) s = .next t ∧ Only [] [] s t) ∧
  (go → s.on L.FL_P_ON = true → s.on L.FL_P_PAUSE = false →
    (verified → ∃ t, exec (.flashPulseDone ok) s = .next t ∧ t.rdBs a 16 = leBytes 16 (s.rd L.FL_P_DATA) ∧ Flash.Outside s t (a, 16) ∧
      t.rd L.FL_P_ON = 0 ∧ t.rd (Flash.busyBit a) = 0 ∧ t.rd R.FLASHC_STAT_RESULT = 1 ∧ t.rd R.FLASHC_EVT_DONE = 1 ∧
      t.rd R.FLASHC_PGM_PULSES_LAST = n ∧ t.rd R.FLASHC_PGM_PULSES_MAX = max n (s.rd R.FLASHC_PGM_PULSES_MAX) ∧ ListsKept s t) ∧
    (¬ verified → n < 8 → ∃ t, exec (.flashPulseDone ok) s = .next t ∧ t.rd L.FL_P_PULSES = n ∧ t.rd L.FL_P_ON = s.rd L.FL_P_ON ∧
      t.rd L.FL_P_PAUSE = s.rd R.SYSCTL_SUPPLY_STAT_WARN ∧ MemKept s t ∧ ListsKept s t) ∧
    (¬ verified → 8 ≤ n → ∃ t, exec (.flashPulseDone ok) s = .next t ∧ t.rd L.FL_P_ON = 0 ∧ t.rd (Flash.busyBit a) = 0 ∧
      t.rd R.FLASHC_STAT_RESULT = 9 ∧ t.rd R.FLASHC_EVT_ERR = 1 ∧ t.rd R.FLASHC_PGM_PULSES_LAST = n ∧ Flash.Outside s t (a, 16) ∧ ListsKept s t)) ∧
  (go → erasing → 2 ≤ s.rd L.FL_E_OP → s.rd L.FL_E_OP ≤ 4 → s.rd L.FL_E_GROUP < 4 → 0x08000000 ≤ s.rd L.FL_E_ADDR → s.rd L.FL_E_ADDR < 0x08400000 →
    (verified → s.rd L.FL_E_OP ≠ 4 ∨ s.rd L.FL_E_GROUP = 3 → ∃ t, exec (.flashPulseDone ok) s = .next t ∧
      (∀ x, r.1 ≤ x → x < r.1 + r.2 → t.rdB x = 0xFF) ∧ Flash.Outside s t r ∧ t.rd L.FL_E_OP = 0 ∧ t.rd (Flash.busyBit (s.rd L.FL_E_ADDR)) = 0 ∧
      t.rd R.FLASHC_ERS_PULSES_LAST = most ∧ t.rd R.FLASHC_ERS_PULSES_MAX = max most (s.rd R.FLASHC_ERS_PULSES_MAX) ∧
      t.rd R.FLASHC_STAT_RESULT = (if s.on L.FL_E_CUT then 11 else 1) ∧ ListsKept s t) ∧
    (verified → s.rd L.FL_E_OP = 4 → s.rd L.FL_E_GROUP < 3 → ∃ t, exec (.flashPulseDone ok) s = .next t ∧
      (∀ x, r.1 ≤ x → x < r.1 + r.2 → t.rdB x = 0xFF) ∧ Flash.Outside s t r ∧ t.rd L.FL_E_GROUP = s.rd L.FL_E_GROUP + 1 ∧ t.rd L.FL_E_PULSES = 0 ∧
      t.rd L.FL_E_MAX = most ∧ t.rd L.FL_E_OP = 4 ∧ ListsKept s t) ∧
    (¬ verified → e < 16 → ∃ t, exec (.flashPulseDone ok) s = .next t ∧ t.rd L.FL_E_PULSES = e ∧ t.rd L.FL_E_OP = s.rd L.FL_E_OP ∧
      MemKept s t ∧ ListsKept s t) ∧
    (¬ verified → 16 ≤ e → ∃ t, exec (.flashPulseDone ok) s = .next t ∧ t.rd L.FL_E_OP = 0 ∧ Flash.Outside s t r ∧
      t.rd R.FLASHC_STAT_RESULT = (if s.on L.FL_E_CUT then 11 else 10) ∧ t.rd R.FLASHC_EVT_ERR = 1 ∧ ListsKept s t))

/-- R324: the lowering's write of a Porch page is at a step, which runs. -/
def Flash.Lowers (t : State) (step page : Nat) : Prop :=
  t.rd L.PW_STEP = step ∧ t.rd L.PW_RUN = 1 ∧ t.rd L.PW_WHO = 5 ∧ t.rd L.PW_TGT = page ∧ t.rd L.PW_DATA = 0

/-- R324, R348: the Porch pages of the lowering: each ends with its COMMIT cleared and is followed by the next, up to page 253, then the
shadow payload and the shadow header are programmed directly. -/
def Flash.PageRules (s : State) (fail : Bool) : Prop :=
  let p := s.rd L.PW_TGT
  let fixed (t : State) : Prop := (∀ x, t.rdB x = s.rdB x) ∧ t.porchFw = s.porchFw ∧ ListsKept s t
  s.on R.FLASHC_RDP_LOWERING = true → s.rd L.FL_LSTEP = 3 → s.on L.P_UP = true → s.rd L.PF_BUSY = 0 → s.on R.SYSCTL_SUPPLY_STAT_WARN = false →
    s.on L.PW_RUN = true → s.rd L.PW_WHO = 5 → s.rd L.PW_DATA = 0 →
    (s.rd L.PW_STEP = 5 → 2 ≤ p → p ≤ 253 → ∃ t, exec (.pageWriteStepDone fail) s = .next t ∧ t.rd L.PL_NEXT = p + 1 ∧
      Flash.Lowers t (if p < 253 then 1 else 6) (p + 1) ∧ t.rdP (shadowHdr + 10) = 0 ∧ (∀ x, x ≠ shadowHdr + 10 → t.rdP x = s.rdP x) ∧ fixed t) ∧
    (s.rd L.PW_STEP = 6 → p = 254 → ∃ t, exec (.pageWriteStepDone fail) s = .next t ∧ t.rd L.PL_NEXT = 255 ∧ Flash.Lowers t 7 255 ∧
      (∀ x, t.rdP x = if 254 * 64 ≤ x ∧ x < 255 * 64 then 0 else s.rdP x) ∧ fixed t) ∧
    (s.rd L.PW_STEP = 7 → p = 255 → ∃ t, exec (.pageWriteStepDone fail) s = .next t ∧ t.rd L.PL_NEXT = 256 ∧ t.rd L.PW_STEP = 0 ∧
      t.rd R.PORCH_SEQ = 0 ∧ (∀ x, t.rdP x = if 255 * 64 ≤ x ∧ x < 256 * 64 then 0 else s.rdP x) ∧ fixed t)

/-- R347, R348: a level change and the lowering sequence. -/
def Flash.LevelRules (s : State) : Prop :=
  let warn := s.on R.SYSCTL_SUPPLY_STAT_WARN
  let low := s.on R.FLASHC_RDP_LOWERING = true ∧ warn = false ∧ s.rd L.RST_HELD = 0
  let k := s.rd L.FL_LSTEP
  (s.rd L.FL_RDP = 0 ∨ warn = true → ∃ t, exec .setRdpDone s = .next t ∧ Only [] [] s t) ∧
  (s.rd L.FL_RDP = 2 → warn = false → ∃ t, exec .setRdpDone s = .next t ∧ t.rd R.FLASHC_RDP_LEVEL = 1 ∧ t.rd L.FL_RDP = 0 ∧
    t.rd R.FLASHC_STAT_RESULT = 1 ∧ t.rd R.FLASHC_EVT_DONE = 1 ∧ t.rd R.FLASHC_STAT_BUSY0 = 0 ∧ t.rd R.FLASHC_STAT_BUSY1 = 0 ∧
    Only [R.FLASHC_RDP_LEVEL, L.FL_RDP, R.FLASHC_STAT_OP, R.FLASHC_STAT_BUSY0, R.FLASHC_STAT_BUSY1, R.FLASHC_STAT_RESULT, R.FLASHC_EVT_DONE,
      R.FAULT_INFLIGHT_OP 0] [] s t) ∧
  (s.rd L.FL_RDP = 3 → warn = false → ∃ t, exec .setRdpDone s = .next t ∧ t.rd R.FLASHC_RDP_LEVEL = 2 ∧ t.rd L.FL_RDP = 0) ∧
  (¬ low → ∃ t, exec .rdpLoweringStepDone s = .next t ∧ Only [] [] s t) ∧
  (low → k ≤ 1 → ∃ t, exec .rdpLoweringStepDone s = .next t ∧ t.rd L.FL_LSTEP = 2 ∧
    (∀ n < 16, s.rd (L.OTP_STATE n) = 1 → s.rd (L.OTP_REV n) = 0 → t.rd (L.OTP_REV n) = 15 ∧ t.rd (R.KEYS_SLOT_STATE n) = 2) ∧
    (∀ n < 16, s.rd (L.OTP_STATE n) ≠ 1 → t.rd (L.OTP_REV n) = s.rd (L.OTP_REV n) ∧ t.rd (R.KEYS_SLOT_STATE n) = s.rd (R.KEYS_SLOT_STATE n)) ∧
    ((∀ q < 5, s.chRun q = false) → MemKept s t ∧ ListsKept s t)) ∧
  (low → k = 2 → ∃ t, exec .rdpLoweringStepDone s = .next t ∧ t.rd L.FL_LSTEP = 3 ∧ (∀ x, 0x20000000 ≤ x → x < 0x20168000 → t.rdB x = 0) ∧
    (∀ n < 256, t.rd (L.IV n) = 0) ∧ t.domOn 2 = true ∧ t.islOn 8 = true ∧ t.rd L.PL_NEXT = 2 ∧
    (s.on L.P_UP = true → s.rd L.PW_STEP = 0 → s.rd L.PF_BUSY = 0 → Flash.Lowers t 1 2) ∧
    Flash.Outside s t (0x20000000, 0x168000) ∧ ListsKept s t) ∧
  (low → k = 3 → s.rd L.PL_NEXT < 256 → ∃ t, exec .rdpLoweringStepDone s = .next t ∧ Only [] [] s t) ∧
  (low → k = 3 → 256 ≤ s.rd L.PL_NEXT → ∃ t, exec .rdpLoweringStepDone s = .next t ∧ t.rd L.FL_LSTEP = 4 ∧ Only [L.FL_LSTEP] [] s t) ∧
  (low → k = 4 → ∃ t, exec .rdpLoweringStepDone s = .next t ∧ t.rd L.FL_LSTEP = 5 ∧ (∀ x, 0x08000000 ≤ x → x < 0x08400000 → t.rdB x = 0xFF) ∧
    Flash.Outside s t (0x08000000, 0x400000) ∧ ListsKept s t) ∧
  (low → 5 ≤ k → ∃ t, exec .rdpLoweringStepDone s = .next t ∧ t.rd R.FLASHC_RDP_LEVEL = 0 ∧ t.rd R.FLASHC_RDP_LOWERING = 0)

/-- R37: an instruction may be fetched from a flash address. -/
def Flash.fetchable (a : Nat) : Prop := a < 0x08010000 ∨ 0x08020000 ≤ a ∧ a < 0x083E0000

/-- R32, R42, R346: a master may read the array, by a fetch (`fetch`) or a data access. -/
def Flash.Readable (s : State) (m : Master) (fetch : Bool) (a : Nat) : Prop :=
  0x08000000 ≤ a ∧ a < 0x08400000 ∧ (m = .app ∨ m = .dma ∨ m = .debug) ∧ (m = .debug → s.rd R.FLASHC_RDP_LEVEL = 0) ∧
    s.allowed m a (if fetch then .fetch else .load) = true ∧ (fetch = true → m = .app ∧ Flash.fetchable a)

/-- R332: RDSTAT. -/
def Flash.rdstat : List Fld := [R.FLASHC_RDSTAT_ERRCNT, R.FLASHC_RDSTAT_STATUS_READ, R.FLASHC_RDSTAT_SUSP_HIT, R.FLASHC_RDSTAT_UNCORR]
def Flash.Rdstat (t : State) (n st su un : Nat) : Prop :=
  t.rd R.FLASHC_RDSTAT_ERRCNT = n ∧ t.rd R.FLASHC_RDSTAT_STATUS_READ = st ∧ t.rd R.FLASHC_RDSTAT_SUSP_HIT = su ∧ t.rd R.FLASHC_RDSTAT_UNCORR = un

/-- R30, R332 to R334, R338, R340: reads of the array. -/
def Flash.ReadRules (s : State) (m : Master) (kind : ReadKind) (addr : Word) (size : Size) (wrong : BitVec 2) : Prop :=
  let a := addr.toNat
  let w := a / 16 * 16
  let bits := if w ∈ s.ff L.FL_BAD then 3 else wrong.toNat
  let read := Instr.flashRead m kind addr size wrong
  let fetch := kind != .data
  let ics := if fetch then (List.range 256).map L.ICACHE else []
  let reads := Flash.Readable s m fetch a ∧ a % size.bytes = 0
  let miss := kind = .data ∨ kind = .fenced ∨ s.icHit a = none
  let on := s.domOn 11 = true ∧ s.islOn 9 = true ∧ s.crossHeld m 9 = false
  let idle := s.rd (Flash.busyBit a) = 0 ∧ (s.rd L.FL_E_OP = 0 ∨ s.on R.FLASHC_STAT_SUSPENDED = false)
  let data := m = .app ∧ fetch = false
  (¬ Flash.Readable s m fetch a → ∃ t, exec read s = .next t ∧ t.resp = .error ∧ Only [] [] s t) ∧
  (Flash.Readable s m fetch a → a % size.bytes ≠ 0 → exec read s = .next (s.misalign m false)) ∧
  (reads → miss → s.clockWait 11 9 = true ∨ (s.domOn 11 = true ∧ s.islOn 9 = true ∧ s.crossHeld m 9 = true) →
    ∃ t, exec read s = .next t ∧ t.resp = .waiting ∧ Only [] ics s t) ∧
  (reads → miss → s.domOn 11 = false ∨ s.islOn 9 = false → s.clockWait 11 9 = false → ∃ t, exec read s = .next t ∧ t.resp = .error ∧ MemKept s t) ∧
  (∀ c, reads → kind = .fetch → s.icHit a = some c →
    ∃ t, exec read s = .next t ∧ t.resp = .data (c / 256 ^ (a % 32) % 256 ^ size.bytes) ∧ Only [] [] s t) ∧
  (reads → miss → on →
    (idle → bits = 0 → ∃ t, exec read s = .next t ∧ t.resp = .data (s.rdLe a size.bytes) ∧ (data → Flash.Rdstat t 0 0 0 0 ∧ Only Flash.rdstat [] s t) ∧
      (¬ data → Only [] ics s t) ∧ (fetch = true → t.icHit a = some (s.rdLe (a / 32 * 32) 32))) ∧
    (idle → 1 ≤ bits → bits ≤ 2 → ∃ t, exec read s = .next t ∧ t.resp = .data (s.rdLe a size.bytes) ∧ (data → Flash.Rdstat t bits 0 0 0) ∧
      (s.rd R.FLASHC_ERR_THRESH ≤ bits → t.rd R.FLASHC_EVT_WEAR = 1) ∧ MemKept s t ∧ ListsKept s t) ∧
    (idle → bits = 3 → ∃ t, exec read s = .next t ∧ t.resp = .error ∧ (data → Flash.Rdstat t 0 0 0 1) ∧ t.rd R.FLASHC_EVT_UNCORR = 1 ∧
      (s.on R.FLASHC_ECC_LOG_VALID = false → t.rd R.FLASHC_ECC_LOG_VALID = 1 ∧ t.rd R.FLASHC_ECC_LOG_ADDR = w ∧ t.rd R.FLASHC_ECC_LOG_UNCORR = 1) ∧
      MemKept s t ∧ ListsKept s t) ∧
    (s.on (Flash.busyBit a) = true → fetch = true → s.rd L.FL_E_OP = 0 →
      ∃ t, exec read s = .next t ∧ t.resp = .error ∧ t.rd R.FLASHC_EVT_FETCH_BUSY = 1 ∧ Only [R.FLASHC_EVT_FETCH_BUSY] ics s t) ∧
    (s.on (Flash.busyBit a) = true → fetch = false → s.rd L.FL_E_OP = 0 → s.on L.FL_P_ON = true → Flash.busyBit (s.rd L.FL_P_ADDR) = Flash.busyBit a →
      s.rd L.FL_RDP = 0 → s.on R.FLASHC_RDP_LOWERING = false → s.rd L.FL_ENG = 0 → 0x08000000 ≤ s.rd L.FL_P_ADDR → s.rd L.FL_P_ADDR < 0x08400000 →
      ∃ t, exec read s = .next t ∧
        t.resp = .data ((0xF1A51000 + s.rd L.FL_P_ADDR % 0x200000 / 0x1000) / 256 ^ (a % 4) % 256 ^ size.bytes) ∧
        (data → Flash.Rdstat t 0 1 0 0 ∧ Only Flash.rdstat [] s t) ∧ (¬ data → Only [] [] s t)))

/-- R349: the pulse counts cleared. -/
def Flash.ClearRules (s : State) (m : Master) : Prop :=
  (Taken s m R.FLASHC_PGM_PULSES_CLEAR → s.rd L.FL_SEQ = 0 → ∃ t, exec (.pgmPulsesClear m) s = .next t ∧ t.rd R.FLASHC_PGM_PULSES_MAX = 0 ∧
    Only [R.FLASHC_PGM_PULSES_MAX] [] s t) ∧
  (Taken s m R.FLASHC_ERS_PULSES_CLEAR → s.rd L.FL_SEQ = 0 → ∃ t, exec (.ersPulsesClear m) s = .next t ∧ t.rd R.FLASHC_ERS_PULSES_MAX = 0 ∧
    Only [R.FLASHC_ERS_PULSES_MAX] [] s t)

/-- R30, R331 to R334, R337 to R341, R347 to R349: what the array does. -/
def Obligations.FlashArray : Prop :=
  ∀ (s : State) (m : Master) (ok : Bool) (kind : ReadKind) (a : Word) (size : Size) (wrong : BitVec 2), Calm s →
    Flash.PulseRules s ok ∧ Flash.LevelRules s ∧ Flash.PageRules s ok ∧ Flash.ReadRules s m kind a size wrong ∧ Flash.ClearRules s m

/-- R359: the core that calls the loader's functions runs, and the flash with it. -/
abbrev Attic.Runs (s : State) : Prop :=
  s.domOn 5 = true ∧ s.islOn 2 = true ∧ s.online 20 = true ∧ s.on L.CORE_STOP = false ∧ s.on L.FP_LOADING = false ∧ s.on L.TEST_HOLD = false

/-- R284: a call's write in the array is under way, so that its caller waits for it. -/
abbrev Attic.Calling (s : State) : Prop := 1 ≤ s.rd L.AC_ON ∧ s.rd L.AC_ON < 5

/-- R359: the loader's functions can be called. -/
abbrev Attic.Callable (s : State) : Prop := Attic.Runs s ∧ ¬ Attic.Calling s

/-- R284, R338: a write of a call or of the engine has started in the array: its code, its page or address, its octets and whether it
will verify; its bank is busy, and no octet of memory has changed. -/
def Attic.Writing (s t : State) (code arg at' : Nat) (ok : Bool) (l : List Byte) (fs : List Fld) : Prop :=
  t.rd L.AC_ON = code ∧ t.rd L.AC_ARG = arg ∧ t.rd L.AC_OK = (if ok then 1 else 0) ∧ t.ff L.AC_BUF = l.map BitVec.toNat ∧ t.rd L.FL_ENG = 1 ∧
    t.rd L.FL_ENGA = at' ∧ t.rd (Flash.busyBit at') = 1 ∧
    Only ([L.AC_ON, L.AC_ARG, L.AC_OK, L.FL_ENG, L.FL_ENGA, Flash.busyBit at'] ++ fs) [L.AC_BUF] s t

/-- A call has started its write: the caller waits for the status. -/
def Attic.Starts (i : Instr) (s : State) (code arg at' : Nat) (ok : Bool) (l : List Byte) (fs : List Fld) : Prop :=
  ∃ t, exec i s = .next t ∧ t.resp = .waiting ∧ Attic.Writing s t code arg at' ok l fs

/-- A call answers a status, with no octet of memory and no list changed. -/
def Attic.Refuses (i : Instr) (s : State) (status : Nat) : Prop :=
  ∃ t, exec i s = .next t ∧ t.resp = .data status ∧ MemKept s t ∧ ListsKept s t

/-- The array takes a write, and cipher channel 2 a job. -/
abbrev Attic.Free (s : State) : Prop :=
  Flash.busy s = false ∧ s.on R.FLASHC_STAT_SUSPENDED = false ∧ s.on R.SYSCTL_SUPPLY_STAT_WARN = false
abbrev Attic.Cipher (s : State) : Prop := s.online 13 = true ∧ s.on R.CIPHER_STAT_READY = true ∧ s.chRun 2 = false

/-- R360: the reason a refusal names: the lowest in force. -/
def Attic.reason (s : State) : Nat :=
  if s.on R.ATTIC_STAT_OWNER_LOCK then 1 else if s.on L.AT_BAD then 2 else if s.on R.ATTIC_STAT_MOVING then 3 else if s.on R.ATTIC_STAT_LOWBAT then 4 else 0

/-- The flags that the four reasons stand in hold one bit each. -/
abbrev Attic.Bits (s : State) : Prop :=
  s.rd R.ATTIC_STAT_OWNER_LOCK < 2 ∧ s.rd L.AT_BAD < 2 ∧ s.rd R.ATTIC_STAT_MOVING < 2 ∧ s.rd R.ATTIC_STAT_LOWBAT < 2

/-- R354, R359, R363: attic_begin. -/
def Attic.BeginRules (s : State) (hdr : Word) (ok : Bool) : Prop :=
  let call := Instr.atticBegin hdr ok
  let h := s.rdBs hdr.toNat (pkgLen (s.rdLe (hdr.toNat + 6) 1 % 8))
  let open' := s.rd R.ATTIC_STAT_PHASE < 2 ∧ Attic.Cipher s ∧ Attic.Free s
  (¬ open' → Attic.Refuses call s 7) ∧
  (open' → pkgOk h = false → Attic.Refuses call s 2) ∧
  (open' → pkgOk h = true → s.slotAllowed (pkgSlot h) 3 = false → Attic.Refuses call s 4) ∧
  (open' → pkgOk h = true → s.slotAllowed (pkgSlot h) 3 = true →
    (s.pkgTagOk h = false → Attic.Refuses call s 3) ∧
    (s.pkgTagOk h = true → s.atOrder h = none → Attic.Refuses call s 1) ∧
    (s.pkgTagOk h = true → s.on R.ATTIC_STAT_OWNER_LOCK = true → Attic.Refuses call s 1) ∧
    (s.pkgTagOk h = true → s.atOrder h ≠ none → (s.wr L.AT_BAD 0).atReasons = 0 →
      ((s.atPkg.any fun p => pkgId p == pkgId h) = true → ∃ t, exec call s = .next t ∧ t.resp = .data 0 ∧ t.rd R.ATTIC_STAT_PHASE = 1 ∧
        t.rd L.AT_BAD = 0 ∧ Only [R.ATTIC_STAT_PHASE, L.AT_BAD] [] s t) ∧
      ((s.atPkg.any fun p => pkgId p == pkgId h) = false → Attic.Starts call s 1 0 0x08200000 ok h [L.AT_BAD])))

/-- R356, R359: attic_stage. -/
def Attic.StageRules (s : State) (p : BitVec 9) (src : Word) (len : BitVec 13) (ok : Bool) : Prop :=
  let call := Instr.atticStage p src len ok
  let n := len.toNat
  let open' := Attic.Cipher s ∧ Attic.Free s ∧ (0x20100000 ≤ src.toNat → src.toNat < 0x20140000 → s.overShare ownApp 0 = false)
  (¬ open' → Attic.Refuses call s 7) ∧
  (open' → s.atPkg = none → Attic.Refuses call s 2) ∧
  ∀ h, s.atPkg = some h → open' →
    (pkgChunk h p.toNat = none → Attic.Refuses call s 2) ∧
    ∀ c, pkgChunk h p.toNat = some c →
      (n ≠ min 4096 (compLen c - 4096 * (p.toNat - compPage c)) ∨ 2 ≤ s.rd R.ATTIC_STAT_PHASE → Attic.Refuses call s 2) ∧
      (n = min 4096 (compLen c - 4096 * (p.toNat - compPage c)) → s.rd R.ATTIC_STAT_PHASE < 2 →
        (s.slotAllowed (pkgSlot h) 3 = false → Attic.Refuses call s 4) ∧
        (s.slotAllowed (pkgSlot h) 3 = true →
          let key := s.pkgKey h
          let iv := pkgNonce h ++ beBytes 4 p.toNat
          let ct := s.rdBs src.toNat n
          let tagged := gcmTag key iv (leBytes 4 (pkgId h) ++ leBytes 4 p.toNat) ct 16 = s.rdBs (src.toNat + n) 16
          (¬ tagged → Attic.Refuses call s 3) ∧
          (tagged → s.atReasons ≠ 0 → Attic.Bits s → ∃ t, exec call s = .next t ∧ t.resp = .data 1 ∧
            t.rd R.ATTIC_REFUSE_REASON_REASON = Attic.reason s ∧ t.rd R.ATTIC_EVT_REFUSED = 1 ∧
            Only [R.ATTIC_REFUSE_REASON_REASON, R.ATTIC_EVT_REFUSED, R.ATTIC_REFUSE_CNT] [] s t) ∧
          (tagged → s.atReasons = 0 → Attic.Starts call s 2 p.toNat (0x08200000 + 0x1000 * p.toNat) ok (gcmCrypt key iv ct) [])))

/-- R363, R365, R372: attic_install. -/
def Attic.InstallRules (s : State) (handoff : Word) : Prop :=
  let call := Instr.atticInstall handoff
  (s.atPkg = none → Attic.Refuses call s 5) ∧
  ∀ h, s.atPkg = some h →
    let staged := ∀ c ∈ pkgComps h, ∃ r ∈ s.atStageRecs, r.typ = 3 ∧ r.comp = compCode c
    (s.on L.AT_PC = true ∨ ¬ Attic.Free s → Attic.Refuses call s 7) ∧
    (s.on L.AT_PC = false → Attic.Free s →
      (¬ staged → Attic.Refuses call s 5) ∧
      (staged → s.handoffOk handoff.toNat h = false → Attic.Refuses call s 8) ∧
      (staged → s.handoffOk handoff.toNat h = true →
        (s.atReasons ≠ 0 ∨ s.atOrder h = none → Attic.Refuses call s 1) ∧
        ∀ ord, s.atReasons = 0 → s.atOrder h = some ord → ∃ t, exec call s = .next t ∧ t.resp = .data 0 ∧ t.ff L.AT_ORD = ord ∧
          t.rd R.ATTIC_STAT_PHASE = 2 ∧ t.rd R.ATTIC_STAT_FLASH_HOLD = 0 ∧ t.rd L.AT_PC = 1 ∧ t.rd L.AT_I = 0 ∧
          Only [R.ATTIC_STAT_PHASE, R.ATTIC_STAT_FLASH_HOLD, L.AT_PC, L.AT_NEXT, L.AT_I, L.AT_COLD, L.AT_FROM, L.AW_ON, L.AW_FAILS, L.AW_RPT]
            [L.AT_ORD] s t))

/-- R359, R362, R370: attic_status, attic_owner_lock, attic_link_load and attic_abandon. -/
def Attic.OtherRules (s : State) (a : Word) (ok : Bool) : Prop :=
  let c := s.rdBs a.toNat 32
  let op := hdrAt c 4 1
  let slot := hdrAt c 5 1 % 16
  let uid := s.rdPs 0 7
  let lockKey := kdfStage (s.rootKey slot) 1 ([0x4F, 0x57, 0x4E, 0x45, 0x52, 0x4C, 0x4F, 0x43, 0x4B] ++ uid) false
  let good := hdrAt c 0 4 = 0x4B434C4F ∧ (op = 1 ∨ op = 2)
  let signed := cmac lockKey (c.take 16 ++ uid ++ [0]) = (c.drop 16).take 16
  let began := ∃ r ∈ s.atSession, ∃ h, s.atPkg = some h ∧ r.typ = 0x11 ∧ r.arg = pkgId h
  (0x20000000 ≤ a.toNat → a.toNat + 20 ≤ 0x20100000 → ∃ t, exec (.atticStatus a) s = .next t ∧ t.resp = .data 0 ∧
    t.rdLe a.toNat 4 = s.rd R.ATTIC_STAT_PHASE % 2 ^ 32 ∧ t.rdLe (a.toNat + 12) 4 = s.atReasons % 2 ^ 32 ∧ Flash.Outside s t (a.toNat, 20) ∧
    RegsBut [] s t) ∧
  (¬ (Attic.Cipher s ∧ Attic.Free s) → Attic.Refuses (.atticOwnerLock a ok) s 7) ∧
  (Attic.Cipher s → Attic.Free s →
    (¬ good → Attic.Refuses (.atticOwnerLock a ok) s 2) ∧
    (good → s.slotAllowed slot 3 = false → Attic.Refuses (.atticOwnerLock a ok) s 4) ∧
    (good → s.slotAllowed slot 3 = true → ¬ signed → Attic.Refuses (.atticOwnerLock a ok) s 3) ∧
    (good → s.slotAllowed slot 3 = true → signed → ∀ r, s.lockLatest = some r → hdrAt c 8 4 ≤ r.arg → Attic.Refuses (.atticOwnerLock a ok) s 1) ∧
    (good → s.slotAllowed slot 3 = true → signed → (∀ r, s.lockLatest = some r → r.arg < hdrAt c 8 4) →
      Attic.Starts (.atticOwnerLock a ok) s 4 0 0x083F1000 ok c [])) ∧
  (s.online 10 = false ∨ s.rd R.LINK_MC_STAT_ACTIVE = 1 ∨ s.mcBusy = true → Attic.Refuses .atticLinkLoad s 7) ∧
  (s.online 10 = true → s.rd R.LINK_MC_STAT_ACTIVE ≠ 1 → s.mcBusy = false → ∃ t, exec .atticLinkLoad s = .next t ∧ t.resp = .data 0 ∧
    t.rd R.LINK_STAT_CHECKING = 1 ∧ t.rd L.MC_TGT = 0 ∧ RegsBut [R.LINK_STAT_CHECKING, L.MC_TGT] s t) ∧
  (2 ≤ s.rd R.ATTIC_STAT_PHASE ∨ began → Attic.Refuses (.atticAbandon ok) s 1) ∧
  (s.rd R.ATTIC_STAT_PHASE < 2 → ¬ began →
    (¬ Attic.Free s → Attic.Refuses (.atticAbandon ok) s 7) ∧
    (Attic.Free s → Attic.Starts (.atticAbandon ok) s 3 0 0x083FC000 ok [] []))

/-- The array has ended its write, and nothing else runs in it. -/
def Attic.Idle (t : State) (at' : Nat) : Prop := t.rd L.AC_ON = 0 ∧ t.rd L.FL_ENG = 0 ∧ t.rd (Flash.busyBit at') = 0

/-- R356, R359, R362 to R364: the write of a call ends at a tick (State.attTick, which step runs on an empty queue): the call answers its
status; a write whose verify failed answers 6, its area left open. -/
def Attic.EndRules (s : State) : Prop :=
  let t := s.attTick
  let code := s.rd L.AC_ON
  let l := (s.ff L.AC_BUF).map (BitVec.ofNat 8)
  let array := s.domOn 11 = true ∧ s.islOn 9 = true ∧ s.on R.SYSCTL_SUPPLY_STAT_WARN = false
  let core := s.domOn 5 = true ∧ s.islOn 2 = true ∧ s.on L.CORE_STOP = false ∧ s.on L.DBG_HALT = false
  let quiet := Attic.Free (s.wr L.FL_ENG 0)
  let ok := s.on L.AC_OK = true
  let p := s.rd L.AC_ARG
  let page := 0x08200000 + 0x1000 * p
  let log := 0x083FC000 + 16 * s.atEnd 0x083FC000 1024
  let failed (r : Nat × Nat) : Prop := t.resp = .data 6 ∧ t.rd R.FLASHC_STAT_RESULT = 9 ∧ t.rd R.FLASHC_EVT_ERR = 1 ∧ Flash.Outside s t r
  (1 ≤ code → ¬ array ∨ code < 5 ∧ ¬ core → t = s) ∧
  (array → core → quiet → l.length ≤ 4096 → 1 ≤ code → code < 5 → Attic.Idle t (s.rd L.FL_ENGA) ∧
    (code = 1 → ¬ ok → failed (0x08200000, 0x1000)) ∧
    (code = 1 → ok → t.resp = .data 0 ∧ t.rd R.ATTIC_STAT_PHASE = 1 ∧ t.rdBs 0x08200000 l.length = l ∧ t.rd R.ATTIC_S_WP_INDEX = 1 ∧
      t.rdB 0x083FC000 = 1 ∧ t.rdLe 0x083FC008 4 = pkgId l ∧
      ∀ x, ¬ (0x08200000 ≤ x ∧ x < 0x08201000) → ¬ (0x083FC000 ≤ x ∧ x < 0x08400000) → t.rdB x = s.rdB x) ∧
    (∀ h c, code = 2 → s.atPkg = some h → pkgChunk h p = some c → ¬ ok → failed (page, 0x1000)) ∧
    (∀ h c, code = 2 → s.atPkg = some h → pkgChunk h p = some c → ok → 1 ≤ l.length → 1 ≤ p → p < 480 → s.atEnd 0x083FC000 1024 < 1023 →
      s.flErased (log + 16) = true →
      (t.resp = .data 0 ∨ t.resp = .data 2) ∧ t.rdBs page l.length = l ∧ t.rdB log = 2 ∧
      ∀ x, ¬ (page ≤ x ∧ x < page + 0x1000) → ¬ (0x083FC000 ≤ x ∧ x < 0x08400000) → t.rdB x = s.rdB x) ∧
    (code = 3 → ¬ ok → failed (0x083FC000, 0x1000)) ∧
    (code = 3 → ok → t.resp = .data 0 ∧ (∀ x, 0x083FC000 ≤ x → x < 0x08400000 → t.rdB x = 0xFF) ∧ Flash.Outside s t (0x083FC000, 0x4000) ∧
      t.rd R.ATTIC_STAT_PHASE = 0 ∧ t.rd R.ATTIC_S_WP_INDEX = 0 ∧
      RegsBut [R.ATTIC_STAT_PHASE, R.ATTIC_S_WP_INDEX, L.AT_BAD, L.AC_ON, L.FL_ENG, Flash.busyBit (s.rd L.FL_ENGA)] s t) ∧
    (code = 4 → ¬ ok → failed (0x083F1000, 0x2000)) ∧
    (code = 4 → ok → t.resp = .data 0 ∧ t.rd R.ATTIC_STAT_OWNER_LOCK = (if hdrAt l 4 1 = 1 then 1 else 0) ∧
      Flash.Outside s t (0x083F1000, 0x2000)))

/-- R354, R356, R359, R360, R362, R363, R365, R370, R372: the loader's calls. -/
def Obligations.AtticCalls : Prop :=
  ∀ (s : State) (a : Word) (p : BitVec 9) (len : BitVec 13) (ok : Bool), Calm s →
    let calls : List Instr :=
      [.atticBegin a ok, .atticStage p a len ok, .atticInstall a, .atticStatus a, .atticOwnerLock a ok, .atticLinkLoad, .atticAbandon ok]
    (¬ Attic.Runs s → ∀ i ∈ calls, ∃ t, exec i s = .next t ∧ t.resp = .error ∧ Only [] [] s t) ∧
    (Attic.Runs s → Attic.Calling s → ∀ i ∈ calls, ∃ t, exec i s = .next t ∧ t.resp = .waiting ∧ Only [] [] s t) ∧
    (Attic.Callable s → Attic.BeginRules s a ok ∧ Attic.StageRules s p a len ok ∧ Attic.InstallRules s a ∧ Attic.OtherRules s a ok) ∧
    Attic.EndRules s

/-- A command of the engine is taken. -/
abbrev Attic.Taking (s : State) (m : Master) : Prop :=
  Taken s m R.ATTIC_CMD_OP ∧ m = .app ∧ s.on R.ATTIC_CMD_STAT_BUSY = false

/-- R375: a command has ended with a result. -/
def Attic.Result (t : State) (r : Nat) : Prop :=
  t.rd R.ATTIC_CMD_STAT_RESULT = r ∧ t.rd (if r = 1 then R.ATTIC_EVT_DONE else R.ATTIC_EVT_ERR) = 1
def Attic.resultRegs : List Fld := [R.ATTIC_CMD_STAT_RESULT, R.ATTIC_EVT_DONE, R.ATTIC_EVT_ERR]

/-- R284, R364: a record is refused, or its program starts at the first erased word of the log. -/
def Attic.AppendRules (s : State) (m : Master) (ok : Bool) : Prop :=
  let rec12 := leBytes 4 (s.rd R.ATTIC_REC_0) ++ leBytes 4 (s.rd R.ATTIC_REC_1) ++ leBytes 4 (s.rd R.ATTIC_REC_2)
  ∀ e ∈ [(Instr.appendJ m ok, 0x08014000 + s.rd R.ATTIC_J_WP_HALF * 0x2000, 512, R.ATTIC_J_WP_INDEX, 5),
         (Instr.appendS m ok, 0x083FC000, 1024, R.ATTIC_S_WP_INDEX, 6)],
    let i := s.atEnd e.2.1 e.2.2.1
    let a := e.2.1 + 16 * i
    (e.2.2.1 ≤ i → ∃ t, exec e.1 s = .next t ∧ Attic.Result t 5 ∧ Only Attic.resultRegs [] s t) ∧
    (i < e.2.2.1 → ¬ Attic.Free s → ∃ t, exec e.1 s = .next t ∧ Attic.Result t 3 ∧ Only Attic.resultRegs [] s t) ∧
    (i < e.2.2.1 → Attic.Free s → ∃ t, exec e.1 s = .next t ∧ t.rd R.ATTIC_CMD_STAT_BUSY = 1 ∧ t.rd R.ATTIC_CMD_STAT_RESULT = 0 ∧
      Attic.Writing s t e.2.2.2.2 a a ok rec12 [R.ATTIC_CMD_STAT_BUSY, R.ATTIC_CMD_STAT_RESULT])

/-- R341, R364: the record of an APPEND ends at a tick (State.attTick, which step runs on an empty queue), with the flash running and no
dip: it stands at its word with its CRC, or the word is left open. -/
def Attic.AppendEnds (s : State) : Prop :=
  let t := s.attTick
  let l := (s.ff L.AC_BUF).map (BitVec.ofNat 8)
  let a := s.rd L.AC_ARG
  s.domOn 11 = true → s.islOn 9 = true → s.on R.SYSCTL_SUPPLY_STAT_WARN = false → l.length = 12 →
    ∀ e ∈ [(5, 0x08014000 + s.rd R.ATTIC_J_WP_HALF * 0x2000, 512, R.ATTIC_J_WP_INDEX), (6, 0x083FC000, 1024, R.ATTIC_S_WP_INDEX)],
      s.rd L.AC_ON = e.1 → e.2.1 ≤ a → a < e.2.1 + 16 * e.2.2.1 →
      let regs := [e.2.2.2, R.ATTIC_CMD_STAT_BUSY, L.AC_ON, L.FL_ENG, Flash.busyBit (s.rd L.FL_ENGA)] ++ Attic.resultRegs
      t.rd e.2.2.2 = ((a - e.2.1) / 16 + 1) % 1024 ∧ t.rd R.ATTIC_CMD_STAT_BUSY = 0 ∧ Attic.Idle t (s.rd L.FL_ENGA) ∧ Flash.Outside s t (a, 16) ∧
        RegsBut regs s t ∧ ListsKept s t ∧
        if s.on L.AC_OK then Attic.Result t 1 ∧ t.rdBs a 16 = l ++ leBytes 4 (crc32c l) else Attic.Result t 4

/-- R367: the arguments of a COPY. -/
def Attic.copyArgs (n src dst : Nat) : Prop :=
  1 ≤ n ∧ n ≤ 479 ∧ src % 0x1000 = 0 ∧ dst % 0x1000 = 0 ∧ 0x08200000 ≤ src ∧ src + 0x1000 * n ≤ 0x083E0000 ∧ 0x08020000 ≤ dst ∧
    dst + 0x1000 * n ≤ 0x08200000

/-- R360, R367: COPY and its pages. -/
def Attic.CopyRules (s : State) (m : Master) (fail : Bool) : Prop :=
  let n := s.rd R.ATTIC_COPY_N
  let src := s.rd R.ATTIC_COPY_SRC
  let dst := s.rd R.ATTIC_COPY_DST
  let jr := 0x08014000 + s.rd R.ATTIC_J_WP_HALF * 0x2000
  let j := s.atEnd jr 512
  let i := s.rd R.ATTIC_COPY_PROG_DONE
  let psrc := src + 0x1000 * i
  let pdst := dst + 0x1000 * i
  let going := s.on L.CP_ON = true ∧ s.on L.AT_HELD = false ∧ s.online 21 = true ∧ s.on R.SYSCTL_SUPPLY_STAT_WARN = false
  (Attic.Taking s m →
    (¬ Attic.copyArgs n src dst → ∃ t, exec (.copy m) s = .next t ∧ Attic.Result t 6 ∧ Only Attic.resultRegs [] s t) ∧
    (Attic.copyArgs n src dst → s.atReasons ≠ 0 → Attic.Bits s → ∃ t, exec (.copy m) s = .next t ∧ Attic.Result t 2 ∧
      t.rd R.ATTIC_REFUSE_REASON_REASON = Attic.reason s ∧ t.rd R.ATTIC_EVT_REFUSED = 1 ∧ MemKept s t ∧ ListsKept s t) ∧
    (Attic.copyArgs n src dst → s.atReasons = 0 → ¬ Attic.Free s → ∃ t, exec (.copy m) s = .next t ∧ Attic.Result t 3 ∧
      Only Attic.resultRegs [] s t) ∧
    (Attic.copyArgs n src dst → s.atReasons = 0 → Attic.Free s → s.rd R.ATTIC_J_WP_HALF < 2 → j < 512 →
      ∃ t, exec (.copy m) s = .next t ∧ t.rd L.CP_ON = 1 ∧ t.rd R.ATTIC_CMD_STAT_BUSY = 1 ∧ t.rd R.ATTIC_COPY_PROG_DONE = 0 ∧
        t.rd R.ATTIC_COPY_PROG_SKIPPED = 0 ∧ t.rd L.CP_EQ = (if s.rdBs src 0x1000 = s.rdBs dst 0x1000 then 1 else 0) ∧
        t.rd L.FL_ENG = (if s.rdBs src 0x1000 = s.rdBs dst 0x1000 then 0 else 1) ∧ t.rdB (jr + 16 * j) = 0x13 ∧
        t.rdLe (jr + 16 * j + 2) 2 = (dst - 0x08020000) / 0x1000 ∧ t.rd R.ATTIC_J_WP_INDEX = j + 1 ∧ Flash.Outside s t (jr + 16 * j, 16) ∧ ListsKept s t)) ∧
  (¬ going → ∃ t, exec (.copyPageDone fail) s = .next t ∧ Only [] [] s t) ∧
  (going → n ≤ i + 1 → i + 1 < 512 → s.rd R.ATTIC_COPY_PROG_SKIPPED < 500 →
    (s.on L.CP_EQ = true → ∃ t, exec (.copyPageDone fail) s = .next t ∧ t.rd R.ATTIC_COPY_PROG_SKIPPED = s.rd R.ATTIC_COPY_PROG_SKIPPED + 1 ∧
      t.rd R.ATTIC_COPY_PROG_DONE = i + 1 ∧ t.rd R.ATTIC_EVT_PAGE = 1 ∧ t.rd L.CP_ON = 0 ∧ t.rd R.ATTIC_CMD_STAT_BUSY = 0 ∧ Attic.Result t 1 ∧
      MemKept s t ∧ ListsKept s t) ∧
    (s.on L.CP_EQ = false → fail = false → pdst + 0x1000 ≤ psrc → ∃ t, exec (.copyPageDone fail) s = .next t ∧
      t.rdBs pdst 0x1000 = s.rdBs psrc 0x1000 ∧ t.rd R.ATTIC_COPY_PROG_DONE = i + 1 ∧ t.rd R.ATTIC_EVT_PAGE = 1 ∧ t.rd L.FL_ENG = 0 ∧
      t.rd R.FLASHC_STAT_BUSY0 = 0 ∧ t.rd R.ATTIC_CMD_STAT_BUSY = 0 ∧ Attic.Result t 1 ∧ Flash.Outside s t (pdst, 0x1000) ∧ ListsKept s t)) ∧
  (going → s.on L.CP_EQ = false → fail = true → ∃ t, exec (.copyPageDone fail) s = .next t ∧ t.rd R.ATTIC_COPY_PROG_DONE = i ∧ t.rd L.CP_ON = 0 ∧
    t.rd R.ATTIC_CMD_STAT_BUSY = 0 ∧ t.rd L.FL_ENG = 0 ∧ Attic.Result t 4 ∧ Flash.Outside s t (pdst, 0x1000) ∧ ListsKept s t)

/-- No session, host command, page write or lowering of the read-out protection stands beside an Attic command on the Porch. -/
abbrev Attic.PorchFree (s : State) : Prop :=
  s.on L.P_UP = true ∧ s.on R.FLASHC_RDP_LOWERING = false ∧ s.on R.PORCH_STAT_SESSION = false ∧ s.rd L.PW_LDR = 0 ∧ s.rd L.PW_STEP = 0 ∧ s.rd L.PH_ST = 0

/-- R353, R360: PFW_WRITE, its pages, and PFW_SELECT. -/
def Attic.PfwRules (s : State) (m : Master) (ok : Bool) : Prop :=
  let n := s.rd R.ATTIC_PFW_LEN
  let src := s.rd R.ATTIC_PFW_SRC
  let args := 64 ≤ n ∧ n ≤ 16384 ∧ 0x08200000 ≤ src ∧ src + n ≤ 0x08400000
  let i := s.rd L.PF_I
  let a := (1 - s.rd R.ATTIC_PFW_STAT_ACTIVE) * 16384 + 64 * i
  let k := min 64 (n - 64 * i)
  (Attic.Taking s m →
    (¬ args → ∃ t, exec (.pfwWrite m) s = .next t ∧ Attic.Result t 6 ∧ Only Attic.resultRegs [] s t) ∧
    (args → s.atReasons ≠ 0 → Attic.Bits s → ∃ t, exec (.pfwWrite m) s = .next t ∧ Attic.Result t 2 ∧
      t.rd R.ATTIC_REFUSE_REASON_REASON = Attic.reason s ∧ MemKept s t ∧ ListsKept s t) ∧
    (args → s.atReasons = 0 → Attic.PorchFree s → s.rd L.PF_BUSY = 0 → ∃ t, exec (.pfwWrite m) s = .next t ∧ t.rd R.ATTIC_CMD_STAT_BUSY = 1 ∧
      t.rd L.PF_ST = 1 ∧ t.rd L.PF_OP = 4 ∧ t.rd L.PF_I = 0 ∧ t.rd L.PF_BUSY = 1 ∧ t.rd R.PORCH_STAT_OWNER = 2 ∧ MemKept s t ∧ ListsKept s t) ∧
    (Attic.PorchFree s → s.rd L.PF_BUSY = 0 → ¬ Porch.dip s → ∃ t, exec (.pfwSelect m) s = .next t ∧ t.rd R.ATTIC_CMD_STAT_BUSY = 1 ∧ t.rd L.PF_ST = 1 ∧
      t.rd L.PF_OP = 5 ∧ t.rd L.PW_STEP = 1 ∧ t.rd L.PW_RUN = 1 ∧ t.rd L.PW_TGT = 218 ∧ t.rd L.PW_WHO = 4 ∧
      t.rd L.PW_DATA % 256 = 1 - (s.rdP (218 * 64)).toNat % 2 ∧ t.rd R.PORCH_STAT_OWNER = 2 ∧ MemKept s t ∧ ListsKept s t)) ∧
  (s.on L.PF_BUSY = false ∨ s.online 21 = false → ∃ t, exec (.pfwPageDone ok) s = .next t ∧ Only [] [] s t) ∧
  (s.on L.PF_BUSY = true → s.online 21 = true → Attic.PorchFree s → s.rd L.PF_ST = 1 → s.rd L.PF_OP = 4 →
    (ok = true → ∃ t, exec (.pfwPageDone ok) s = .next t ∧ t.rd L.PF_I = i + 1 ∧ (∀ x < k, Cells.get (a + x) t.porchFw = some (s.rdB (src + 64 * i + x))) ∧
      (∀ x, ¬ (a ≤ x ∧ x < a + k) → Cells.get x t.porchFw = Cells.get x s.porchFw) ∧ (∀ x, t.rdB x = s.rdB x) ∧ (∀ x, t.rdP x = s.rdP x) ∧
      (64 * (i + 1) < n → s.atReasons = 0 → t.rd L.PF_BUSY = 1 ∧ t.rd L.PF_ST = 1 ∧ t.rd R.PORCH_STAT_OWNER = 2) ∧
      (n ≤ 64 * (i + 1) → t.rd L.PF_BUSY = 0 ∧ t.rd L.PF_ST = 0 ∧ t.rd R.ATTIC_CMD_STAT_BUSY = 0 ∧ Attic.Result t 1 ∧ t.rd R.PORCH_STAT_OWNER = 0)) ∧
    (ok = false → ∃ t, exec (.pfwPageDone ok) s = .next t ∧ t.rd L.PF_BUSY = 0 ∧ t.rd L.PF_ST = 0 ∧ t.rd R.ATTIC_CMD_STAT_BUSY = 0 ∧ Attic.Result t 4 ∧
      (∀ x, ¬ (a ≤ x ∧ x < a + k) → Cells.get x t.porchFw = Cells.get x s.porchFw) ∧ (∀ x, t.rdB x = s.rdB x) ∧ ∀ x, t.rdP x = s.rdP x))

/-- R353, R360 to R362, R364, R367, R375, R376: the engine's commands. -/
def Obligations.AtticEngine : Prop :=
  ∀ (s : State) (m : Master) (ok : Bool), Calm s →
    (Taken s m R.ATTIC_CMD_OP → m ≠ .app ∨ s.on R.ATTIC_CMD_STAT_BUSY = true →
      ∀ i ∈ [.appendJ m ok, .appendS m ok, .copy m, .pfwWrite m, .pfwSelect m, .setLock m, .clearLock m], ∃ t, exec i s = .next t ∧ Only [] [] s t) ∧
    (Attic.Taking s m → Attic.AppendRules s m ok) ∧ Attic.AppendEnds s ∧ Attic.CopyRules s m ok ∧ Attic.PfwRules s m ok ∧
    (Attic.Taking s m → ∀ e ∈ [(Instr.setLock m, 1), (.clearLock m, 0)], ∃ t, exec e.1 s = .next t ∧ t.rd R.ATTIC_STAT_OWNER_LOCK = e.2 ∧
      Attic.Result t 1 ∧ Only (R.ATTIC_STAT_OWNER_LOCK :: Attic.resultRegs) [] s t)

/-- R360: MOVING as the two sources and their selection give it. -/
def Attic.movingOf (s t : State) : Prop :=
  t.rd R.ATTIC_STAT_MOVING = 1 ↔
    ((s.rd R.ATTIC_UPD_CFG_MOVING_SRC).testBit 0 = true ∧ t.on L.AT_SPD = true) ∨ ((s.rd R.ATTIC_UPD_CFG_MOVING_SRC).testBit 1 = true ∧ t.on L.AT_MOT = true)

/-- R360, R361, R368, R391: the refusal conditions. -/
def Obligations.AtticConditions : Prop :=
  ∀ (s : State) (rising : Bool) (v : BitVec 16), Calm s →
    let edge := s.domOn 1 = true ∧ (s.rd R.SYSCTL_WAKE_CFG_MOTION_EDGE).testBit (if rising then 0 else 1) = true ∧ s.on (L.VIO_LOW 0) = false
    let lvl := s.rd R.ATTIC_LIMITS_LOWBAT_LEVEL
    let hyst := if s.on R.ATTIC_UPD_CFG_LOWBAT_SRC then 32 else 100
    let paused := s.rd R.ATTIC_STAT_PHASE = 3 ∧ s.on R.ATTIC_STAT_FLASH_HOLD = false
    let goes := s.atReasons = 0 ∧ (paused ∨ s.on L.AT_HELD = true) ∧ Flash.busy s = false ∧ s.online 21 = true
    (¬ edge → ∃ t, exec (.motionEdge rising) s = .next t ∧ Only [] [] s t) ∧
    (edge → s.on R.SYSCTL_PWR_STAT_ENTERING = false → ∃ t, exec (.motionEdge rising) s = .next t ∧ t.rd L.AT_MOT = 1 ∧ Attic.movingOf s t ∧
      (s.wakes 5 s.pwr = false → Only [L.AT_MOT, R.ATTIC_STAT_MOVING] [] s t) ∧
      (s.wakes 5 s.pwr = true → (t.rd R.SYSCTL_WAKE_STAT_SRC).testBit 5 = true ∧
        Only [L.AT_MOT, R.ATTIC_STAT_MOVING, R.SYSCTL_WAKE_STAT_SRC, R.SYSCTL_WAKE_STAT_FIRST, L.HP_IRQ, L.WAKING] [] s t)) ∧
    (∃ t, exec (.movingExpire true) s = .next t ∧ t.rd L.AT_SPD = 0 ∧ 60 ≤ t.rd R.ATTIC_SPEED_AGE ∧ Attic.movingOf s t ∧
      Only [L.AT_SPD, R.ATTIC_SPEED_AGE, R.ATTIC_STAT_MOVING] [] s t) ∧
    (∃ t, exec (.movingExpire false) s = .next t ∧ t.rd L.AT_MOT = 0 ∧ Attic.movingOf s t ∧ Only [L.AT_MOT, R.ATTIC_STAT_MOVING] [] s t) ∧
    (s.online 21 = false ∨ s.online 38 = false → ∃ t, exec (.lowbatSample v) s = .next t ∧ Only [] [] s t) ∧
    (s.online 21 = true → s.online 38 = true → ∃ t, exec (.lowbatSample v) s = .next t ∧ t.rd R.ADC_STOLEN = min (s.rd R.ADC_STOLEN + 1) (2 ^ 16 - 1) ∧
      t.rd R.ATTIC_LOWBAT_LAST = v.toNat ∧
      t.rd L.AT_LOW = (if v.toNat < lvl then min 3 (s.rd L.AT_LOW + 1) else 0) ∧
      t.rd L.AT_HIGH = (if lvl + hyst < v.toNat then min 3 (s.rd L.AT_HIGH + 1) else 0) ∧
      (t.rd L.AT_LOW = 3 → t.rd R.ATTIC_STAT_LOWBAT = 1) ∧ (t.rd L.AT_LOW < 3 → t.rd L.AT_HIGH = 3 → t.rd R.ATTIC_STAT_LOWBAT = 0) ∧
      (t.rd L.AT_LOW < 3 → t.rd L.AT_HIGH < 3 → t.rd R.ATTIC_STAT_LOWBAT = s.rd R.ATTIC_STAT_LOWBAT) ∧
      Only [R.ATTIC_LOWBAT_LAST, L.AT_LOW, L.AT_HIGH, R.ATTIC_STAT_LOWBAT, R.ADC_STOLEN] [] s t) ∧
    (¬ goes → ∃ t, exec .installResume s = .next t ∧ Only [] [] s t) ∧
    (goes → s.on L.CP_ON = false → s.on L.PF_ST = false → ∃ t, exec .installResume s = .next t ∧ t.rd R.ATTIC_EVT_RESUMED = 1 ∧ t.rd L.AT_HELD = 0 ∧
      (paused → t.rd R.ATTIC_STAT_PHASE = 2) ∧ (¬ paused → t.rd R.ATTIC_STAT_PHASE = s.rd R.ATTIC_STAT_PHASE) ∧
      Only [R.ATTIC_EVT_RESUMED, L.AT_HELD, R.ATTIC_STAT_PHASE] [] s t) ∧
    (s.on R.ATTIC_STAT_FLASH_HOLD = false ∨ s.on L.AW_RPT = true ∨ 10 ≤ s.rd L.AW_FAILS → ∃ t, exec .flashHoldRetry s = .next t ∧ Only [] [] s t) ∧
    (s.on R.ATTIC_STAT_FLASH_HOLD = true → s.on L.AW_RPT = false → s.rd L.AW_FAILS < 10 →
      (s.atReasons = 0 → ∃ t, exec .flashHoldRetry s = .next t ∧ t.rd L.AW_RPT = 1 ∧ Only [L.AW_RPT] [] s t) ∧
      (s.atReasons ≠ 0 → Attic.Bits s → ∃ t, exec .flashHoldRetry s = .next t ∧ t.rd R.ATTIC_REFUSE_REASON_REASON = Attic.reason s ∧
        t.rd R.ATTIC_EVT_REFUSED = 1 ∧ Only [R.ATTIC_REFUSE_REASON_REASON, R.ATTIC_EVT_REFUSED, R.ATTIC_REFUSE_CNT] [] s t))

/-- R380: the first check that refuses a command of the application core, 0 for none. -/
def Power.check (s : State) (tgt : Nat) : Nat :=
  if s.on R.SYSCTL_PWR_CFG_AUTHORITY = false then 1
  else if s.on R.SYSCTL_PWR_STAT_ENTERING = true then 2
  else if tgt ≤ 1 ∨ tgt = s.rd R.SYSCTL_PWR_STAT_STATE then 0
  else if s.on R.FLASHC_STAT_BUSY0 = true ∨ s.on R.FLASHC_STAT_BUSY1 = true ∨ s.on R.FLASHC_STAT_SUSPENDED = true then 4
  else if s.on R.CIPHER_STAT_CH_RUN = true then 5
  else if s.rd R.ATTIC_STAT_PHASE = 2 ∨ s.rd R.ATTIC_STAT_PHASE = 3 ∨ s.rd R.ATTIC_STAT_PHASE = 4 then 6
  else if s.on R.FLASHC_RDP_LOWERING = true then 7
  else if s.on R.FLOOR_STATUS_RELOAD_BUSY = true then 9
  else 0

/-- R378: the command for a state. -/
def Power.cmd (m : Master) (tgt : Nat) : Instr :=
  match tgt with
  | 0 => .pwrCmdRun m
  | 1 => .pwrCmdIdle m
  | 2 => .pwrCmdSleep m
  | 3 => .pwrCmdDeep m
  | _ => .pwrCmdOff m

/-- R378 to R380, R402: power commands. -/
def Power.CommandRules (s : State) (m : Master) : Prop :=
  let st := s.rd R.SYSCTL_PWR_STAT_STATE
  Taken s m R.SYSCTL_PWR_CMD_GO →
    (m ≠ .app → ∀ tgt ∈ [0, 1, 2, 3, 4], ∃ t, exec (Power.cmd m tgt) s = .next t ∧ Only [] [] s t) ∧
    (m = .app → ∀ tgt ∈ [0, 1, 2, 3, 4],
      (Power.check s tgt ≠ 0 → ∃ t, exec (Power.cmd m tgt) s = .next t ∧ t.rd R.SYSCTL_PWR_STAT_REFUSE = Power.check s tgt ∧
        t.rd R.SYSCTL_EVT_REFUSED = 1 ∧ Only [R.SYSCTL_PWR_STAT_REFUSE, R.SYSCTL_EVT_REFUSED] [] s t) ∧
      (Power.check s tgt = 0 → tgt = st → ∃ t, exec (Power.cmd m tgt) s = .next t ∧ Only [] [] s t) ∧
      (Power.check s tgt = 0 → tgt ≠ st → tgt = 0 → ∃ t, exec (Power.cmd m tgt) s = .next t ∧
        (s.on L.BOOT_DUE = false → t.rd R.SYSCTL_PWR_STAT_STATE = 0 ∧ t.rd L.CORE_STOP = 0 ∧ Only [R.SYSCTL_PWR_STAT_STATE, L.CORE_STOP] [] s t)) ∧
      (Power.check s tgt = 0 → tgt ≠ st → tgt = 1 → ∃ t, exec (Power.cmd m tgt) s = .next t ∧ t.rd R.SYSCTL_PWR_STAT_STATE = 1 ∧ t.rd L.CORE_STOP = 1 ∧
        Only [R.SYSCTL_PWR_STAT_STATE, L.CORE_STOP] [] s t) ∧
      (Power.check s tgt = 0 → tgt ≠ st → 2 ≤ tgt → ∃ t, exec (Power.cmd m tgt) s = .next t ∧ t.rd R.SYSCTL_PWR_STAT_ENTERING = 1 ∧ t.rd L.ENT_TGT = tgt ∧
        t.rd L.ENT_PT = 0 ∧ t.rd R.SYSCTL_PWR_STAT_STATE = st ∧
        Only [R.SYSCTL_PWR_STAT_ENTERING, L.ENT_TGT, L.ENT_PT, L.ENT_ACK, L.ENT_ABORT] [] s t))

/-- R386: the entry has reached its next point and nothing but the listed registers has changed. -/
def Power.Point (s t : State) (p : Nat) (fs : List Fld) : Prop :=
  t.rd L.ENT_PT = p ∧ t.rd R.SYSCTL_PWR_STAT_ENTERING = s.rd R.SYSCTL_PWR_STAT_ENTERING ∧ Only (L.ENT_PT :: fs) [] s t

/-- R381, R386, R388: the points of an entry. -/
def Power.EntryRules (s : State) (wfi : Bool) : Prop :=
  let pt := s.rd L.ENT_PT
  let auth := s.on R.SYSCTL_PWR_CFG_AUTHORITY
  let entering := s.on R.SYSCTL_PWR_STAT_ENTERING = true
  let acked := (s.on L.ENT_ACK = true ∨ wfi = true ∧ auth = true) ∧ s.rd R.NFCR_STAT_STATE ≠ 4
  let quiet := s.running = [] ∧ ∀ r : Radio, s.rd (L.RX_ST r) = 0 ∧ s.rd (R.FE_STAT_STATE r) ≠ 6 ∧ s.rd (R.FE_STAT_STATE r) ≠ 7
  (¬ entering → ∃ t, exec (.entryStepDone wfi) s = .next t ∧ Only [] [] s t) ∧
  (entering → pt = 1 → ¬ acked → ∃ t, exec (.entryStepDone wfi) s = .next t ∧ Only [] [] s t) ∧
  (entering → pt = 3 → ¬ quiet → ∃ t, exec (.entryStepDone wfi) s = .next t ∧ Only [] [] s t) ∧
  (entering → s.on L.ENT_ABORT = false →
    (pt = 0 → auth = true → ∃ t, exec (.entryStepDone wfi) s = .next t ∧ t.rd L.ENT_HOLD = 1 ∧ Power.Point s t 1 [L.ENT_HOLD]) ∧
    (pt = 0 → auth = false → s.hcmd = [] → ∃ t, exec (.entryStepDone wfi) s = .next t ∧ t.rd L.ENT_HOLD = 1 ∧ t.rd R.SYSCTL_PWR_STAT_PENDING = 1 ∧
      Power.Point s t 1 [L.ENT_HOLD, R.SYSCTL_PWR_STAT_PENDING]) ∧
    (pt = 1 → acked → ∃ t, exec (.entryStepDone wfi) s = .next t ∧ t.rd R.SYSCTL_PWR_STAT_PENDING = 0 ∧ Power.Point s t 2 [R.SYSCTL_PWR_STAT_PENDING]) ∧
    (pt = 2 → ∃ t, exec (.entryStepDone wfi) s = .next t ∧ t.islOn 2 = false ∧ t.islOn 9 = false ∧ t.islOn 10 = false ∧ t.rd L.ENT_CLK = 1 ∧
      Power.Point s t 3 [R.HALL_CLK_STAT_RUN, L.ENT_CLK]) ∧
    (pt = 3 → quiet → ∃ t, exec (.entryStepDone wfi) s = .next t ∧ t.rd L.ENT_PT = 4 ∧
      t.rd L.ENT_FE = s.rd (R.FE_STAT_STATE .cirrus) + 16 * s.rd (R.FE_STAT_STATE .stratus) ∧
      (∀ r : Radio, s.rd (R.FE_STAT_STATE r) ≠ 8 → t.rd (R.FE_STAT_STATE r) = 0) ∧ MemKept s t ∧ t.armed = s.armed ∧ t.running = []) ∧
    (pt = 4 → ∃ t, exec (.entryStepDone wfi) s = .next t ∧ t.rd L.ENT_RET = 1 ∧ Power.Point s t 5 [L.ENT_RET]) ∧
    (pt = 5 → ∃ t, exec (.entryStepDone wfi) s = .next t ∧ Power.Point s t 6 [])) ∧
  (entering → s.on L.ENT_ABORT = true → auth = true → (pt = 4 ∨ pt = 5) → s.rd L.NF_HELD = 0 →
    ∃ t, exec (.entryStepDone wfi) s = .next t ∧ t.rd R.SYSCTL_PWR_STAT_ENTERING = 0 ∧ t.rd L.ENT_PT = 0 ∧ t.rd R.SYSCTL_EVT_ABORTED = 1 ∧
      t.rd R.SYSCTL_PWR_STAT_ABORTED_AT = pt + 1 ∧ t.rd R.SYSCTL_PWR_STAT_ABORT_PRIV = 0 ∧ t.rd R.SYSCTL_PWR_STAT_STATE = s.rd R.SYSCTL_PWR_STAT_STATE ∧
      (∀ r : Radio, t.rd (R.FE_STAT_STATE r) = (match r with | .cirrus => s.rd L.ENT_FE % 16 | .stratus => s.rd L.ENT_FE / 16)) ∧
      (s.on L.ENT_CLK = true → t.islOn 2 = true ∧ t.islOn 9 = true ∧ t.islOn 10 = true) ∧ MemKept s t ∧ ListsKept s t) ∧
  (entering → pt = 6 → 2 ≤ s.rd L.ENT_TGT → s.rd L.ENT_TGT ≤ 4 → ∃ t, exec (.entryStepDone wfi) s = .next t ∧
    t.rd R.SYSCTL_PWR_STAT_STATE = s.rd L.ENT_TGT ∧ t.rd R.SYSCTL_PWR_STAT_ENTERING = 0 ∧ t.rd R.SYSCTL_EVT_ENTERED = 1 ∧ t.rd L.ENT_PT = 0 ∧
    t.rd R.HALL_CLK_STAT_HFXO_OK = 0 ∧ t.rd R.HALL_CLK_STAT_PLL_LOCK = 0 ∧ (∀ d ∈ [3, 4, 5, 7, 8, 9, 10, 11, 12], t.domOn d = false) ∧
    (s.rd L.ENT_TGT = 4 → t.domOn 1 = false) ∧ ∀ e ∈ t.armed, e ∈ s.armed ∧ s.rd L.ENT_TGT = 2 ∧ e.sleepOk = true)

/-- R380, R387: the acknowledgement and its absence. -/
def Power.AckRules (s : State) (m : Master) (v : Bool) : Prop :=
  let due := s.on R.SYSCTL_PWR_STAT_ENTERING = true ∧ s.rd L.ENT_PT = 1 ∧ s.on L.ENT_ACK = false
  (Taken s m R.SYSCTL_PWR_ACK_ACK →
    (m = .app → v = true → s.on R.SYSCTL_PWR_STAT_PENDING = true → ∃ t, exec (.pwrAck m v) s = .next t ∧ t.rd R.SYSCTL_PWR_STAT_PENDING = 0 ∧
      t.rd L.ENT_ACK = 1 ∧ Only [R.SYSCTL_PWR_STAT_PENDING, L.ENT_ACK] [] s t) ∧
    (m ≠ .app ∨ v = false ∨ s.on R.SYSCTL_PWR_STAT_PENDING = false → ∃ t, exec (.pwrAck m v) s = .next t ∧ Only [] [] s t)) ∧
  (¬ due → ∃ t, exec .ackTimeout s = .next t ∧ Only [] [] s t) ∧
  (due → s.rd L.NF_HELD = 0 → ∃ t, exec .ackTimeout s = .next t ∧ t.rd R.SYSCTL_PWR_STAT_ENTERING = 0 ∧ t.rd R.SYSCTL_PWR_STAT_PENDING = 0 ∧
    t.rd R.SYSCTL_PWR_STAT_REFUSE = 8 ∧ t.rd R.SYSCTL_EVT_REFUSED = 1 ∧ t.rd R.SYSCTL_PWR_STAT_STATE = s.rd R.SYSCTL_PWR_STAT_STATE ∧
    t.rd R.SYSCTL_PWR_STAT_ABORTED_AT = s.rd R.SYSCTL_PWR_STAT_ABORTED_AT ∧ MemKept s t)

/-- R378 to R381, R386 to R388, R402: power commands and entry. -/
def Obligations.PowerCommandsAndEntry : Prop :=
  ∀ (s : State) (m : Master) (wfi v : Bool), Calm s → Power.CommandRules s m ∧ Power.EntryRules s wfi ∧ Power.AckRules s m v

/-- R391, R392, R394: what a source that fires outside an entry does to the state. -/
def Wake.Fired (s t : State) (src : Nat) : Prop :=
  let irq := s.pwr = 1 ∧ s.rd R.SYSCTL_PWR_CFG_AUTHORITY = 0
  (s.wakes src s.pwr = false → Only [] [] s t) ∧
  (s.wakes src s.pwr = true → (t.rd R.SYSCTL_WAKE_STAT_SRC).testBit src = true ∧
    (irq → t.on L.HP_IRQ = true ∧ (s.on L.HP_IRQ = false → t.rd R.SYSCTL_WAKE_STAT_FIRST = src)) ∧
    (¬ irq → t.on L.WAKING = true ∧ (s.on L.WAKING = false → t.rd R.SYSCTL_WAKE_STAT_FIRST = src)) ∧
    (irq ∧ s.on L.HP_IRQ = true ∨ ¬ irq ∧ s.on L.WAKING = true → Only [R.SYSCTL_WAKE_STAT_SRC] [] s t) ∧
    Only [R.SYSCTL_WAKE_STAT_SRC, R.SYSCTL_WAKE_STAT_FIRST, L.HP_IRQ, L.WAKING] [] s t)

/-- R389, R391: the WAKE pin fires at this level. -/
def Wake.pinFires (s : State) (level : Bool) : Prop :=
  match s.rd R.SYSCTL_WAKE_CFG_WAKE_MODE with
  | 0 => level = true ∧ s.on L.WAKE_PIN = false
  | 1 => level = false ∧ s.on L.WAKE_PIN = true
  | 2 => level = true
  | _ => level = false

/-- R388, R389, R391, R458, R497: the sources. -/
def Wake.SourceRules (s : State) (level pattern : Bool) (n : Fin 2) : Prop :=
  let idle := s.on R.SYSCTL_PWR_STAT_ENTERING = false
  let u := s.wr L.WAKE_PIN (b2n level)
  let canOk := s.on (L.VIO_LOW 1) = false ∧ s.present (34 + n.val) = true ∧ s.rd (L.FP_CAN_WAKE n.val) = (if pattern then 2 else 1)
  let linOk := s.on (L.VIO_LOW 1) = false ∧ s.present 36 = true ∧ s.on L.FP_LIN_WAKE = true
  (∃ t, exec (.wakePinEvent level) s = .next t ∧ t.rd L.WAKE_PIN = b2n level ∧ (¬ Wake.pinFires s level → Only [L.WAKE_PIN] [] s t) ∧
    (idle → Wake.pinFires s level → Wake.Fired u t 0) ∧
    (¬ idle → Wake.pinFires s level → s.rd L.ENT_PT < 6 → s.wakeEn 0 = true → t.rd R.SYSCTL_PWR_STAT_ENTERING = 0 ∧
      t.rd R.SYSCTL_PWR_STAT_ABORTED_AT = s.rd L.ENT_PT ∧ t.rd R.SYSCTL_PWR_STAT_ABORT_PRIV = 1 ∧ t.rd R.SYSCTL_EVT_ABORTED = 1)) ∧
  (s.on (L.VIO_LOW 0) = true → ∃ t, exec .hostpWakeEdge s = .next t ∧ Only [] [] s t) ∧
  (s.on (L.VIO_LOW 0) = false → idle → ∃ t, exec .hostpWakeEdge s = .next t ∧ Wake.Fired s t 1) ∧
  (s.on (L.VIO_LOW 0) = false → ¬ idle → s.rd L.ENT_PT < 6 → ∃ t, exec .hostpWakeEdge s = .next t ∧ Only [] [] s t) ∧
  (¬ canOk → ∃ t, exec (.canWake n pattern) s = .next t ∧ Only [] [] s t) ∧
  (canOk → idle → ∃ t, exec (.canWake n pattern) s = .next t ∧ Wake.Fired s t (2 + n.val)) ∧
  (canOk → ¬ idle → s.rd L.ENT_PT < 6 → s.wakes (2 + n.val) (s.rd L.ENT_TGT) = true → ∃ t, exec (.canWake n pattern) s = .next t ∧
    t.rd L.ENT_ABORT = 1 ∧ Only [L.ENT_ABORT] [] s t) ∧
  (¬ linOk → ∃ t, exec .linWakeDetect s = .next t ∧ Only [] [] s t) ∧
  (linOk → idle → ∃ t, exec .linWakeDetect s = .next t ∧ Wake.Fired s t 4)

/-- R392, R393: the wake is complete: RUN under AUTHORITY 1, IDLE otherwise. -/
def Wake.Woken (s t : State) : Prop :=
  t.rd R.SYSCTL_PWR_STAT_STATE = (if s.on R.SYSCTL_PWR_CFG_AUTHORITY then 0 else 1) ∧ t.rd R.SYSCTL_PWR_STAT_LAST_STATE = s.pwr ∧
    t.rd R.SYSCTL_EVT_WOKEN = 1 ∧ t.rd L.WAKING = 0

/-- R19, R392, R393: wakes complete. -/
def Wake.DoneRules (s : State) (test : Bool) : Prop :=
  let ready := s.on L.WAKING = true ∧ s.pwr ≠ 0 ∧ s.pwr ≠ 4 ∧ (s.pwr = 1 ∨ s.on R.HALL_CLK_STAT_HFXO_OK = true)
  let slow := s.on L.WAKING = true ∧ (s.pwr = 2 ∨ s.pwr = 3) ∧ s.on R.HALL_CLK_STAT_HFXO_OK = false
  (¬ ready → s.meipWakes = false → ∃ t, exec .wakeDone s = .next t ∧ Only [] [] s t) ∧
  (ready → ∃ t, exec .wakeDone s = .next t ∧ Wake.Woken s t) ∧
  (ready → s.pwr = 1 → ∃ t, exec .wakeDone s = .next t ∧ Wake.Woken s t ∧
    Only [R.SYSCTL_PWR_STAT_STATE, R.SYSCTL_PWR_STAT_LAST_STATE, R.SYSCTL_EVT_WOKEN, L.WAKING, R.SYSCTL_PWR_STAT_LISTEN, R.WDA_STAT_COUNT, L.CORE_STOP,
      L.HP_IRQ] [] s t) ∧
  (¬ ready → s.meipWakes = true → ∃ t, exec .wakeDone s = .next t ∧ Wake.Woken s t ∧ t.rd R.SYSCTL_WAKE_STAT_FIRST = 15) ∧
  (¬ slow → ∃ t, exec .wakeHfxoTimeout s = .next t ∧ Only [] [] s t) ∧
  (slow → ∃ t, exec .wakeHfxoTimeout s = .next t ∧ Wake.Woken s t ∧ t.rd R.HALL_CLK_EVT_HFXO_LOST = 1 ∧ t.rd R.HALL_CLK_STAT_PLL_SRC = 1) ∧
  (¬ (s.on L.WAKING = true ∧ s.pwr = 4) → ∃ t, exec (.offWakeCellarRestart test) s = .next t ∧ Only [] [] s t) ∧
  (s.on L.WAKING = true → s.pwr = 4 → ∃ t, exec (.offWakeCellarRestart test) s = .next t ∧ t.rd R.SYSCTL_RST_CAUSE_KIND = 1024 ∧
    t.rd L.TEST_HOLD = b2n test ∧ t.rd L.FP_LOADING = 1 ∧ t.rd R.SYSCTL_PWR_STAT_STATE = 0 ∧ t.evq = [] ∧ t.armed = [] ∧ t.plan = [])

/-- R385: listen windows. -/
def Wake.ListenRules (s : State) (r : Radio) : Prop :=
  let opens := s.pwr = 2 ∧ (∃ e ∈ s.armed, e.sleepOk = true ∧ e.radio = r) ∧ s.present (if r = .cirrus then 5 else 7) = true
  let due := ∃ e ∈ s.armed, e.sleepOk = true ∧ e.fest ≤ s.lt + (s.rd R.MAC_WAKE_LEAD_US + 2000) * 256
  let quiet := s.on R.SYSCTL_PWR_STAT_LISTEN = true ∧ s.on L.WAKING = false ∧ s.running = [] ∧ ¬ due ∧ ∀ r : Radio, s.rd (R.FE_STAT_STATE r) ≤ 1
  (¬ opens → ∃ t, exec (.listenWake r) s = .next t ∧ Only [] [] s t) ∧
  (opens → ∃ t, exec (.listenWake r) s = .next t ∧ t.rd R.SYSCTL_PWR_STAT_LISTEN = 1 ∧ t.rd R.SYSCTL_PWR_STAT_STATE = s.rd R.SYSCTL_PWR_STAT_STATE ∧
    (∀ d ∈ [6, 7, 8 + r.idx], t.domOn d = true) ∧ (∀ d < 13, d ∉ [6, 7, 8 + r.idx] → t.domOn d = s.domOn d) ∧
    (∀ i ∈ [3, 4, 5 + r.idx], t.islOn i = true) ∧
    (s.domOn (8 + r.idx) = false → t.rd (R.FE_STAT_TX_INHIBIT r) = s.rd R.SYSCTL_SUPPLY_STAT_WARN ∧ t.rd (L.RA_LSN r) = 1) ∧
    Only [R.SYSCTL_PWR_STAT_LISTEN, R.HALL_CLK_STAT_HFXO_OK, R.HALL_CLK_STAT_PLL_LOCK, R.HALL_CLK_STAT_PLL_SRC, R.SYSCTL_DOM_STAT,
      R.HALL_CLK_STAT_RUN, R.FE_STAT_TX_INHIBIT r, L.RA_LSN r] [] s t) ∧
  (¬ quiet → ∃ t, exec .listenEnd s = .next t ∧ Only [] [] s t) ∧
  (quiet → ∃ t, exec .listenEnd s = .next t ∧ t.rd R.SYSCTL_PWR_STAT_LISTEN = 0 ∧ t.rd R.SYSCTL_PWR_STAT_STATE = s.rd R.SYSCTL_PWR_STAT_STATE ∧
    t.rd R.HALL_CLK_STAT_HFXO_OK = 0 ∧ t.rd R.HALL_CLK_STAT_PLL_LOCK = 0 ∧ (∀ d ∈ [7, 8, 9], t.domOn d = false) ∧ t.islOn 3 = false ∧
    (∀ i ∈ [4, 5, 6], t.islOn i = false) ∧ ((∃ e ∈ s.armed, e.sleepOk = true) → t.armed = s.armed))

/-- R19, R385, R388, R389, R391 to R394, R458, R497: wakes. -/
def Obligations.Wakes : Prop :=
  ∀ (s : State) (level pattern test : Bool) (n : Fin 2) (r : Radio), Calm s →
    Wake.SourceRules s level pattern n ∧ Wake.DoneRules s test ∧ Wake.ListenRules s r

/-- R395 to R397, R400, R401, R428: dips, domain resets and MODE. -/
def Obligations.SupplyDomainsAndMode : Prop :=
  ∀ (s : State) (m : Master) (us : Nat) (mv : BitVec 13) (d : BitVec 4) (dom : Fin 13) (v : BitVec 2) (rom : Bool), Calm s →
    let warn := s.on R.SYSCTL_SUPPLY_STAT_WARN
    let low := s.rd L.DIP_MIN
    let lvl := s.rd R.FLASHC_RDP_LEVEL
    let md := s.rd R.SYSCTL_MODE_MODE
    let takes := d.toNat ∈ [6, 7, 8, 9, 10] ∧ s.rd L.DOM_HELD = 0 ∧ s.on R.SYSCTL_PWR_STAT_ENTERING = false ∧ s.domOn d.toNat = true
    (warn = true ∨ s.domOn 1 = false → ∃ t, exec .supplyWarn s = .next t ∧ Only [] [] s t) ∧
    (warn = false → s.domOn 1 = true → s.domOn 10 = false → ∃ t, exec .supplyWarn s = .next t ∧ t.rd R.SYSCTL_SUPPLY_STAT_WARN = 1 ∧ t.rd L.DIP_MIN = 0 ∧
      (s.on L.FL_E_OP = true → t.rd R.FLASHC_STAT_SUSPENDED = 1 ∧ (t.rd R.FLASHC_STAT_SUSP_BY).testBit 1 = true) ∧ MemKept s t) ∧
    (warn = false ∨ s.online 38 = false → ∃ t, exec (.dipSample mv) s = .next t ∧ Only [] [] s t) ∧
    (warn = true → s.online 38 = true → ∃ t, exec (.dipSample mv) s = .next t ∧ t.rd R.ADC_STOLEN = min (s.rd R.ADC_STOLEN + 1) (2 ^ 16 - 1) ∧
      t.rd L.DIP_MIN = (if low = 0 then mv.toNat + 1 else min low (mv.toNat + 1)) ∧ Only [L.DIP_MIN, R.ADC_STOLEN] [] s t) ∧
    (warn = false → ∃ t, exec (.supplyRecovery us) s = .next t ∧ Only [] [] s t) ∧
    (warn = true → s.domOn 10 = false → Porch.Quiet s → s.on R.PORCH_STAT_SESSION = false → s.on L.FL_E_OP = false →
      ∃ t, exec (.supplyRecovery us) s = .next t ∧ t.rd R.SYSCTL_SUPPLY_STAT_WARN = 0 ∧ t.rd R.SYSCTL_EVT_RECOVERED = 1 ∧
        t.rd R.SYSCTL_DIP_LOG_VALID = 1 ∧ t.rd R.SYSCTL_DIP_LOG_MIN_MV = low - 1 ∧ t.rd R.SYSCTL_DIP_LOG_UNSAMPLED = (if low = 0 then 1 else 0) ∧
        t.rd R.SYSCTL_DIP_DUR = min us (2 ^ 32 - 1) ∧ (∀ r : Radio, t.rd (R.FE_STAT_TX_INHIBIT r) = 0) ∧ t.rd L.FL_P_PAUSE = 0 ∧ MemKept s t ∧
        ListsKept s t) ∧
    (Taken s m R.SYSCTL_DOM_RST_GO → ¬ takes → ∃ t, exec (.domRst m d) s = .next t ∧ Only [] [] s t) ∧
    (Taken s m R.SYSCTL_DOM_RST_GO → takes → ∃ t, exec (.domRst m d) s = .next t ∧ t.domOn d.toNat = false ∧
      (t.rd L.DOM_HELD).testBit d.toNat = true ∧ (t.rd R.SYSCTL_RST_CAUSE_KIND).testBit 8 = true) ∧
    ((s.rd L.DOM_HELD).testBit dom.val = false → ∃ t, exec (.domainResetRelease dom) s = .next t ∧ Only [] [] s t) ∧
    ((s.rd L.DOM_HELD).testBit dom.val = true → dom.val ≠ 5 → dom.val ≠ 12 → ∃ t, exec (.domainResetRelease dom) s = .next t ∧
      t.domOn dom.val = true ∧ (t.rd L.DOM_HELD).testBit dom.val = false ∧ (∀ k < 13, k ≠ dom.val → t.domOn k = s.domOn k) ∧
      (∀ r : Radio, dom.val = 8 + r.idx → s.domOn (8 + r.idx) = false → t.rd (R.FE_STAT_TX_INHIBIT r) = s.rd R.SYSCTL_SUPPLY_STAT_WARN) ∧
      (dom.val ≠ 8 → dom.val ≠ 9 → Only [L.DOM_HELD, R.SYSCTL_DOM_STAT] [] s t) ∧
      (∀ r : Radio, dom.val = 8 + r.idx → Only [L.DOM_HELD, R.SYSCTL_DOM_STAT, R.FE_STAT_TX_INHIBIT r, L.RA_LSN r] [] s t)) ∧
    (Taken s m R.SYSCTL_MODE_MODE →
      (v = 0 → md = 1 → ∃ t, exec (.modeWrite m v rom) s = .next t ∧ t.rd R.SYSCTL_MODE_MODE = 0 ∧ MemKept s t ∧ ListsKept s t) ∧
      (v = 2 → md = 1 → lvl = 0 → ∃ t, exec (.modeWrite m v rom) s = .next t ∧ t.rd R.SYSCTL_MODE_MODE = 2 ∧ Only [R.SYSCTL_MODE_MODE] [] s t) ∧
      (v = 3 → rom = true → m = .app → ∃ t, exec (.modeWrite m v rom) s = .next t ∧ t.rd R.SYSCTL_MODE_MODE = 3 ∧ Only [R.SYSCTL_MODE_MODE] [] s t) ∧
      (¬ (v = 0 ∧ md = 1) → ¬ (v = 2 ∧ md = 1 ∧ lvl = 0) → ¬ (v = 3 ∧ rom = true ∧ m = .app) →
        ∃ t, exec (.modeWrite m v rom) s = .next t ∧ Only [] [] s t))

/-- R403: the days of a month of year 2000 + y: of the years that four divides 2100 alone is no leap year. -/
def Cal.days (y m : Nat) : Nat :=
  if m = 2 then (if y % 4 = 0 ∧ y ≠ 100 then 29 else 28) else if m = 4 ∨ m = 6 ∨ m = 9 ∨ m = 11 then 30 else 31

/-- R403, R410, R419: a time and a date of the calendar in their layouts. -/
def Cal.valid (t d : Nat) : Prop :=
  t / 65536 % 32 ≤ 23 ∧ t / 256 % 64 ≤ 59 ∧ t % 64 ≤ 59 ∧ 1 ≤ d / 256 % 16 ∧ d / 256 % 16 ≤ 12 ∧ d / 65536 % 256 ≤ 199 ∧ 1 ≤ d % 32 ∧
    d % 32 ≤ Cal.days (d / 65536 % 256) (d / 256 % 16)

/-- The calendar counts, with no commit in hand. -/
abbrev Cal.counting (s : State) : Prop := s.calRuns = true ∧ s.on L.CAL_OPEN = false ∧ s.on R.CAL_COMMIT_STAT_BUSY = false

/-- What counting changes. -/
def Cal.countRegs : List Fld := [R.CAL_TIME, R.CAL_DATE, R.CAL_SUBSEC, L.CAL_ACC, R.CAL_STAT_EPOCH_WRAP]
def Cal.capRegs : List Fld := [R.CAL_CAP_TIME, R.CAL_CAP_DATE, R.CAL_CAP_SUBSEC, R.CAL_CAP_STAT_DONE, L.CAL_CAP]

/-- The trim within its range (R415), and the count not at the very end of a second. -/
abbrev Cal.steady (s : State) : Prop := -2147 ≤ s.rdS R.CAL_TRIM_VALUE ∧ s.rdS R.CAL_TRIM_VALUE ≤ 2147 ∧ s.rd R.CAL_SUBSEC < 32760

/-- R404, R409 to R413: the calendar's commands and events. -/
def Obligations.CalendarCommands : Prop :=
  ∀ (s : State) (m : Master) (mask : BitVec 2), Calm s →
    (Taken s m R.CAL_CAPTURE_GO → ∃ t, exec (.calCapture m) s = .next t ∧ t.rd R.CAL_CAP_STAT_DONE = 0 ∧ t.rd L.CAL_CAP = 1 ∧
      Only [R.CAL_CAP_STAT_DONE, L.CAL_CAP] [] s t) ∧
    (s.calRuns = false ∨ s.on L.CAL_CAP = false → ∃ t, exec .captureDone s = .next t ∧ Only [] [] s t) ∧
    (Cal.counting s → s.on L.CAL_CAP = true → s.rd R.CAL_ALARM_STAT_ARMED = 0 → ∃ t, exec .captureDone s = .next t ∧
      t.rd R.CAL_CAP_TIME = t.rd R.CAL_TIME % 2 ^ 21 ∧ t.rd R.CAL_CAP_DATE = t.rd R.CAL_DATE % 2 ^ 27 ∧ t.rd R.CAL_CAP_SUBSEC = t.rd R.CAL_SUBSEC ∧
      t.rd R.CAL_CAP_STAT_DONE = 1 ∧ t.rd L.CAL_CAP = 0 ∧ Only (Cal.countRegs ++ Cal.capRegs) [] s t) ∧
    (Taken s m R.CAL_COMMIT_GO →
      (s.on R.CAL_COMMIT_STAT_BUSY = true → ∃ t, exec (.calCommit m) s = .next t ∧ Only [] [] s t) ∧
      (s.on R.CAL_COMMIT_STAT_BUSY = false → Cal.valid (s.rd R.CAL_SH_TIME) (s.rd R.CAL_SH_DATE) →
        ∃ t, exec (.calCommit m) s = .next t ∧ t.rd R.CAL_COMMIT_STAT_BUSY = 1 ∧ Only [R.CAL_COMMIT_STAT_BUSY] [] s t) ∧
      (s.on R.CAL_COMMIT_STAT_BUSY = false → ¬ Cal.valid (s.rd R.CAL_SH_TIME) (s.rd R.CAL_SH_DATE) →
        ∃ t, exec (.calCommit m) s = .next t ∧ t.rd R.CAL_COMMIT_STAT_RESULT = 2 ∧ Only [R.CAL_COMMIT_STAT_RESULT] [] s t)) ∧
    (s.calRuns = false ∨ s.on R.CAL_COMMIT_STAT_BUSY = false → ∃ t, exec .commitDone s = .next t ∧ Only [] [] s t) ∧
    (s.calRuns = true → s.on R.CAL_COMMIT_STAT_BUSY = true → ∃ t, exec .commitDone s = .next t ∧ t.rd R.CAL_TIME = timeBits (s.rd R.CAL_SH_TIME) ∧
      t.rd R.CAL_DATE = dateOf (calDays (s.rd R.CAL_SH_DATE)) ∧ t.rd R.CAL_SUBSEC = 0 ∧ t.rd R.CAL_COMMIT_STAT_BUSY = 0 ∧
      t.rd R.CAL_COMMIT_STAT_RESULT = 1 ∧ t.rd R.CAL_COMMIT_STAT_SET_SINCE_OSF = 1 ∧ t.rd R.CAL_EVT_COMMIT_DONE = 1 ∧
      Only [R.CAL_TIME, R.CAL_DATE, R.CAL_SUBSEC, R.CAL_COMMIT_STAT_BUSY, R.CAL_COMMIT_STAT_RESULT, R.CAL_COMMIT_STAT_SET_SINCE_OSF,
        R.CAL_EVT_COMMIT_DONE, L.CAL_OPEN] [] s t) ∧
    (Taken s m R.CAL_ALARM_CMD_ARM → ∃ t, exec (.alarmArm m mask) s = .next t ∧ Only [R.CAL_ALARM_STAT_ARMED, R.CAL_ALARM_STAT_INVALID] [] s t ∧
      ∀ n < 2, (mask.toNat.testBit n = false → t.alarmOn n = s.alarmOn n) ∧
        (mask.toNat.testBit n = true → Cal.valid (s.rd (R.CAL_ALARM_TIME n)) (s.rd (R.CAL_ALARM_DATE n)) → t.alarmOn n = true) ∧
        (mask.toNat.testBit n = true → ¬ Cal.valid (s.rd (R.CAL_ALARM_TIME n)) (s.rd (R.CAL_ALARM_DATE n)) →
          t.alarmOn n = false ∧ (t.rd R.CAL_ALARM_STAT_INVALID).testBit n = true)) ∧
    (Taken s m R.CAL_ALARM_CMD_DISARM → ∃ t, exec (.alarmDisarm m mask) s = .next t ∧ Only [R.CAL_ALARM_STAT_ARMED] [] s t ∧
      ∀ n < 2, t.alarmOn n = (s.alarmOn n && !mask.toNat.testBit n)) ∧
    (s.calRuns = false ∨ s.rd R.CAL_ALARM_STAT_ARMED = 0 → ∃ t, exec .alarmFire s = .next t ∧ Only [] [] s t) ∧
    (Cal.counting s → Cal.steady s → s.rd L.CAL_ACC < 2 ^ 22 → ∀ n < 2, s.alarmOn n = true → s.calNow < s.alarmAt n → (∀ k < 2, s.alarmOn k = true → s.alarmAt n ≤ s.alarmAt k) →
      ∃ t, exec .alarmFire s = .next t ∧ t.alarmOn n = false ∧ (t.rd R.CAL_ALARM_STAT_FIRED).testBit n = true) ∧
    (s.calRuns = false → ∃ t, exec .epochWrap s = .next t ∧ Only [] [] s t) ∧
    (Cal.counting s → Cal.steady s → s.calNow < calRange → s.rd R.CAL_ALARM_STAT_ARMED = 0 → s.on L.CAL_CAP = false → s.rd L.CAL_ACC < 2 ^ 22 →
      ∃ t, exec .epochWrap s = .next t ∧ t.rd R.CAL_STAT_EPOCH_WRAP = 1 ∧ t.rd R.CAL_TIME = 0 ∧ t.rd R.CAL_DATE = 0x05000101 ∧ Only Cal.countRegs [] s t)

/-- R405 to R408, R415, R417: the calendar's oscillator, supply and trim. -/
def Obligations.CalendarUpkeep : Prop :=
  ∀ (s : State) (m : Master) (onBackup rising : Bool) (v : BitVec 13) (cycles : Nat),
    let on := s.domOn 0 = true
    let kind := rising = !s.on R.CAL_TRIM_CFG_PPS_EDGE
    let good := 32735 ≤ cycles ∧ cycles ≤ 32801
    (¬ on → ∀ i ∈ [.oscStop, .oscResume, .backupSwitch onBackup, .ppsEdge rising cycles, .ppsLost], ∃ t, exec i s = .next t ∧ Only [] [] s t) ∧
    (on → ∃ t, exec .oscStop s = .next t ∧ t.rd R.CAL_STAT_OSF = 1 ∧ t.rd R.CAL_COMMIT_STAT_SET_SINCE_OSF = 0 ∧ t.rd R.CAL_EVT_OSC_STOP = 1 ∧
      t.rd R.CAL_STAT_OSC_RUN = 0 ∧ t.calRuns = false ∧
      Only [R.CAL_STAT_OSF, R.CAL_COMMIT_STAT_SET_SINCE_OSF, R.CAL_EVT_OSC_STOP, R.CAL_STAT_OSC_RUN, R.HALL_CLK_STAT_LFXO_OK] [] s t) ∧
    (on → ∃ t, exec .oscResume s = .next t ∧ t.rd R.CAL_STAT_OSC_RUN = 1 ∧ t.calRuns = true ∧ Only [R.CAL_STAT_OSC_RUN, R.HALL_CLK_STAT_LFXO_OK] [] s t) ∧
    (Taken s m R.CAL_STAT_OSF → s.on R.CAL_COMMIT_STAT_SET_SINCE_OSF = true → ∃ t, exec (.osfClear m) s = .next t ∧ t.rd R.CAL_STAT_OSF = 0 ∧
      Only [R.CAL_STAT_OSF] [] s t) ∧
    (Taken s m R.CAL_STAT_OSF → s.on R.CAL_COMMIT_STAT_SET_SINCE_OSF = false → ∃ t, exec (.osfClear m) s = .next t ∧ Only [] [] s t) ∧
    (on → ∃ t, exec (.backupSwitch onBackup) s = .next t ∧ t.rd R.CAL_STAT_ON_BACKUP = (if onBackup then 1 else 0) ∧
      (onBackup = true → s.on R.CAL_STAT_ON_BACKUP = false → t.rd R.CAL_STAT_BACKUP_SEEN = 1) ∧
      Only [R.CAL_STAT_ON_BACKUP, R.SYSCTL_SUPPLY_STAT_ON_BACKUP, R.CAL_STAT_BACKUP_SEEN] [] s t) ∧
    (∃ t, exec .pdCalLost s = .next t ∧ t.domOn 0 = false ∧ t.islOn 1 = false ∧ t.calRuns = false ∧ (∀ d < 13, d ≠ 0 → t.domOn d = s.domOn d) ∧ MemKept s t ∧
      ListsKept s t) ∧
    (∃ t, exec .calPowerUp s = .next t ∧ t.domOn 0 = true ∧ t.islOn 1 = true ∧ t.rd R.CAL_TIME = 0 ∧ t.rd R.CAL_DATE = 0x05000101 ∧
      t.rd R.CAL_SUBSEC = 0 ∧ t.rd R.CAL_STAT_OSF = 1 ∧ t.rd R.CAL_ALARM_STAT_ARMED = 0 ∧ t.rd R.CAL_TRIM_VALUE = 0 ∧ MemKept s t ∧ ListsKept s t) ∧
    (Taken s m R.CAL_TRIM_VALUE → -2147 ≤ v.toInt → v.toInt ≤ 2147 → ∃ t, exec (.trimWrite m v) s = .next t ∧ t.rd R.CAL_TRIM_VALUE = v.toNat ∧
      t.rdS R.CAL_TRIM_VALUE = v.toInt ∧ Only [R.CAL_TRIM_VALUE] [] s t) ∧
    (Taken s m R.CAL_TRIM_VALUE → v.toInt < -2147 ∨ 2147 < v.toInt → ∃ t, exec (.trimWrite m v) s = .next t ∧ Only [] [] s t) ∧
    (on → ¬ kind → ∃ t, exec (.ppsEdge rising cycles) s = .next t ∧ Only [] [] s t) ∧
    (on → kind → s.on L.PPS_ON = false → ∃ t, exec (.ppsEdge rising cycles) s = .next t ∧ t.rd L.PPS_ON = 1 ∧ t.rd L.PPS_N = 0 ∧ t.rd L.PPS_SUM = 0 ∧
      Only [L.PPS_ON, L.PPS_N, L.PPS_SUM] [] s t) ∧
    (on → kind → s.on L.PPS_ON = true → ¬ good → ∃ t, exec (.ppsEdge rising cycles) s = .next t ∧ t.rd R.CAL_EVT_PPS_REJ = 1 ∧ t.rd L.PPS_N = 0 ∧
      t.rd L.PPS_SUM = 0 ∧ Only [R.CAL_PPS_REJ, R.CAL_EVT_PPS_REJ, L.PPS_N, L.PPS_SUM] [] s t) ∧
    (on → kind → s.on L.PPS_ON = true → good → s.rd R.CAL_TRIM_CFG_INTERVAL < 64 → s.rd L.PPS_N + 1 < max 1 (s.rd R.CAL_TRIM_CFG_INTERVAL) →
      s.rd L.PPS_SUM ≤ 32801 * s.rd L.PPS_N → s.on R.CAL_STAT_PPS_LOST = false → ∃ t, exec (.ppsEdge rising cycles) s = .next t ∧
        t.rd L.PPS_N = s.rd L.PPS_N + 1 ∧ t.rd L.PPS_SUM = s.rd L.PPS_SUM + cycles ∧ Only [L.PPS_N, L.PPS_SUM] [] s t) ∧
    (on → kind → s.on L.PPS_ON = true → good → s.rd R.CAL_TRIM_CFG_INTERVAL ≤ 1 → s.rd L.PPS_N = 0 → s.rd L.PPS_SUM = 0 →
      s.rd R.CAL_TRIM_CFG_MODE = 0 → ∃ t, exec (.ppsEdge rising cycles) s = .next t ∧ t.rd R.CAL_PPS_CNT = cycles ∧ t.rd L.PPS_N = 0 ∧
        t.rd L.PPS_SUM = 0 ∧ Only [R.CAL_PPS_CNT, L.PPS_N, L.PPS_SUM, L.PPS_GOOD, R.CAL_STAT_PPS_LOST] [] s t) ∧
    (on → ∃ t, exec .ppsLost s = .next t ∧ t.rd R.CAL_STAT_PPS_LOST = 1 ∧ Only [R.CAL_STAT_PPS_LOST, L.PPS_GOOD] [] s t)

/-- R421: timer t counts alone, without the fields of the test modes. -/
abbrev Tim.alone (s : State) (t : Nat) : Prop :=
  s.timRuns t = true ∧ s.timHigh t = false ∧ s.timLow t = false ∧ s.rd R.SYSCTL_MODE_MODE = 0 ∧ s.rd (R.TIM_CNT t) < 2 ^ 32

/-- R424: the edge is one the capture of timer t takes. -/
def Tim.captures (s : State) (t : Nat) (rising : Bool) : Prop :=
  let sel := s.rd (R.TIM_CAP_CFG_SEL t)
  s.online 25 = true ∧ s.on (R.TIM_CAP_CFG_EN t) = true ∧ s.timHigh t = false ∧
    (sel < 64 → rising = true ∧ s.evLevel sel = true) ∧ (64 ≤ sel → (s.rd R.GPIO_IN).testBit (sel - 64) = rising) ∧
    (s.rd (R.TIM_CAP_CFG_EDGE t)).testBit (if rising then 0 else 1) = true

/-- R421, R422, R424, R427 to R429, R431, R440: the timers. -/
def Obligations.Timers : Prop :=
  ∀ (s : State) (m : Master) (n : Fin 8) (k : Fin 4) (l : Fin 2) (second rising : Bool) (v : Word),
    let t := n.val
    let cnt := R.TIM_CNT t
    let regs := [cnt, R.TIM_STAT_WRAP t, R.TIM_STAT_CMP0 t, R.TIM_STAT_CMP1 t, L.TM_HIT t, L.TM_PH t]
    let cmp := if second then R.TIM_CMP1 t else R.TIM_CMP0 t
    (s.timHigh t = false → s.timRuns t = false → ∀ i ∈ [.timCompareMatch n second, .timWrap n], ∃ u, exec i s = .next u ∧ Only [] [] s u) ∧
    (Tim.alone s t → s.rd cmp < 2 ^ 32 → ∃ u, exec (.timCompareMatch n second) s = .next u ∧ u.rd cnt = s.rd cmp ∧
      u.rd (if second then R.TIM_STAT_CMP1 t else R.TIM_STAT_CMP0 t) = 1 ∧ (s.rd cmp ≤ s.rd cnt → u.rd (R.TIM_STAT_WRAP t) = 1) ∧ Only regs [] s u) ∧
    (Tim.alone s t → ∃ u, exec (.timWrap n) s = .next u ∧ u.rd cnt = 0 ∧ u.rd (R.TIM_STAT_WRAP t) = 1 ∧ Only regs [] s u) ∧
    (¬ Tim.captures s t rising → ∃ u, exec (.timCapture n rising) s = .next u ∧ Only [] [] s u) ∧
    (Tim.captures s t rising → s.rd (L.TM_EDGE t) + 1 < 2 ^ s.rd (R.TIM_CAP_CFG_PRE t) → s.rd (L.TM_EDGE t) < 7 →
      ∃ u, exec (.timCapture n rising) s = .next u ∧ u.rd (L.TM_EDGE t) = s.rd (L.TM_EDGE t) + 1 ∧ Only [L.TM_EDGE t] [] s u) ∧
    (Tim.captures s t rising → 2 ^ s.rd (R.TIM_CAP_CFG_PRE t) ≤ s.rd (L.TM_EDGE t) + 1 → s.rd cnt < 2 ^ 32 → s.timLow t = false →
      ∃ u, exec (.timCapture n rising) s = .next u ∧ u.rd (R.TIM_CAP t) = s.rd cnt ∧ u.rd (R.TIM_STAT_CAP t) = 1 ∧
        (s.rd (R.TIM_STAT_CAP t) = 1 → u.on (R.TIM_STAT_CAP_OVR t) = true) ∧ u.rd (L.TM_EDGE t) = 0 ∧
        Only [R.TIM_CAP t, R.TIM_STAT_CAP t, R.TIM_STAT_CAP_OVR t, L.TM_EDGE t] [] s u) ∧
    (let starts := s.online 25 = true ∧ s.on R.SYSCTL_MODE_MODE = true ∧ s.on (R.TIM_CFG_START_EN t) = true ∧ s.evLevel (s.rd (R.TIM_CFG_START_SEL t)) = true
     (¬ starts → ∃ u, exec (.timEventStart n) s = .next u ∧ Only [] [] s u) ∧
     (starts → ∃ u, exec (.timEventStart n) s = .next u ∧ u.rd (R.TIM_CTRL_EN t) = 1 ∧ Only [R.TIM_CTRL_EN t, L.TM_PH t] [] s u)) ∧
    (Taken s m (R.TIM_TOP t) → ∃ u, exec (.topWrite m n v) s = .next u ∧ u.rd (R.TIM_TOP t) = v.toNat ∧
      (v.toNat < s.rd cnt → u.rd (R.TIM_STAT_TOP_MISSED t) = 1) ∧ (s.rd cnt ≤ v.toNat → u.rd (R.TIM_STAT_TOP_MISSED t) = s.rd (R.TIM_STAT_TOP_MISSED t)) ∧
      Only [R.TIM_TOP t, R.TIM_STAT_TOP_MISSED t] [] s u) ∧
    (Taken s m (R.TIM_SNAP_CMD_GO (2 * k.val)) → s.rd (R.TIM_CNT (2 * k.val)) < 2 ^ 32 → s.rd (R.TIM_CNT (2 * k.val + 1)) < 2 ^ 32 →
      s.on (L.TM_CARRY (2 * k.val)) = false → ∃ u, exec (.timSnap m k) s = .next u ∧ u.rd (R.TIM_SNAP_LO (2 * k.val)) = s.rd (R.TIM_CNT (2 * k.val)) ∧
        u.rd (R.TIM_SNAP_HI (2 * k.val)) = s.rd (R.TIM_CNT (2 * k.val + 1)) ∧ Only [R.TIM_SNAP_LO (2 * k.val), R.TIM_SNAP_HI (2 * k.val)] [] s u) ∧
    (s.lpRuns l.val = false → ∀ i ∈ [.lptimMatch l, .lptimWrap l], ∃ u, exec i s = .next u ∧ Only [] [] s u) ∧
    (s.lpRuns l.val = true → s.rd (R.LPTIM_CNT l.val) < 2 ^ 32 → s.rd (R.LPTIM_MATCH l.val) < 2 ^ 32 → s.pwr = 0 →
      s.on R.SYSCTL_PWR_STAT_ENTERING = false →
      (∃ u, exec (.lptimMatch l) s = .next u ∧ u.rd (R.LPTIM_CNT l.val) = s.rd (R.LPTIM_MATCH l.val) ∧ u.rd (R.LPTIM_STAT_MATCH l.val) = 1 ∧
        Only [R.LPTIM_CNT l.val, R.LPTIM_STAT_MATCH l.val, R.LPTIM_STAT_WRAP l.val] [] s u) ∧
      (∃ u, exec (.lptimWrap l) s = .next u ∧ u.rd (R.LPTIM_CNT l.val) = 0 ∧ u.rd (R.LPTIM_STAT_WRAP l.val) = 1 ∧
        (s.rd (R.LPTIM_CNT l.val) < s.rd (R.LPTIM_MATCH l.val) → u.rd (R.LPTIM_STAT_MATCH l.val) = 1) ∧
        Only [R.LPTIM_CNT l.val, R.LPTIM_STAT_MATCH l.val, R.LPTIM_STAT_WRAP l.val] [] s u))

/-- R430, R432 to R434, R439, R497: watchdogs, software events, halts and rails. -/
def Obligations.WatchdogsHaltsAndRails : Prop :=
  ∀ (s : State) (m : Master) (k : BitVec 16) (w : Word) (v : BitVec 4) (rail : Fin 2) (low : Bool), Calm s →
    let aAt := s.rd R.WDA_CFG_TMO_T - s.rd R.WDA_CFG2_WARN_T
    let lAt := s.rd R.WDL_CFG_TMO_T - s.rd R.WDL_CFG2_WARN_T
    let aWarns := s.on R.WDA_CTRL_EN = true ∧ s.wdaHeld = false ∧ 0 < s.rd R.WDA_CFG2_WARN_T ∧ s.rd R.WDA_CFG2_WARN_T < s.rd R.WDA_CFG_TMO_T ∧
      s.rd R.WDA_STAT_COUNT < aAt
    let lWarns := s.on R.WDL_CTRL_EN = true ∧ s.wdlHeld = false ∧ 0 < s.rd R.WDL_CFG2_WARN_T ∧ s.rd R.WDL_CFG2_WARN_T < s.rd R.WDL_CFG_TMO_T ∧
      s.rd R.WDL_STAT_COUNT < lAt
    let aReset := fun (t : State) (early : Nat) => (t.rd R.SYSCTL_RST_CAUSE_KIND).testBit 3 = true ∧ t.rd R.WDA_STAT_EARLY = early ∧ t.rd R.WDA_STAT_COUNT = 0 ∧
      t.rd R.SYSCTL_PWR_STAT_STATE = 0
    let lReset := fun (t : State) (early : Nat) => (t.rd R.SYSCTL_RST_CAUSE_KIND).testBit 4 = true ∧ t.rd R.WDL_STAT_EARLY = early ∧ t.rd R.WDL_STAT_COUNT = 0 ∧
      t.rd R.LINK_STAT_CORES = 2
    let runs := s.rd R.LINK_STAT_CORES = 1 ∧ s.online 10 = true
    (¬ aWarns → ∃ t, exec .wdaWarn s = .next t ∧ Only [] [] s t) ∧
    (aWarns → s.rd R.WDA_CFG_TMO_T < 2 ^ 16 → ∃ t, exec .wdaWarn s = .next t ∧ t.rd R.WDA_STAT_COUNT = aAt ∧ t.rd L.WDA_WARNED = 1 ∧
      Only [R.WDA_STAT_COUNT, L.WDA_WARNED] [] s t) ∧
    (s.on R.WDA_CTRL_EN = false ∨ s.wdaHeld = true → ∃ t, exec .wdaTimeout s = .next t ∧ Only [] [] s t) ∧
    (s.on R.WDA_CTRL_EN = true → s.wdaHeld = false → ∃ t, exec .wdaTimeout s = .next t ∧ aReset t 0) ∧
    (Taken s m R.WDA_KICK_KEY →
      (m ≠ .app ∨ k ≠ 0x6D2B → ∃ t, exec (.wdaKick m k) s = .next t ∧ Only [] [] s t) ∧
      (m = .app → k = 0x6D2B → s.on R.WDA_CTRL_EN = true → s.rd R.WDA_STAT_COUNT < s.rd R.WDA_CFG_WIN_T →
        ∃ t, exec (.wdaKick m k) s = .next t ∧ aReset t 1) ∧
      (m = .app → k = 0x6D2B → s.on R.WDA_CTRL_EN = false ∨ s.rd R.WDA_CFG_WIN_T ≤ s.rd R.WDA_STAT_COUNT →
        ∃ t, exec (.wdaKick m k) s = .next t ∧ t.rd R.WDA_STAT_COUNT = 0 ∧ t.rd L.WDA_WARNED = 0 ∧ Only [R.WDA_STAT_COUNT, L.WDA_WARNED] [] s t)) ∧
    (¬ lWarns → ∃ t, exec .wdlWarn s = .next t ∧ Only [] [] s t) ∧
    (lWarns → s.rd R.WDL_CFG_TMO_T < 2 ^ 16 → ∃ t, exec .wdlWarn s = .next t ∧ t.rd R.WDL_STAT_COUNT = lAt ∧ t.rd L.WDL_WARNED = 1 ∧
      Only [R.WDL_STAT_COUNT, L.WDL_WARNED] [] s t) ∧
    (s.on R.WDL_CTRL_EN = false ∨ s.wdlHeld = true → ∃ t, exec .wdlTimeout s = .next t ∧ Only [] [] s t) ∧
    (s.on R.WDL_CTRL_EN = true → s.wdlHeld = false → ∃ t, exec .wdlTimeout s = .next t ∧ lReset t 0) ∧
    (w ≠ 0x6D2B ∨ ¬ runs → ∃ t, exec (.wdlKick w) s = .next t ∧ Only [] [] s t) ∧
    (w = 0x6D2B → runs → s.on R.WDL_CTRL_EN = true → s.rd R.WDL_STAT_COUNT < s.rd R.WDL_CFG_WIN_T → ∃ t, exec (.wdlKick w) s = .next t ∧ lReset t 1) ∧
    (w = 0x6D2B → runs → s.on R.WDL_CTRL_EN = false ∨ s.rd R.WDL_CFG_WIN_T ≤ s.rd R.WDL_STAT_COUNT →
      ∃ t, exec (.wdlKick w) s = .next t ∧ t.rd R.WDL_STAT_COUNT = 0 ∧ t.rd L.WDL_WARNED = 0 ∧ Only [R.WDL_STAT_COUNT, L.WDL_WARNED] [] s t) ∧
    (Taken s m R.EVM_SW → ∃ t, exec (.evmSwWrite m v) s = .next t ∧ t.rd R.EVM_SW = v.toNat ∧ Only [R.EVM_SW] [] s t) ∧
    (s.domOn 5 = true → s.rd R.FLASHC_RDP_LEVEL = 0 → ∃ t, exec .debugHalt s = .next t ∧ t.rd L.DBG_HALT = 1 ∧ Only [L.DBG_HALT] [] s t) ∧
    (s.domOn 5 = false ∨ s.rd R.FLASHC_RDP_LEVEL ≠ 0 → ∃ t, exec .debugHalt s = .next t ∧ Only [] [] s t) ∧
    (∃ t, exec .debugResume s = .next t ∧ t.rd L.DBG_HALT = 0 ∧ Only [L.DBG_HALT] [] s t) ∧
    (∃ t, exec (.vioRailChange rail low) s = .next t ∧ t.rd (L.VIO_LOW rail.val) = (if low then 1 else 0) ∧ MemKept s t ∧ ListsKept s t)

/-- R447: a non-final frame is queued, or dropped and counted where 16 such frames wait. -/
def HostLink.Queued (s t : State) (f : HostFrame) : Prop :=
  let n := (s.htx.filter fun x => !(x.typ == 2 && x.fin)).length
  (n < 16 → t.htx = s.htx ++ [f] ∧ t.rd R.HOSTP_CNT_Q_DROP = s.rd R.HOSTP_CNT_Q_DROP) ∧
  (16 ≤ n → t.htx = s.htx ∧ t.rd R.HOSTP_CNT_Q_DROP = min (s.rd R.HOSTP_CNT_Q_DROP + 1) 0xFFFF)

/-- Nothing changes but the listed registers, the frames for the host and its open commands. -/
def HostLink.FrameOnly (fs : List Fld) (s t : State) : Prop :=
  RegsBut fs s t ∧ FifosBut [] s t ∧ MemKept s t ∧ t.evq = s.evq ∧ t.late = s.late ∧ t.zq = s.zq ∧ t.armed = s.armed ∧ t.running = s.running ∧
    t.plan = s.plan ∧ t.pending = s.pending

/-- R30, R44: what a refused crossing of the host port's data path logs. -/
def HostLink.crossRegs : List Fld :=
  [R.HALL_STALL_CNT, R.HALL_STALL_LOG_SRC, R.HALL_STALL_LOG_DST, R.HALL_STALL_LOG_REASON, R.HALL_STALL_LOG_WRITE, R.HALL_STALL_LOG_LATE_DONE,
    R.HALL_STALL_LOG_VALID, R.HALL_STALL_ADDR]

/-- R30, R44: a refused crossing towards LINK is counted, and logged with PERIPH as its source where the log is empty. -/
def HostLink.Crossed (s t : State) : Prop :=
  t.rd R.HALL_STALL_CNT = min (s.rd R.HALL_STALL_CNT + 1) (2 ^ R.HALL_STALL_CNT.wid - 1) ∧
  (s.on R.HALL_STALL_LOG_VALID = false → t.rd R.HALL_STALL_LOG_VALID = 1 ∧ t.rd R.HALL_STALL_LOG_SRC = 10 ∧ t.rd R.HALL_STALL_LOG_DST = 3 ∧
    t.rd R.HALL_STALL_LOG_REASON = 2)

/-- R447: a command ends at once: its final frame is queued and no command is opened. -/
def HostLink.Refused (s t : State) (seq op : BitVec 8) (status crRet : Nat) : Prop :=
  t.htx = s.htx ++ [⟨2, seq.toNat, op.toNat, status, true, crRet, 0, []⟩] ∧ t.hcmd = s.hcmd ∧
    (∀ f ∈ [R.PBM_CREDITS_HOST, R.PBM_CREDITS_DEV], t.rd f = s.rd f)

/-- R444 to R448, R451: headers, silence and interim frames. -/
def Obligations.HostFramesAndCredits : Prop :=
  ∀ (s : State) (typ seq op : BitVec 8) (len hcrc : BitVec 16) (p : List Byte) (pcrc : Word), Calm s → p.length = len.toNat →
    let gate := s.online 33 = true ∧ s.on (L.VIO_LOW 0) = false
    let run := exec (.hostCmdHeader typ seq op len hcrc p pcrc) s
    let good := hostFcs ([0x7E#8, typ, seq, op] ++ leBytes 2 len.toNat) = hcrc.toNat ∧ typ = 1#8 ∧ len.toNat ≤ 1024
    let credits := 0 < s.rd R.PBM_CREDITS_HOST ∧ s.rd R.PBM_CREDITS_HOST + s.rd R.PBM_CREDITS_DEV = 64
    let taken (t : State) : Prop := t.rd R.PBM_CREDITS_HOST = s.rd R.PBM_CREDITS_HOST - 1 ∧ t.rd R.PBM_CREDITS_DEV = s.rd R.PBM_CREDITS_DEV + 1
    let installing := s.rd R.ATTIC_STAT_PHASE = 2 ∨ s.rd R.ATTIC_STAT_PHASE = 3 ∨ s.rd R.ATTIC_STAT_PHASE = 4
    let k := (len.toNat + 127) / 128
    let room := s.rd (R.PBM_LEDGER 6) + k ≤ s.rd (R.PBM_SHARE 6) ∧ (s.freeBufs k false).length = k
    let up := s.domOn 6 = true ∧ s.islOn 3 = true
    (¬ gate → ∃ t, run = .next t ∧ Only [] [] s t) ∧
    (gate → ¬ good → ∃ t, run = .next t ∧ t.rd R.HOSTP_CNT_HDR_ERR = min (s.rd R.HOSTP_CNT_HDR_ERR + 1) 0xFFFF ∧ t.rd R.HOSTP_EVT_HDR_ERR = 1 ∧
      Only [R.HOSTP_CNT_HDR_ERR, R.HOSTP_EVT_HDR_ERR] [] s t) ∧
    (gate → good → s.rd R.PBM_CREDITS_HOST = 0 → ∃ t, run = .next t ∧ HostLink.Refused s t seq op 4 0 ∧
      t.rd R.HOSTP_CNT_NO_CREDIT = min (s.rd R.HOSTP_CNT_NO_CREDIT + 1) 0xFFFF ∧ HostLink.FrameOnly [R.HOSTP_CNT_NO_CREDIT] s t) ∧
    (gate → good → credits →
      (len = 0#16 →
        (op.toNat ≠ 1 → installing → ∃ t, run = .next t ∧ HostLink.Refused s t seq op 1 1 ∧ HostLink.FrameOnly [] s t) ∧
        (¬ installing → op.toNat ∉ [1, 2, 3, 4, 5, 6, 7, 8] → ∃ t, run = .next t ∧ HostLink.Refused s t seq op 2 1 ∧ HostLink.FrameOnly [] s t) ∧
        (op.toNat = 1 ∨ ¬ installing ∧ op.toNat ∈ [2, 3, 4, 5, 6, 7, 8] → ∃ t, run = .next t ∧ taken t ∧ t.htx = s.htx ∧
          t.hcmd = s.hcmd ++ [⟨seq.toNat, op.toNat, true, 0, 0, false⟩] ∧
          (op.toNat ≠ 1 → s.on R.SYSCTL_PWR_STAT_ENTERING = true → s.rd L.ENT_PT < 6 → t.rd L.ENT_ABORT = 1) ∧
          (op.toNat = 1 ∨ s.on R.SYSCTL_PWR_STAT_ENTERING = false ∨ 6 ≤ s.rd L.ENT_PT → t.rd L.ENT_ABORT = s.rd L.ENT_ABORT) ∧
          HostLink.FrameOnly [R.PBM_CREDITS_HOST, R.PBM_CREDITS_DEV, L.ENT_ABORT] s t)) ∧
      (len ≠ 0#16 → up → ¬ room → ∃ t, run = .next t ∧ HostLink.Refused s t seq op 1 1 ∧ HostLink.FrameOnly [] s t) ∧
      (len ≠ 0#16 → ¬ up → ∃ t, run = .next t ∧ HostLink.Refused s t seq op 1 1 ∧ HostLink.Crossed s t ∧ HostLink.FrameOnly HostLink.crossRegs s t) ∧
      (len ≠ 0#16 → up → room → hostC32 p ≠ pcrc.toNat → ∃ t, run = .next t ∧ HostLink.Refused s t seq op 5 1) ∧
      (len ≠ 0#16 → up → room → hostC32 p = pcrc.toNat → op.toNat ≠ 1 → installing → ∃ t, run = .next t ∧ HostLink.Refused s t seq op 1 1) ∧
      (len ≠ 0#16 → up → room → hostC32 p = pcrc.toNat → ¬ installing → op.toNat ∉ [1, 2, 3, 4, 5, 6, 7, 8] →
        ∃ t, run = .next t ∧ HostLink.Refused s t seq op 2 1) ∧
      (len ≠ 0#16 → up → room → hostC32 p = pcrc.toNat → op.toNat = 1 ∨ ¬ installing ∧ op.toNat ∈ [2, 3, 4, 5, 6, 7, 8] →
        ∃ t h, run = .next t ∧ taken t ∧ t.htx = s.htx ∧ t.hcmd = s.hcmd ++ [⟨seq.toNat, op.toNat, true, h + 1, len.toNat, false⟩] ∧
          t.chain 2048 h = s.freeBufs k false ∧ t.chainBytes (t.chain 2048 h) = p ∧ (∀ b ∈ t.chain 2048 h, t.owner b = 6) ∧
          (∀ a, regionOf a ≠ .pbm → t.rdB a = s.rdB a) ∧ t.evq = s.evq ∧ t.armed = s.armed ∧ t.running = s.running)) ∧
    (s.online 33 = false → ∃ t, exec .hostFrameTimeout s = .next t ∧ Only [] [] s t) ∧
    (s.online 33 = true → ∃ t, exec .hostFrameTimeout s = .next t ∧ t.rd R.HOSTP_CNT_HDR_ERR = min (s.rd R.HOSTP_CNT_HDR_ERR + 1) 0xFFFF ∧
      t.rd R.HOSTP_EVT_HDR_ERR = 1 ∧ Only [R.HOSTP_CNT_HDR_ERR, R.HOSTP_EVT_HDR_ERR] [] s t) ∧
    (s.online 33 = false ∨ (∀ c ∈ s.hcmd, c.interim = true) → ∃ t, exec .hostInterimStatus s = .next t ∧ Only [] [] s t) ∧
    (∀ c, s.online 33 = true → s.hcmd.find? (fun c => !c.interim) = some c → ∃ t, exec .hostInterimStatus s = .next t ∧
      HostLink.Queued s t ⟨2, c.seq, c.op, 0, false, 0, 0, []⟩ ∧ t.hcmd = s.hcmd.replace c { c with interim := true } ∧
      HostLink.FrameOnly [R.HOSTP_CNT_Q_DROP] s t)

/-- R447: a command ends with its final frame, its credit and its payload chain returned. -/
def HostLink.Ends (s t : State) (c : HostCmd) (status detail : Nat) (data : List Byte) : Prop :=
  t.htx = s.htx ++ [⟨2, c.seq, c.op, status, true, b2n c.credit, detail, data⟩] ∧ t.hcmd = s.hcmd.erase c ∧
    t.rd R.PBM_CREDITS_HOST = s.rd R.PBM_CREDITS_HOST + b2n c.credit ∧ t.rd R.PBM_CREDITS_DEV = s.rd R.PBM_CREDITS_DEV - b2n c.credit ∧
    (c.head ≠ 0 → ∀ b ∈ s.chain 2048 (c.head - 1), s.owner b = 6 → t.owner b = 0) ∧ MemKept s t

/-- What the end of a command without a payload changes besides the listed registers. -/
def HostLink.Bare (fs : List Fld) (s t : State) (c : HostCmd) : Prop :=
  c.head = 0 → HostLink.FrameOnly (R.PBM_CREDITS_HOST :: R.PBM_CREDITS_DEV :: fs) s t

/-- R30, R258: the data path reaches a command's payload: LINK is powered, and its chain ends and lies in buffers of HOST. -/
def HostLink.Held (s : State) (c : HostCmd) : Prop :=
  c.head = 0 ∨ (s.domOn 6 = true ∧ s.islOn 3 = true ∧ s.chainEnds 2048 (c.head - 1) = true ∧ ∀ b ∈ s.chain 2048 (c.head - 1), s.owner b = 6)

/-- R380: the first check that refuses a command of the host, 0 for none: those of the application core, under the other
authority. -/
def HostLink.powerCheck (s : State) (tgt : Nat) : Nat :=
  if s.on R.SYSCTL_PWR_CFG_AUTHORITY = true then 1
  else if s.on R.SYSCTL_PWR_STAT_ENTERING = false ∧ 4 < tgt then 3
  else Power.check (s.wr R.SYSCTL_PWR_CFG_AUTHORITY 1) tgt

/-- R379, R380, R448: SET_POWER. -/
def HostLink.SetPowerRules (s : State) (c : HostCmd) (p : List Byte) : Prop :=
  let st := s.rd R.SYSCTL_PWR_STAT_STATE
  let waits := s.on R.SYSCTL_PWR_STAT_ENTERING = true ∧ s.rd R.SYSCTL_PWR_CFG_AUTHORITY = 0 ∧ s.rd L.ENT_PT = 0
  let mine := s.hcmd.filter fun c => c.op == 2
  (waits → mine = [c] → ∃ t, exec .setPower s = .next t ∧ Only [] [] s t) ∧
  (waits → s.on L.ENT_ABORT = false → (∃ l, mine = c :: l) → ∃ t, exec (.entryStepDone false) s = .next t ∧ HostLink.Ends s t c 0 0 [] ∧
    t.rd L.ENT_PT = 1 ∧ t.rd R.SYSCTL_PWR_STAT_PENDING = 1) ∧
  ((¬ waits ∧ (∃ l, mine = c :: l)) ∨ (waits ∧ ∃ a l, mine = a :: c :: l) →
    (¬ HostLink.Held s c → ∃ t, exec .setPower s = .next t ∧ HostLink.Ends s t c 5 0 []) ∧
    (HostLink.Held s c → p.length ≠ 1 → ∃ t, exec .setPower s = .next t ∧ HostLink.Ends s t c 2 0 [] ∧ HostLink.Bare [] s t c) ∧
    (HostLink.Held s c → p.length = 1 →
      let tgt := ofLe p
      let code := HostLink.powerCheck s tgt
      (code ≠ 0 → ∃ t, exec .setPower s = .next t ∧ HostLink.Ends s t c 2 code [] ∧ t.rd R.SYSCTL_PWR_STAT_REFUSE = code ∧
        t.rd R.SYSCTL_EVT_REFUSED = 1 ∧ HostLink.Bare [R.SYSCTL_PWR_STAT_REFUSE, R.SYSCTL_EVT_REFUSED] s t c) ∧
      (code = 0 → tgt = st → ∃ t, exec .setPower s = .next t ∧ HostLink.Ends s t c 0 0 [] ∧ HostLink.Bare [] s t c) ∧
      (code = 0 → tgt ≠ st → tgt = 0 → s.on L.BOOT_DUE = false → ∃ t, exec .setPower s = .next t ∧ HostLink.Ends s t c 0 0 [] ∧
        t.rd R.SYSCTL_PWR_STAT_STATE = 0 ∧ t.rd L.CORE_STOP = 0 ∧ HostLink.Bare [R.SYSCTL_PWR_STAT_STATE, L.CORE_STOP] s t c) ∧
      (code = 0 → tgt ≠ st → tgt = 1 → ∃ t, exec .setPower s = .next t ∧ HostLink.Ends s t c 0 0 [] ∧
        t.rd R.SYSCTL_PWR_STAT_STATE = 1 ∧ t.rd L.CORE_STOP = 1 ∧ HostLink.Bare [R.SYSCTL_PWR_STAT_STATE, L.CORE_STOP] s t c) ∧
      (code = 0 → tgt ≠ st → 2 ≤ tgt → ∃ t, exec .setPower s = .next t ∧ t.rd R.SYSCTL_PWR_STAT_ENTERING = 1 ∧ t.rd L.ENT_TGT = tgt ∧ t.rd L.ENT_PT = 0 ∧
        Only [R.SYSCTL_PWR_STAT_ENTERING, L.ENT_TGT, L.ENT_PT, L.ENT_ACK, L.ENT_ABORT] [] s t)))

/-- R62, R448: FLOOR_RELOAD. -/
def HostLink.ReloadRules (s : State) (c : HostCmd) : Prop :=
  let idle (r : Radio) : Prop := s.rd (R.FE_STAT_STATE r) = 0 ∨ s.rd (R.FE_STAT_STATE r) = 1
  let still := s.rd R.SYSCTL_PWR_STAT_STATE = 0 ∧ s.on R.SYSCTL_PWR_STAT_ENTERING = false
  let quiet := idle .cirrus ∧ idle .stratus ∧ s.armed = [] ∧ s.running = []
  let refused (n : Nat) : Prop := ∃ t, exec .floorReload s = .next t ∧ HostLink.Ends s t c 2 n [] ∧ t.rd R.FLOOR_RELOAD_STAT_REASON = n ∧
    t.rd R.FLOOR_STATUS_RELOAD_BUSY = 0 ∧ HostLink.Bare [R.FLOOR_RELOAD_STAT_REASON] s t c
  (s.on R.FLOOR_STATUS_RELOAD_BUSY = true → ∃ t, exec .floorReload s = .next t ∧ Only [] [] s t) ∧
  (s.on R.FLOOR_STATUS_RELOAD_BUSY = false →
    (s.on R.FLOOR_CTRL_LOCK = true → refused (s.rd R.FLOOR_RELOAD_STAT_REASON)) ∧
    (s.on R.FLOOR_CTRL_LOCK = false →
      (¬ still → refused 2) ∧ (still → ¬ quiet → refused 3) ∧ (still → quiet → s.on R.FLASHC_STAT_BUSY0 = true → refused 4) ∧
      (still → quiet → s.on R.FLASHC_STAT_BUSY0 = false → ∃ t, exec .floorReload s = .next t ∧ t.rd R.FLOOR_STATUS_RELOAD_BUSY = 1 ∧
        Only [R.FLOOR_STATUS_RELOAD_BUSY] [] s t)))

/-- R62, R379, R380, R392, R446 to R448: six opcodes. -/
def Obligations.HostOpcodes : Prop :=
  ∀ (s : State) (c : HostCmd), Calm s → c.head ≤ 2048 →
    (∀ o ∈ [(1, Instr.status), (2, .setPower), (3, .getWake), (4, .floorReload), (7, .setBaud), (8, .sysReset)],
      s.online 33 = false ∨ (∀ c ∈ s.hcmd, c.op ≠ o.1) → ∃ t, exec o.2 s = .next t ∧ Only [] [] s t) ∧
    (s.online 33 = true → s.rd R.PBM_CREDITS_HOST + s.rd R.PBM_CREDITS_DEV = 64 → 0 < s.rd R.PBM_CREDITS_DEV →
      let p := s.hostPayload c
      let first (op : Nat) : Prop := ∃ l, (s.hcmd.filter fun c => c.op == op) = c :: l
      (first 1 → ∃ t, exec .status s = .next t ∧ HostLink.Bare [] s t c ∧
        HostLink.Ends s t c 0 0 ([s.tabRead R.rowsSYSCTL 0x14, s.tabRead R.rowsSYSCTL 0x30, s.tabRead R.rowsSYSCTL 0x38, s.tabRead R.rowsFLOOR 0x8,
          s.tabRead R.rowsFLOOR 0xC, s.tabRead R.rowsATTIC 0x4].flatMap (leBytes 4))) ∧
      (first 3 → ∃ t, exec .getWake s = .next t ∧ t.rd L.HP_IRQ = 0 ∧ HostLink.Bare [L.HP_IRQ] s t c ∧
        HostLink.Ends s t c 0 0 ([s.tabRead R.rowsSYSCTL 0x30, s.rd R.SYSCTL_PWR_STAT_LAST_STATE].flatMap (leBytes 4))) ∧
      HostLink.SetPowerRules s c p ∧
      (first 4 → HostLink.ReloadRules s c) ∧
      (first 7 →
        let ok := s.rd R.HOSTP_CFG_HP_MODE = 1 ∧ p.length = 2 ∧ 24 ≤ ofLe p
        (¬ HostLink.Held s c → ∃ t, exec .setBaud s = .next t ∧ HostLink.Ends s t c 5 0 []) ∧
        (HostLink.Held s c → ¬ ok → ∃ t, exec .setBaud s = .next t ∧ HostLink.Ends s t c 2 0 [] ∧ HostLink.Bare [] s t c) ∧
        (HostLink.Held s c → ok → ∃ t, exec .setBaud s = .next t ∧ HostLink.Ends s t c 0 0 [] ∧ t.rd R.HOSTP_UART_DIV = ofLe p ∧ HostLink.Bare [R.HOSTP_UART_DIV] s t c)) ∧
      (first 8 →
        let ok := p.length = 2 ∧ ofLe p = 0xA5C3
        (¬ HostLink.Held s c → ∃ t, exec .sysReset s = .next t ∧ HostLink.Ends s t c 5 0 []) ∧
        (HostLink.Held s c → ¬ ok → ∃ t, exec .sysReset s = .next t ∧ HostLink.Ends s t c 2 0 [] ∧ HostLink.Bare [] s t c) ∧
        (HostLink.Held s c → ok → ∃ t, exec .sysReset s = .next t ∧ bit (t.rd R.SYSCTL_RST_CAUSE_KIND) 7 = true ∧ t.lt = s.lt ∧ t.rd R.SYSCTL_PWR_STAT_STATE = 0 ∧
          t.on L.FP_LOADING = true ∧ (∀ d ∈ [5, 6, 7, 8, 9, 10, 11, 12], t.domOn d = false))))

/-- R449: an open APP_MSG ends with its final frame; MSG shows the next one. -/
def HostLink.Answered (s t : State) (c : HostCmd) (status detail : Nat) (data : List Byte) : Prop :=
  t.htx = s.htx ++ [⟨2, c.seq, c.op, status, true, b2n c.credit, detail, data⟩] ∧ t.hcmd = s.hcmd.erase c ∧
    t.rd R.PBM_CREDITS_HOST = s.rd R.PBM_CREDITS_HOST + b2n c.credit ∧ t.rd R.PBM_CREDITS_DEV = s.rd R.PBM_CREDITS_DEV - b2n c.credit ∧
    t.rd L.H_NMSG = s.rd L.H_NMSG - 1 ∧
    (∀ d l, s.openMsgs = c :: d :: l → d.seq < 256 → d.len ≤ 1024 → d.head ≤ 2048 →
      t.rd R.HOSTP_MSG_HEAD = d.head - 1 ∧ t.rd R.HOSTP_MSG_SEQ = d.seq ∧ t.rd R.HOSTP_MSG_LEN = d.len)

/-- What an answer without data changes besides the listed registers. -/
def HostLink.AnswerOnly (fs : List Fld) (s t : State) : Prop :=
  HostLink.FrameOnly ([R.PBM_CREDITS_HOST, R.PBM_CREDITS_DEV, L.H_NMSG, R.HOSTP_MSG_HEAD, R.HOSTP_MSG_SEQ, R.HOSTP_MSG_LEN] ++ fs) s t

/-- R449, R452: APP_MSG, RSP_GO and their time-out. -/
def HostLink.MessageRules (s : State) (m : Master) (c : HostCmd) : Prop :=
  let walk := s.checkWalk 6 2048 (c.head - 1)
  let up := s.domOn 6 = true ∧ s.islOn 3 = true
  let room := up ∧ walk.1 = 1 ∧ s.rd (R.PBM_LEDGER 5) + walk.2.length ≤ s.rd (R.PBM_SHARE 5) ∧ s.rd L.H_NMSG < 4
  let next := ∃ l, (s.hcmd.filter fun c => c.op == 5).drop (s.rd L.H_NMSG) = c :: l
  let len := s.rd R.HOSTP_RSP_DATA_LEN
  let back := s.checkWalk 5 2048 (s.rd R.HOSTP_RSP_DATA_HEAD)
  let moves := up ∧ back.1 = 1 ∧ s.rd (R.PBM_LEDGER 6) + back.2.length ≤ s.rd (R.PBM_SHARE 6)
  ((s.hcmd.filter fun c => c.op == 5).drop (s.rd L.H_NMSG) = [] → ∃ t, exec .appMsg s = .next t ∧ Only [] [] s t) ∧
  (s.online 33 = true → next →
    (s.rd R.SYSCTL_PWR_STAT_STATE ≠ 0 → ∃ t, exec .appMsg s = .next t ∧ HostLink.Ends s t c 2 1 [] ∧ HostLink.Bare [] s t c) ∧
    (s.rd R.SYSCTL_PWR_STAT_STATE = 0 → c.head = 0 → ∃ t, exec .appMsg s = .next t ∧ HostLink.Ends s t c 2 0 [] ∧ HostLink.Bare [] s t c) ∧
    (s.rd R.SYSCTL_PWR_STAT_STATE = 0 → c.head ≠ 0 → ¬ room → ∃ t, exec .appMsg s = .next t ∧ HostLink.Ends s t c 1 0 []) ∧
    (s.rd R.SYSCTL_PWR_STAT_STATE = 0 → c.head ≠ 0 → room → ∃ t, exec .appMsg s = .next t ∧ t.rd L.H_NMSG = s.rd L.H_NMSG + 1 ∧
      t.rd R.HOSTP_EVT_MSG = 1 ∧ (∀ b ∈ walk.2, t.owner b = 5) ∧ t.hcmd = s.hcmd ∧ t.htx = s.htx ∧ MemKept s t ∧
      (s.rd L.H_NMSG = 0 → c.seq < 256 → c.len ≤ 1024 →
        t.rd R.HOSTP_MSG_HEAD = c.head - 1 ∧ t.rd R.HOSTP_MSG_SEQ = c.seq ∧ t.rd R.HOSTP_MSG_LEN = c.len))) ∧
  (Taken s m R.HOSTP_RSP_GO →
    (0 < s.rd L.H_DISC → s.rd L.H_DISC < 2 ^ 16 → ∃ t, exec (.rspGo m) s = .next t ∧ t.rd L.H_DISC = s.rd L.H_DISC - 1 ∧ Only [L.H_DISC] [] s t) ∧
    (s.rd L.H_DISC = 0 → s.openMsgs = [] → ∃ t, exec (.rspGo m) s = .next t ∧ Only [] [] s t) ∧
    (s.rd L.H_DISC = 0 → (∃ l, s.openMsgs = c :: l) → s.rd L.H_NMSG < 8 → s.rd R.HOSTP_RSP_DATA_HEAD < 2048 →
      (len = 0 → ∃ t, exec (.rspGo m) s = .next t ∧ HostLink.Answered s t c (s.rd R.HOSTP_RSP_STATUS) (s.rd R.HOSTP_RSP_DETAIL) [] ∧
        HostLink.AnswerOnly [] s t) ∧
      (len ≠ 0 → moves → ∃ t, exec (.rspGo m) s = .next t ∧ (∀ b ∈ back.2, t.owner b = 0) ∧
        HostLink.Answered s t c (s.rd R.HOSTP_RSP_STATUS) (s.rd R.HOSTP_RSP_DETAIL) ((s.chainBytes back.2).take len) ∧ MemKept s t) ∧
      (len ≠ 0 → up → ¬ moves → ∃ t, exec (.rspGo m) s = .next t ∧ HostLink.Answered s t c 5 (s.rd R.HOSTP_RSP_DETAIL) [] ∧
        HostLink.AnswerOnly [] s t) ∧
      (len ≠ 0 → ¬ up → ∃ t, exec (.rspGo m) s = .next t ∧ HostLink.Answered s t c 5 (s.rd R.HOSTP_RSP_DETAIL) [] ∧ HostLink.Crossed s t ∧
        HostLink.AnswerOnly HostLink.crossRegs s t))) ∧
  (s.online 33 = true → (∃ l, s.openMsgs = c :: l) → s.rd L.H_NMSG < 8 → s.rd L.H_DISC + 1 < 2 ^ 16 → ∃ t, exec .appTmoExpire s = .next t ∧
    HostLink.Answered s t c 5 0 [] ∧ HostLink.AnswerOnly [L.H_DISC, R.HOSTP_EVT_TMO] s t ∧ t.rd L.H_DISC = s.rd L.H_DISC + 1 ∧ t.rd R.HOSTP_EVT_TMO = 1)

/-- R449: POST_GO. -/
def HostLink.PostRules (s : State) (m : Master) : Prop :=
  let len := s.rd R.HOSTP_POST_DATA_LEN
  let walk := s.checkWalk 5 2048 (s.rd R.HOSTP_POST_DATA_HEAD)
  let up := s.domOn 6 = true ∧ s.islOn 3 = true
  let moves := up ∧ walk.1 = 1 ∧ s.rd (R.PBM_LEDGER 6) + walk.2.length ≤ s.rd (R.PBM_SHARE 6)
  let event (d : List Byte) : HostFrame := ⟨3, s.rd L.H_EVSEQ, s.rd R.HOSTP_POST_TYPE, 0, false, 0, 0, d⟩
  Taken s m R.HOSTP_POST_GO → s.rd R.HOSTP_POST_DATA_HEAD < 2048 →
    (len = 0 → ∃ t, exec (.postGo m) s = .next t ∧ HostLink.Queued s t (event []) ∧ t.rd L.H_EVSEQ = (s.rd L.H_EVSEQ + 1) % 256 ∧
      t.hcmd = s.hcmd ∧ HostLink.FrameOnly [L.H_EVSEQ, R.HOSTP_CNT_Q_DROP] s t) ∧
    (len ≠ 0 → moves → ∃ t, exec (.postGo m) s = .next t ∧ HostLink.Queued s t (event ((s.chainBytes walk.2).take len)) ∧
      (∀ b ∈ walk.2, t.owner b = 0) ∧ t.hcmd = s.hcmd ∧ MemKept s t) ∧
    (len ≠ 0 → up → ¬ moves → ∃ t, exec (.postGo m) s = .next t ∧ Only [] [] s t) ∧
    (len ≠ 0 → ¬ up → ∃ t, exec (.postGo m) s = .next t ∧ HostLink.Crossed s t ∧ Only HostLink.crossRegs [] s t)

/-- R450: the octets a job returns: its output, and a tag that it computes without verifying. -/
def HostLink.outLen (d : List Byte) : Nat :=
  let m := dscMode d
  let verifies := m = 5 ∨ m = 7 ∨ ((m = 2 ∨ m = 3) ∧ dscVerify d = true)
  (if m = 2 ∨ m = 3 then 0 else dscDataLen d) + (if 2 ≤ m ∧ ¬ verifies then dscTagLen d else 0)

/-- R450: CIPHER_JOB. -/
def HostLink.JobRules (s : State) (c : HostCmd) (p : List Byte) : Prop :=
  let idle := s.online 13 = true ∧ s.chRun 1 = false
  let d := p.take 96
  let n := HostLink.outLen d
  let k := max 1 ((n + 127) / 128)
  let room := s.rd (R.PBM_LEDGER 6) + k ≤ s.rd (R.PBM_SHARE 6) ∧ (s.freeBufs k false).length = k
  (∃ l, (s.hcmd.filter fun c => c.op == 6 && !(s.on L.H_OUT && s.rd (R.CIPHER_Q_CUR 1) == bufAddr (c.head - 1))) = c :: l) →
    (¬ HostLink.Held s c → ∃ t, exec .cipherJob s = .next t ∧ HostLink.Ends s t c 5 0 []) ∧
    (HostLink.Held s c → ¬ idle → ∃ t, exec .cipherJob s = .next t ∧ HostLink.Ends s t c 1 0 [] ∧ HostLink.Bare [] s t c) ∧
    (HostLink.Held s c → idle → p.length < 96 → ∃ t, exec .cipherJob s = .next t ∧ HostLink.Ends s t c 2 3 [] ∧ HostLink.Bare [] s t c) ∧
    (HostLink.Held s c → idle → 96 ≤ p.length →
      (dscKsrc d ≠ 1 → ∃ t, exec .cipherJob s = .next t ∧ HostLink.Ends s t c 2 6 []) ∧
      (dscKsrc d = 1 → 0x40000 < n → ∃ t, exec .cipherJob s = .next t ∧ HostLink.Ends s t c 2 4 []) ∧
      (dscKsrc d = 1 → n ≤ 0x40000 → ¬ room → ∃ t, exec .cipherJob s = .next t ∧ HostLink.Ends s t c 1 0 []) ∧
      (dscKsrc d = 1 → n ≤ 0x40000 → room → ∃ t, exec .cipherJob s = .next t ∧ t.chRun 1 = true ∧
        t.rd (R.CIPHER_Q_CUR 1) = bufAddr (c.head - 1) ∧ t.rd L.H_OUTN = n ∧ (∀ b ∈ s.freeBufs k false, t.owner b = 6) ∧
        t.hcmd = s.hcmd ∧ t.htx = s.htx ∧ ∀ a, regionOf a ≠ .pbm → t.rdB a = s.rdB a))

/-- R447, R449 to R452: messages, events and jobs. -/
def Obligations.HostMessagesAndJobs : Prop :=
  ∀ (s : State) (m : Master) (c : HostCmd), Calm s → c.head ≤ 2048 →
    (s.online 33 = false ∨ (∀ c ∈ s.hcmd, c.op ≠ 5 ∧ c.op ≠ 6) →
      ∀ i ∈ [Instr.appMsg, .appTmoExpire, .cipherJob], ∃ t, exec i s = .next t ∧ Only [] [] s t) ∧
    (s.rd R.PBM_CREDITS_HOST + s.rd R.PBM_CREDITS_DEV = 64 → 0 < s.rd R.PBM_CREDITS_DEV →
      HostLink.MessageRules s m c ∧ (s.online 33 = true → HostLink.JobRules s c (s.hostPayload c))) ∧
    HostLink.PostRules s m

/-- R485: the record of controller t. -/
def Can.record (t : Nat) : List Fld :=
  [R.FAULT_INFLIGHT_OP (14 + t), R.FAULT_INFLIGHT_STEP (14 + t), R.FAULT_INFLIGHT_PROG (14 + t), R.FAULT_INFLIGHT_DETAIL (14 + t),
    R.FAULT_INFLIGHT_DETAIL2 (14 + t), R.FAULT_IF_OVERRUN]

/-- R457: controller t takes part in the bus. -/
abbrev Can.joined (s : State) (t : Nat) : Prop :=
  (s.rd (R.CAN_STAT_STATE t) = 1 ∨ s.rd (R.CAN_STAT_STATE t) = 2) ∧ s.on (L.CN_INTEG t) = false

/-- R455: the frame of buffer b in the state is the one that enters arbitration. -/
def Can.First (s : State) (t b : Nat) : Prop :=
  let prio (i : Nat) : Nat := canPrio (s.rd (canWord t i 0)) (s.rd (canWord t i 1))
  b < 16 ∧ (s.rd (R.CAN_TX_REQ t)).testBit b = true ∧
    ∀ c < 16, (s.rd (R.CAN_TX_REQ t)).testBit c = true → prio b < prio c ∨ prio b = prio c ∧ b ≤ c

/-- R455: the frame on the bus afterwards: the first of those pending, where the controller takes part and none was on it. -/
def Can.Starts (s t : State) (n : Nat) : Prop :=
  (s.rd (L.CN_BUS n) ≠ 0 ∨ ¬ Can.joined s n ∨ t.rd (R.CAN_TX_REQ n) = 0 → t.rd (L.CN_BUS n) = s.rd (L.CN_BUS n)) ∧
  (s.rd (L.CN_BUS n) = 0 → Can.joined s n → t.rd (R.CAN_TX_REQ n) ≠ 0 → ∃ b, t.rd (L.CN_BUS n) = b + 1 ∧ Can.First t n b)

/-- R455: the three rows of the transmit buffers. -/
def Can.TransmitRules (s : State) (m : Master) (n : Fin 2) (v : BitVec 16) : Prop :=
  let t := n.val
  let bus := s.rd (L.CN_BUS t)
  let canc := [R.CAN_TX_REQ t, L.CN_CANC t] ++ Can.record t
  (Taken s m (R.CAN_TX_REQ t) → s.rd (R.CAN_TX_REQ t) < 2 ^ 16 → ∀ idle : Bool, ∃ u, exec (.txReqWrite m n v idle) s = .next u ∧
    u.rd (R.CAN_TX_REQ t) = s.rd (R.CAN_TX_REQ t) ||| v.toNat ∧ (idle = false → u.rd (L.CN_BUS t) = bus) ∧ (idle = true → Can.Starts s u t) ∧
    Only ([R.CAN_TX_REQ t, L.CN_BUS t] ++ Can.record t) [] s u) ∧
  (Taken s m (R.CAN_TX_CANCEL t) → s.rd (R.CAN_TX_REQ t) < 2 ^ 16 → bus ≤ 16 → ∃ u, exec (.txCancel m n v) s = .next u ∧
    (∀ b < 16, (u.rd (R.CAN_TX_REQ t)).testBit b = ((s.rd (R.CAN_TX_REQ t)).testBit b && (!v.toNat.testBit b || b + 1 == bus))) ∧
    (bus ≠ 0 → v.toNat.testBit (bus - 1) = true → (u.rd (L.CN_CANC t)).testBit (bus - 1) = true) ∧
    u.rd (L.CN_BUS t) = bus ∧ Only canc [] s u) ∧
  (s.online (34 + t) = false ∨ bus = 0 → ∃ u, exec (.canTxDone n) s = .next u ∧ Only [] [] s u) ∧
  (s.online (34 + t) = true → bus ≠ 0 → bus ≤ 16 → s.rd (R.CAN_TX_REQ t) < 2 ^ 16 → s.rd (R.CAN_STAT_TEC t) < 2 ^ 9 → Can.joined s t →
    ∃ u, exec (.canTxDone n) s = .next u ∧
    (u.rd (R.CAN_TX_DONE t)).testBit (bus - 1) = true ∧ u.rd (R.CAN_EVT_TX_DONE t) = 1 ∧
    (∀ b < 16, (u.rd (R.CAN_TX_REQ t)).testBit b = ((s.rd (R.CAN_TX_REQ t)).testBit b && b + 1 != bus)) ∧
    u.rd (R.CAN_STAT_TEC t) = s.rd (R.CAN_STAT_TEC t) - 1 ∧
    (u.rd (R.CAN_TX_REQ t) = 0 → u.rd (L.CN_BUS t) = 0) ∧
    (s.rd (R.CAN_STAT_TEC t) ≤ 255 → u.rd (R.CAN_TX_REQ t) ≠ 0 → ∃ b, u.rd (L.CN_BUS t) = b + 1 ∧ Can.First u t b) ∧
    Only ([R.CAN_TX_DONE t, R.CAN_EVT_TX_DONE t, R.CAN_STAT_TEC t, R.CAN_STAT_STATE t, R.CAN_EVT_STATE t, L.CN_BUS t] ++ canc) [] s u)

/-- R453: the data octets of a frame, by its DLC; an FD frame by the longer table. -/
def Can.octets (w1 : Nat) : Nat :=
  let d := w1 % 16
  if w1.testBit 9 = true ∧ 8 < d then [12, 16, 20, 24, 32, 48, 64].getD (d - 9) 0 else min d 8

/-- R456: the first enabled filter that a frame matches; 31 where none is enabled. -/
def Can.Matches (s : State) (t w0 k : Nat) : Prop :=
  let hit (k : Nat) : Prop := s.on (R.CAN_FLT_EN t k) = true ∧
    (w0 % 2 ^ 29 &&& s.rd (R.CAN_FLTM t k)) = (s.rd (R.CAN_FLT_ID t k) &&& s.rd (R.CAN_FLTM t k)) ∧ s.rd (R.CAN_FLT_XTD t k) = w0 / 2 ^ 30 % 2
  (k = 31 ∧ ∀ i < 16, s.on (R.CAN_FLT_EN t i) = false) ∨ (k < 16 ∧ hit k ∧ ∀ i < k, ¬ hit i)

/-- R456, R459: reception and the RX FIFO of controller n; the Attic's speed frames come from another controller. -/
def Can.ReceiveRules (s : State) (m : Master) (n : Fin 2) (w0 w1 : Word) (data : List Byte) : Prop :=
  let t := n.val
  let lvl := s.rd (L.CN_LVL t)
  let place := 16 + (s.rd (L.CN_GET t) + lvl) % 24
  let run := exec (.canFrameRx n w0 w1 data) s
  let cnt := [R.CAN_STAT_REC t, R.CAN_STAT_STATE t, R.CAN_EVT_STATE t, L.CN_BUS t] ++ Can.record t
  let len := min data.length (Can.octets w1.toNat)
  (s.online (34 + t) = false ∨ ¬ Can.joined s t → ∃ u, run = .next u ∧ Only [] [] s u) ∧
  (s.online (34 + t) = true → Can.joined s t → s.rd R.ATTIC_UPD_CFG_SPEED_CAN ≠ t → s.rd (R.CAN_STAT_REC t) < 256 →
    ((∀ k, ¬ Can.Matches s t w0.toNat k) → ∃ u, run = .next u ∧ Only cnt [] s u) ∧
    (∀ k, Can.Matches s t w0.toNat k →
      (24 = lvl → ∃ u, run = .next u ∧ u.rd (R.CAN_RX_LOST t) = min (s.rd (R.CAN_RX_LOST t) + 1) 0xFFFF ∧ u.rd (R.CAN_EVT_RX_OVF t) = 1 ∧
        Only ([R.CAN_RX_LOST t, R.CAN_EVT_RX_OVF t] ++ cnt) [] s u) ∧
      (lvl < 24 → ∃ u, run = .next u ∧ u.rd (L.CN_LVL t) = lvl + 1 ∧ u.rd (R.CAN_EVT_RX t) = 1 ∧
        u.rd (canWord t place 0) = w0.toNat % 2 ^ 31 ∧ u.rd (canWord t place 1) / 2 ^ 16 = k ∧ u.rd (canWord t place 1) % 16 = w1.toNat % 16 ∧
        (∀ i < len, ∃ b, data[i]? = some b ∧ u.rd (canWord t place (2 + i / 4)) / 256 ^ (i % 4) % 256 = b.toNat) ∧
        Only ([L.CN_LVL t, R.CAN_EVT_RX t] ++ (List.range 18).map (canWord t place) ++ cnt) [] s u))) ∧
  (Taken s m (R.CAN_RX_POP t) →
    (lvl = 0 → ∃ u, exec (.rxPop m n) s = .next u ∧ Only [] [] s u) ∧
    (0 < lvl → lvl < 32 → ∃ u, exec (.rxPop m n) s = .next u ∧ u.rd (L.CN_LVL t) = lvl - 1 ∧ u.rd (L.CN_GET t) = (s.rd (L.CN_GET t) + 1) % 24 ∧
      Only [L.CN_LVL t, L.CN_GET t] [] s u))

/-- R453, R455, R456, R459: frames of a CAN controller. -/
def Obligations.CanFrames : Prop :=
  ∀ (s : State) (m : Master) (n : Fin 2) (v : BitVec 16) (w0 w1 : Word) (data : List Byte),
    Can.TransmitRules s m n v ∧ Can.ReceiveRules s m n w0 w1 data

/-- R457: the state that the error counts give. -/
def Can.level (tec rec : Nat) : Nat := if 255 < tec then 3 else if 128 ≤ tec ∨ 128 ≤ rec then 2 else 1

/-- R455, R457: errors, INIT, integration and recovery. -/
def Can.StateRules (s : State) (m : Master) (n : Fin 2) (v : Word) : Prop :=
  let t := n.val
  let tec := s.rd (R.CAN_STAT_TEC t)
  let rec_ := s.rd (R.CAN_STAT_REC t)
  let bus := s.rd (L.CN_BUS t)
  let st := s.rd (R.CAN_STAT_STATE t)
  let on := s.online (34 + t) = true
  let regs := [R.CAN_STAT_TEC t, R.CAN_STAT_REC t, R.CAN_STAT_STATE t, R.CAN_EVT_STATE t, R.CAN_EVT_PROTO_ERR t, L.CN_BUS t, L.CN_CANC t, R.CAN_TX_REQ t] ++
    Can.record t
  let dropped (u : State) : Prop := ∀ b < 16, (u.rd (R.CAN_TX_REQ t)).testBit b =
    ((s.rd (R.CAN_TX_REQ t)).testBit b && !(b + 1 == bus && (s.rd (L.CN_CANC t)).testBit b))
  let moved (u : State) : Prop := u.rd (R.CAN_STAT_STATE t) = Can.level (u.rd (R.CAN_STAT_TEC t)) (u.rd (R.CAN_STAT_REC t)) ∧
    (u.rd (R.CAN_STAT_STATE t) ≠ st → u.rd (R.CAN_EVT_STATE t) = 1)
  (¬ on ∨ st = 0 ∨ 2 < st → ∀ kind, ∃ u, exec (.canBusError n kind) s = .next u ∧ Only [] [] s u) ∧
  (on → st = 1 ∨ st = 2 → bus ≤ 16 → s.rd (R.CAN_TX_REQ t) < 2 ^ 16 →
    (∃ u, exec (.canBusError n 0) s = .next u ∧ u.rd (L.CN_BUS t) = 0 ∧ u.rd (R.CAN_STAT_TEC t) = tec ∧ u.rd (R.CAN_STAT_REC t) = rec_ ∧ dropped u ∧
      Only ([L.CN_BUS t, L.CN_CANC t, R.CAN_TX_REQ t] ++ Can.record t) [] s u) ∧
    (tec < 2 ^ 9 → rec_ < 2 ^ 8 → s.rd (R.CAN_CTRL_INIT t) = 0 → ∀ kind : BitVec 2, kind ≠ 0#2 →
      ∃ u, exec (.canBusError n kind) s = .next u ∧ u.rd (R.CAN_EVT_PROTO_ERR t) = 1 ∧ dropped u ∧ moved u ∧
        u.rd (R.CAN_STAT_TEC t) = (if kind = 1#2 then min (tec + 8) 511 else tec) ∧
        u.rd (R.CAN_STAT_REC t) = (if kind = 1#2 then rec_ else min (rec_ + if kind = 2#2 then 1 else 8) 255) ∧
        (u.rd (R.CAN_STAT_STATE t) = 3 → u.rd (L.CN_BUS t) = 0) ∧ Only regs [] s u)) ∧
  (Taken s m (R.CAN_CTRL_INIT t) →
    (s.rd (R.CAN_CTRL_INIT t) = 0 → v.toNat.testBit 1 = true → ∃ u, exec (.canInitWrite m n v) s = .next u ∧ u.rd (R.CAN_CTRL_INIT t) = 1 ∧
      u.rd (L.CN_BUS t) = 0 ∧ u.rd (L.CN_INTEG t) = 0 ∧ (st ≠ 4 → u.rd (R.CAN_STAT_STATE t) = 0) ∧ u.rd (R.CAN_TX_REQ t) = s.rd (R.CAN_TX_REQ t)) ∧
    (s.rd (R.CAN_CTRL_INIT t) = 1 → v.toNat.testBit 1 = false → s.on R.HALL_CLK_STAT_PLL_SRC = true → ∃ u, exec (.canInitWrite m n v) s = .next u ∧
      u.rd (R.CAN_CTRL_INIT t) = 1 ∧ u.rd (R.CAN_STAT_STATE t) = st ∧ u.rd (L.CN_INTEG t) = s.rd (L.CN_INTEG t)) ∧
    (s.rd (R.CAN_CTRL_INIT t) = 1 → v.toNat.testBit 1 = false → s.on R.HALL_CLK_STAT_PLL_SRC = false → st ≠ 4 →
      ∃ u, exec (.canInitWrite m n v) s = .next u ∧ u.rd (R.CAN_CTRL_INIT t) = 0 ∧ u.rd (L.CN_INTEG t) = 1 ∧ moved u ∧
        u.rd (R.CAN_STAT_TEC t) = (if 255 < tec then 0 else tec) ∧ u.rd (R.CAN_STAT_REC t) = (if 255 < tec then 0 else rec_))) ∧
  (¬ on ∨ s.on (L.CN_INTEG t) = false → ∃ u, exec (.canIntegrationDone n) s = .next u ∧ Only [] [] s u) ∧
  (on → s.on (L.CN_INTEG t) = true → ∃ u, exec (.canIntegrationDone n) s = .next u ∧ u.rd (L.CN_INTEG t) = 0 ∧
    (bus = 0 → (st = 1 ∨ st = 2) → s.rd (R.CAN_TX_REQ t) % 2 ^ 16 ≠ 0 → ∃ b, u.rd (L.CN_BUS t) = b + 1 ∧ Can.First u t b) ∧
    Only ([L.CN_INTEG t, L.CN_BUS t] ++ Can.record t) [] s u) ∧
  (let recovers := on ∧ st = 3 ∧ s.on (R.CAN_CTRL_AUTO_RECOV t) = true
   (¬ recovers → ∃ u, exec (.busOffRecovery n) s = .next u ∧ Only [] [] s u) ∧
   (recovers → s.rd (R.CAN_CTRL_INIT t) = 0 → ∃ u, exec (.busOffRecovery n) s = .next u ∧ u.rd (R.CAN_STAT_TEC t) = 0 ∧ u.rd (R.CAN_STAT_REC t) = 0 ∧
     u.rd (R.CAN_STAT_STATE t) = 1 ∧ u.rd (R.CAN_EVT_STATE t) = 1 ∧
     Only ([R.CAN_STAT_TEC t, R.CAN_STAT_REC t, R.CAN_STAT_STATE t, R.CAN_EVT_STATE t, L.CN_BUS t] ++ Can.record t) [] s u))

/-- R462: a frame ends with a result. -/
def Lin.Ended (s u : State) (result : Nat) : Prop :=
  u.rd L.LN_ST = 0 ∧ u.rd R.LIN_STAT_RESULT = result ∧ (result = 1 → u.rd R.LIN_EVT_DONE = 1) ∧ (result ≠ 1 → u.rd R.LIN_EVT_ERR = 1) ∧
    Only [L.LN_ST, R.LIN_STAT_RESULT, if result = 1 then R.LIN_EVT_DONE else R.LIN_EVT_ERR] [] s u

/-- R462: the commands of firmware. -/
def Lin.CommandRules (s : State) (m : Master) (late : Bool) : Prop :=
  let st := s.rd L.LN_ST
  let start (i : Instr) (n : Nat) : Prop := ∃ u, exec i s = .next u ∧ u.rd L.LN_ST = n ∧ Only [L.LN_ST] [] s u
  Taken s m R.LIN_CMD_OP →
    (s.on R.LIN_CTRL_EN = false → ∀ i ∈ [.headerPub m, .headerSub m, .publish m late, .subscribe m, .linWake m, .linAbort m],
      ∃ u, exec i s = .next u ∧ Only [] [] s u) ∧
    (s.on R.LIN_CTRL_EN = true →
      (s.rd R.LIN_CFG_ROLE = 0 → st = 0 → s.rd R.LIN_FRAME_ID < 64 → ∀ p ∈ [(.headerPub m, 2), (.headerSub m, 3)],
        ∃ u, exec p.1 s = .next u ∧ u.rd L.LN_ST = p.2 ∧ u.rd R.LIN_STAT_RX_ID = s.rd R.LIN_FRAME_ID ∧ Only [L.LN_ST, R.LIN_STAT_RX_ID] [] s u) ∧
      (s.rd R.LIN_CFG_ROLE ≠ 0 ∨ st ≠ 0 → ∀ i ∈ [.headerPub m, .headerSub m], ∃ u, exec i s = .next u ∧ Only [] [] s u) ∧
      (st = 1 → start (.publish m false) 2 ∧ start (.subscribe m) 3 ∧ ∃ u, exec (.publish m true) s = .next u ∧ Lin.Ended s u 7) ∧
      (st ≠ 1 → ∀ i ∈ [.publish m late, .subscribe m], ∃ u, exec i s = .next u ∧ Only [] [] s u) ∧
      (st = 0 → start (.linWake m) 4 ∧ ∃ u, exec (.linAbort m) s = .next u ∧ Only [] [] s u) ∧
      (st ≠ 0 → (∃ u, exec (.linWake m) s = .next u ∧ Only [] [] s u) ∧ ∃ u, exec (.linAbort m) s = .next u ∧ Lin.Ended s u 8))

/-- R461: the checksum: the inverted sum with end-around carries, over the protected identifier too where enhanced. -/
def Lin.sum (enh : Bool) (id : BitVec 6) (d : List Byte) : Nat :=
  let p (l : List Nat) : Nat := (l.filter id.getLsbD).length % 2
  let pid := id.toNat + 64 * p [0, 1, 2, 4] + 128 * (1 - p [1, 3, 4, 5])
  let all := (if enh ∧ id ≠ 0x3C#6 ∧ id ≠ 0x3D#6 then [pid] else []) ++ d.map BitVec.toNat
  255 - all.foldl (fun a x => if a + x ≤ 255 then a + x else a + x - 255) 0

/-- R461, R462: what happens on the bus. -/
def Lin.BusRules (s : State) (id : BitVec 6) (parityOk syncOk same : Bool) (data : List Byte) (sum : Byte) : Prop :=
  let st := s.rd L.LN_ST
  let on := s.online 36 = true
  let head := exec (.linHeaderRx id parityOk syncOk) s
  let run := exec (.linResponseEnd same data sum) s
  let hears := on ∧ s.on R.LIN_CTRL_EN = true ∧ s.rd R.LIN_CFG_ROLE ≠ 0
  let n := s.rd R.LIN_FRAME_LEN
  (¬ hears → ∃ u, head = .next u ∧ Only [] [] s u) ∧
  (hears → syncOk = false → ∃ u, head = .next u ∧ Lin.Ended s u 5) ∧
  (hears → syncOk = true → parityOk = false → ∃ u, head = .next u ∧ Lin.Ended s u 6) ∧
  (hears → syncOk = true → parityOk = true → ∃ u, head = .next u ∧ u.rd L.LN_ST = 1 ∧ u.rd R.LIN_STAT_RX_ID = id.toNat ∧ u.rd R.LIN_EVT_HEADER = 1 ∧
    Only [L.LN_ST, R.LIN_STAT_RX_ID, R.LIN_EVT_HEADER] [] s u) ∧
  (¬ on ∨ st < 2 ∨ 4 < st → ∃ u, run = .next u ∧ Only [] [] s u) ∧
  (on → st = 2 → ∃ u, run = .next u ∧ Lin.Ended s u (if same then 1 else 2)) ∧
  (on → st = 3 → data.length < n → ∃ u, run = .next u ∧ Lin.Ended s u 4) ∧
  (on → st = 3 → n ≤ data.length → n ≤ 8 → s.rd R.LIN_STAT_RX_ID = id.toNat → ∃ u, run = .next u ∧
    (let ok := sum.toNat = Lin.sum (s.on R.LIN_FRAME_ENH) id (data.take n)
     u.rd R.LIN_STAT_RESULT = (if ok then 1 else 3) ∧ u.rd L.LN_ST = 0 ∧ (if ok then u.rd R.LIN_EVT_DONE = 1 else u.rd R.LIN_EVT_ERR = 1)) ∧
    (∀ i < n, ∃ b, data[i]? = some b ∧ (if i < 4 then u.rd R.LIN_DATA_0 / 256 ^ i else u.rd R.LIN_DATA_1 / 256 ^ (i - 4)) % 256 = b.toNat) ∧
    Only [L.LN_ST, R.LIN_STAT_RESULT, R.LIN_EVT_DONE, R.LIN_EVT_ERR, R.LIN_DATA_0, R.LIN_DATA_1] [] s u) ∧
  (on → st = 4 → ∃ u, run = .next u ∧ u.rd L.LN_ST = 0 ∧ Only [L.LN_ST] [] s u) ∧
  (¬ on ∨ st ≠ 1 ∧ st ≠ 3 → ∃ u, exec .linResponseTimeout s = .next u ∧ Only [] [] s u) ∧
  (on → st = 1 → ∃ u, exec .linResponseTimeout s = .next u ∧ u.rd L.LN_ST = 0 ∧ Only [L.LN_ST] [] s u) ∧
  (on → st = 3 → ∃ u, exec .linResponseTimeout s = .next u ∧ Lin.Ended s u 4)

/-- R455, R457, R461, R462: CAN states and LIN. -/
def Obligations.CanStatesAndLin : Prop :=
  ∀ (s : State) (m : Master) (n : Fin 2) (v : Word) (id : BitVec 6) (a b c : Bool) (data : List Byte) (sum : Byte),
    Can.StateRules s m n v ∧ Lin.CommandRules s m a ∧ Lin.BusRules s id a b c data sum

/-- R465, R497: GPIO. -/
def Pins.Rules (s : State) (m : Master) (v : Word) (pin : Fin 32) (high : Bool) : Prop :=
  let regs := [R.GPIO_IN, R.GPIO_IRQ_STAT]
  let n := pin.val
  let ext := s.on (L.VIO_LOW (n / 16)) = false ∧ ¬ (s.pinFunc n = 9 ∧ 20 ≤ n) ∧ (s.rd R.GPIO_DIR).testBit n = false
  (Taken s m R.GPIO_OUT_SET → s.rd R.GPIO_OUT < 2 ^ 32 → ∃ u, exec (.outSet m v) s = .next u ∧ u.rd R.GPIO_OUT = s.rd R.GPIO_OUT ||| v.toNat ∧
    (∀ i < 32, (u.rd R.GPIO_IN).testBit i = u.pinIn i) ∧ Only (R.GPIO_OUT :: regs) [] s u) ∧
  (Taken s m R.GPIO_OUT_CLR → s.rd R.GPIO_OUT < 2 ^ 32 → ∃ u, exec (.outClr m v) s = .next u ∧
    (∀ i < 32, (u.rd R.GPIO_OUT).testBit i = ((s.rd R.GPIO_OUT).testBit i && !v.toNat.testBit i)) ∧
    (∀ i < 32, (u.rd R.GPIO_IN).testBit i = u.pinIn i) ∧ Only (R.GPIO_OUT :: regs) [] s u) ∧
  (∃ u, exec (.gpioEdge pin high) s = .next u ∧ (u.rd L.GP_EXT).testBit n = high ∧ (ext → u.pinIn n = high) ∧
    (∀ i < 32, (u.rd R.GPIO_IN).testBit i = u.pinIn i ∧ ((u.rd R.GPIO_IRQ_STAT).testBit i = ((s.rd R.GPIO_IRQ_STAT).testBit i ||
      ((s.rd R.GPIO_IN).testBit i != u.pinIn i && s.domOn 12 && (s.pinMode i).testBit (if u.pinIn i then 0 else 1))))) ∧
    (∀ i < 32, i ≠ n → u.pinIn i = s.pinIn i) ∧ Only (L.GP_EXT :: regs) [] s u)

/-- R467, R469: the ADC. -/
def Adc.Rules (s : State) (m : Master) (code : BitVec 12) : Prop :=
  let busy := s.on R.ADC_STAT_BUSY = true
  let on := s.online 38 = true
  let ff := s.ff L.AD_FIFO
  let step := s.rd L.AD_STEP
  let entry := s.rd R.ADC_SEQ_CH / 2 ^ (4 * step) % 16 * 4096 + code.toNat
  let run := exec (.adcConversionDone code) s
  let regs := [R.ADC_STAT_BUSY, L.AD_STEP, L.AD_STOP, R.ADC_EVT_OVF, R.ADC_EVT_SEQ_DONE]
  let stored (u : State) : Prop := (8 ≤ ff.length → u.ff L.AD_FIFO = ff ∧ u.rd R.ADC_EVT_OVF = 1) ∧
    (ff.length < 8 → u.ff L.AD_FIFO = ff ++ [entry] ∧ u.rd R.ADC_EVT_OVF = s.rd R.ADC_EVT_OVF)
  (Taken s m R.ADC_CMD_START →
    (busy ∨ s.on R.ADC_SEQ_CFG_TRIG = true → ∃ u, exec (.adcStart m) s = .next u ∧ Only [] [] s u) ∧
    (¬ busy → s.on R.ADC_SEQ_CFG_TRIG = false → ∃ u, exec (.adcStart m) s = .next u ∧ u.rd R.ADC_STAT_BUSY = 1 ∧ u.rd L.AD_STEP = 0 ∧
      Only [R.ADC_STAT_BUSY, L.AD_STEP, L.AD_STOP] [] s u) ∧
    (¬ busy → ∃ u, exec (.adcStop m) s = .next u ∧ Only [] [] s u) ∧
    (busy → ∃ u, exec (.adcStop m) s = .next u ∧ u.rd L.AD_STOP = 1 ∧ Only [L.AD_STOP] [] s u)) ∧
  (¬ on ∨ ¬ busy → ∃ u, run = .next u ∧ Only [] [] s u) ∧
  (on → busy → s.on L.AD_STOP = true → ∃ u, run = .next u ∧ stored u ∧ u.rd R.ADC_STAT_BUSY = 0 ∧ Only regs [L.AD_FIFO] s u) ∧
  (on → busy → s.on L.AD_STOP = false → step < s.rd R.ADC_SEQ_CFG_LEN → step < 7 → ∃ u, run = .next u ∧ stored u ∧ u.rd L.AD_STEP = step + 1 ∧
    u.on R.ADC_STAT_BUSY = true ∧ u.rd R.ADC_EVT_SEQ_DONE = s.rd R.ADC_EVT_SEQ_DONE ∧ Only regs [L.AD_FIFO] s u) ∧
  (on → busy → s.on L.AD_STOP = false → s.rd R.ADC_SEQ_CFG_LEN ≤ step → ∃ u, run = .next u ∧ stored u ∧ u.rd L.AD_STEP = 0 ∧
    u.rd R.ADC_EVT_SEQ_DONE = 1 ∧ u.on R.ADC_STAT_BUSY = bit (s.rd R.ADC_SEQ_CFG_CONT) 0 ∧ Only regs [L.AD_FIFO] s u) ∧
  (Taken s m R.ADC_FIFO_DATA →
    (ff = [] → ∃ u, exec (.adcFifoRead m) s = .next u ∧ u.resp = .data 0 ∧ Only [] [] s u) ∧
    (∀ x l, ff = x :: l → ∃ u, exec (.adcFifoRead m) s = .next u ∧ u.resp = .data (2 ^ 31 + x) ∧ u.ff L.AD_FIFO = l ∧ Only [] [L.AD_FIFO] s u))

/-- R470: the I2C controller. -/
def I2c.Rules (s : State) (m : Master) (addr : BitVec 7) (len v k : Byte) (read stop nack last : Bool) (data : List Byte) : Prop :=
  let busy := s.on R.I2C_STAT_BUSY = true
  let on := s.online 39 = true
  let tx := s.ff L.I2_TX
  let rx := s.ff L.I2_RX
  let left := s.rd L.I2_LEFT
  let go := exec (.i2cGo m addr read len stop) s
  let run := exec (.i2cDone nack last data k) s
  let reads := s.on L.I2_READ = true
  let n := if reads then min (min data.length left) (8 - rx.length) else min (min k.toNat left) tx.length
  let moved (u : State) : Prop :=
    (reads → u.ff L.I2_RX = rx ++ (data.take n).map BitVec.toNat ∧ u.ff L.I2_TX = tx) ∧ (¬ reads → u.ff L.I2_TX = tx.drop n ∧ u.ff L.I2_RX = rx)
  let regs := [R.I2C_STAT_BUSY, L.I2_LEFT]
  (Taken s m R.I2C_CMD_GO →
    (busy → ∃ u, go = .next u ∧ Only [] [] s u) ∧
    (¬ busy → ∃ u, go = .next u ∧ u.rd R.I2C_STAT_BUSY = 1 ∧ u.rd L.I2_ADDR = addr.toNat ∧ u.rd L.I2_READ = read.toNat ∧ u.rd L.I2_LEFT = len.toNat ∧
      u.rd L.I2_STOP = stop.toNat ∧ u.rd L.I2_HELD = 0 ∧ Only ([L.I2_ADDR, L.I2_READ, L.I2_STOP, L.I2_HELD] ++ regs) [] s u)) ∧
  (Taken s m R.I2C_DATA →
    (tx.length < 8 → ∃ u, exec (.i2cDataWrite m v) s = .next u ∧ u.ff L.I2_TX = tx ++ [v.toNat] ∧ Only [] [L.I2_TX] s u) ∧
    (8 ≤ tx.length → ∃ u, exec (.i2cDataWrite m v) s = .next u ∧ Only [] [] s u) ∧
    (rx = [] → ∃ u, exec (.i2cDataRead m) s = .next u ∧ Only [] [] s u) ∧
    (∀ x l, rx = x :: l → ∃ u, exec (.i2cDataRead m) s = .next u ∧ u.resp = .data x ∧ u.ff L.I2_RX = l ∧ Only [] [L.I2_RX] s u)) ∧
  (¬ on ∨ ¬ busy → ∀ i ∈ [.i2cDone nack last data k, .i2cArbLost, .i2cStretchTimeout], ∃ u, exec i s = .next u ∧ Only [] [] s u) ∧
  (on → busy → left < 256 →
    (nack = true → ∃ u, run = .next u ∧ moved u ∧ u.rd R.I2C_STAT_BUSY = 0 ∧ u.rd R.I2C_EVT_NACK = 1 ∧
      Only (R.I2C_EVT_NACK :: regs) [L.I2_TX, L.I2_RX] s u) ∧
    (nack = false → last = true → n = left → ∃ u, run = .next u ∧ moved u ∧ u.rd R.I2C_STAT_BUSY = 0 ∧ u.rd R.I2C_EVT_DONE = 1 ∧
      (s.rd L.I2_STOP = 0 → u.rd L.I2_HELD = 1) ∧ (s.rd L.I2_STOP = 1 → u.rd L.I2_HELD = 0) ∧
      Only (L.I2_HELD :: R.I2C_EVT_DONE :: regs) [L.I2_TX, L.I2_RX] s u) ∧
    (nack = false → last = false ∨ n ≠ left → ∃ u, run = .next u ∧ moved u ∧ u.rd L.I2_LEFT = left - n ∧ u.on R.I2C_STAT_BUSY = true ∧
      Only [L.I2_LEFT] [L.I2_TX, L.I2_RX] s u) ∧
    (∀ p ∈ [(Instr.i2cArbLost, R.I2C_EVT_ARB_LOST), (.i2cStretchTimeout, R.I2C_EVT_TIMEOUT)],
      ∃ u, exec p.1 s = .next u ∧ u.rd R.I2C_STAT_BUSY = 0 ∧ u.rd p.2 = 1 ∧ Only (p.2 :: regs) [] s u))

/-- R471: the SPI controller. -/
def Spim.Rules (s : State) (m : Master) (len : BitVec 16) (v : Byte) (last : Bool) (data : List Byte) : Prop :=
  let busy := s.on R.SPIM_STAT_BUSY = true
  let on := s.online 40 = true
  let tx := s.ff L.SP_TX
  let rx := s.ff L.SP_RX
  let left := s.rd L.SP_LEFT
  let keeps := s.on R.SPIM_CFG_RX_EN = true
  let n := min (min data.length left) (if keeps then min tx.length (16 - rx.length) else tx.length)
  let run := exec (.spimDone data last) s
  let moved (u : State) : Prop := u.ff L.SP_TX = tx.drop n ∧ u.rd L.SP_LEFT = left - n ∧
    (keeps → u.ff L.SP_RX = rx ++ (data.take n).map BitVec.toNat) ∧ (¬ keeps → u.ff L.SP_RX = rx)
  (Taken s m R.SPIM_CMD_GO →
    (busy ∨ len = 0#16 → ∃ u, exec (.spimGo m len) s = .next u ∧ Only [] [] s u) ∧
    (¬ busy → len ≠ 0#16 → ∃ u, exec (.spimGo m len) s = .next u ∧ u.rd R.SPIM_STAT_BUSY = 1 ∧ u.rd L.SP_LEFT = len.toNat ∧
      Only [R.SPIM_STAT_BUSY, L.SP_LEFT] [] s u)) ∧
  (Taken s m R.SPIM_DATA →
    (tx.length < 16 → ∃ u, exec (.spimDataWrite m v) s = .next u ∧ u.ff L.SP_TX = tx ++ [v.toNat] ∧ Only [] [L.SP_TX] s u) ∧
    (16 ≤ tx.length → ∃ u, exec (.spimDataWrite m v) s = .next u ∧ Only [] [] s u) ∧
    (rx = [] → ∃ u, exec (.spimDataRead m) s = .next u ∧ Only [] [] s u) ∧
    (∀ x l, rx = x :: l → ∃ u, exec (.spimDataRead m) s = .next u ∧ u.resp = .data x ∧ u.ff L.SP_RX = l ∧ Only [] [L.SP_RX] s u)) ∧
  (¬ on ∨ ¬ busy → ∃ u, run = .next u ∧ Only [] [] s u) ∧
  (on → busy → left < 2 ^ 16 →
    (last = true → n = left → ∃ u, run = .next u ∧ moved u ∧ u.rd R.SPIM_STAT_BUSY = 0 ∧ u.rd R.SPIM_EVT_DONE = 1 ∧
      Only [L.SP_LEFT, R.SPIM_STAT_BUSY, R.SPIM_EVT_DONE] [L.SP_TX, L.SP_RX] s u) ∧
    (last = false ∨ n ≠ left → ∃ u, run = .next u ∧ moved u ∧ u.on R.SPIM_STAT_BUSY = true ∧ Only [L.SP_LEFT] [L.SP_TX, L.SP_RX] s u))

/-- R465, R467, R469 to R471, R497: pins, the ADC, I2C and SPIM. -/
def Obligations.PinsAndSerialPorts : Prop :=
  ∀ (s : State) (m : Master) (v : Word) (pin : Fin 32) (code : BitVec 12) (addr : BitVec 7) (len : BitVec 16) (o k : Byte) (a b c d : Bool) (data : List Byte),
    Pins.Rules s m v pin a ∧ Adc.Rules s m code ∧ I2c.Rules s m addr o o k a b c d data ∧ Spim.Rules s m len o a data

/-- R479, R485, R493, R494: the four rows of the fault block. -/
def Obligations.FaultCommands : Prop :=
  ∀ (s : State) (m : Master), TakenAll s m [R.FAULT_INJ_KEY, R.FAULT_INJ_MODE_MODE, R.FAULT_LOG_VALID] →
    (∃ t, exec (.injKey m 0x1D3#12) s = .next t ∧ t.rd L.INJ_KEYS = 1 ∧ Only [L.INJ_KEYS] [] s t) ∧
    (s.rd L.INJ_KEYS = 1 → ∃ t, exec (.injKey m 0x2E4#12) s = .next t ∧ t.rd L.INJ_KEYS = 2 ∧ Only [L.INJ_KEYS] [] s t) ∧
    (∀ k : BitVec 12, k ≠ 0x1D3#12 → (k ≠ 0x2E4#12 ∨ s.rd L.INJ_KEYS ≠ 1) →
      ∃ t, exec (.injKey m k) s = .next t ∧ t.rd L.INJ_KEYS = 0 ∧ Only [L.INJ_KEYS] [] s t) ∧
    (∃ t, exec (.injMode m 0#2) s = .next t ∧ t.rd L.INJ_ON = 0 ∧ t.rd R.FAULT_INJ_MODE_MODE = 0 ∧ t.rd R.FAULT_INJ_STAT_ARMED = 0 ∧
      t.rd R.FAULT_INJ_STAT_DENIED = s.rd R.FAULT_INJ_STAT_DENIED ∧ t.rd L.INJ_KEYS = 0 ∧
      Only [L.INJ_ON, R.FAULT_INJ_MODE_MODE, R.FAULT_INJ_STAT_ARMED, L.INJ_SKIP, L.INJ_KEYS] [] s t) ∧
    (∀ v : BitVec 2, v ≠ 0#2 →
      let ok : Prop := s.rd L.INJ_KEYS = 2 ∧
        (s.rd R.FLASHC_RDP_LEVEL = 0 ∨ (s.rd R.FLASHC_RDP_LEVEL = 1 ∧ s.rd R.FAULT_CFG_INJ_L1 ≠ 0)) ∧ s.rd R.FAULT_INJ_SEL_INDEX ∈ detectors
      (ok → ∃ t, exec (.injMode m v) s = .next t ∧ t.rd L.INJ_ON = v.toNat ∧ t.rd R.FAULT_INJ_MODE_MODE = v.toNat ∧
        t.rd R.FAULT_INJ_STAT_ARMED = 1 ∧ t.rd L.INJ_I = s.rd R.FAULT_INJ_SEL_INDEX ∧ t.rd L.INJ_KEYS = 0 ∧
        Only [L.INJ_ON, L.INJ_I, L.INJ_A, L.INJ_SKIP, L.INJ_KEYS, R.FAULT_INJ_MODE_MODE, R.FAULT_INJ_STAT_ARMED] [] s t) ∧
      (¬ ok → ∃ t, exec (.injMode m v) s = .next t ∧ t.rd R.FAULT_INJ_STAT_DENIED = 1 ∧ t.rd L.INJ_KEYS = 0 ∧
        t.rd R.FAULT_INJ_MODE_MODE = s.rd R.FAULT_INJ_MODE_MODE ∧ Only [R.FAULT_INJ_STAT_DENIED, L.INJ_KEYS] [] s t)) ∧
    (∀ n : Fin 16, Taken s m (R.FAULT_INFLIGHT_FROZEN n.val) → s.on (R.FAULT_INFLIGHT_FROZEN n.val) = true →
      ∃ t, exec (.inflightClear m n) s = .next t ∧
        (∀ f ∈ [R.FAULT_INFLIGHT_OP n.val, R.FAULT_INFLIGHT_STEP n.val, R.FAULT_INFLIGHT_CAUSE n.val, R.FAULT_INFLIGHT_FROZEN n.val,
          R.FAULT_INFLIGHT_PROG n.val, R.FAULT_INFLIGHT_DETAIL n.val, R.FAULT_INFLIGHT_DETAIL2 n.val], t.rd f = 0) ∧
        Only [R.FAULT_INFLIGHT_OP n.val, R.FAULT_INFLIGHT_STEP n.val, R.FAULT_INFLIGHT_CAUSE n.val, R.FAULT_INFLIGHT_FROZEN n.val,
          R.FAULT_INFLIGHT_PROG n.val, R.FAULT_INFLIGHT_DETAIL n.val, R.FAULT_INFLIGHT_DETAIL2 n.val, L.INJ_KEYS] [] s t) ∧
    (∃ t, exec (.faultLogClear m) s = .next t ∧
      (∀ f ∈ [R.FAULT_LOG_INDEX, R.FAULT_LOG_REACTION, R.FAULT_LOG_INJECTED, R.FAULT_LOG_VALID, R.FAULT_LOG_DETAIL], t.rd f = 0) ∧
      Only [R.FAULT_LOG_INDEX, R.FAULT_LOG_REACTION, R.FAULT_LOG_INJECTED, R.FAULT_LOG_VALID, R.FAULT_LOG_DETAIL, L.INJ_KEYS] [] s t)

/-- R405: PD_CAL is powered up after both supplies were absent. -/
def Obligations.CalendarPowerUp : Prop :=
  ∀ s : State, ∃ t, exec .calPowerUp s = .next t ∧ t.rd R.CAL_TIME = 0 ∧ t.rd R.CAL_DATE = 1 + 1 * 2 ^ 8 + 0 * 2 ^ 16 + 5 * 2 ^ 24 ∧ t.rd R.CAL_SUBSEC = 0 ∧
    (∀ f : Fld, f.blk = 22 → f.keep = .b → f.off < 2 ^ 13 → f.lsb < 32 → t.rd f = f.rst) ∧ t.rd R.CAL_STAT_OSF = 1

/-- R407: the calendar's stop flag. -/
def Obligations.CalendarStopFlag : Prop :=
  ∀ (s : State) (m : Master),
    (Taken s m R.CAL_STAT_OSF →
      (s.rd R.CAL_COMMIT_STAT_SET_SINCE_OSF = 1 → ∃ t, exec (.osfClear m) s = .next t ∧ t.rd R.CAL_STAT_OSF = 0 ∧ Only [R.CAL_STAT_OSF] [] s t) ∧
      (s.rd R.CAL_COMMIT_STAT_SET_SINCE_OSF = 0 → ∃ t, exec (.osfClear m) s = .next t ∧ Only [] [] s t)) ∧
    (s.calRuns = true → s.on R.CAL_COMMIT_STAT_BUSY = true → ∃ t, exec .commitDone s = .next t ∧ t.rd R.CAL_COMMIT_STAT_SET_SINCE_OSF = 1) ∧
    (s.domOn 0 = true → ∃ t, exec .oscStop s = .next t ∧ t.rd R.CAL_STAT_OSF = 1 ∧ t.rd R.CAL_COMMIT_STAT_SET_SINCE_OSF = 0) ∧
    (∃ t, exec .calPowerUp s = .next t ∧ t.rd R.CAL_STAT_OSF = 1 ∧ t.rd R.CAL_COMMIT_STAT_SET_SINCE_OSF = 0)

/-- R272: the unit, the width and the final XOR of a use. -/
def CheckUses.row (use : Nat) : Nat × Nat × Nat :=
  [(0, 16, 0), (0, 16, 0), (0, 16, 0xFFFF), (1, 24, 0), (2, 32, 0xFFFFFFFF), (3, 32, 0xFFFFFFFF)].getD use (4, 0, 0)

/-- R272: RUN holds the initial value of a use for an INIT value. -/
def CheckUses.initial (use init run : Nat) : Prop :=
  match use with
  | 0 => run = 0
  | 1 => run = 0x6363
  | 2 => run = 0xFFFF
  | 3 => run < 2 ^ 24 ∧ ∀ k < 24, run.testBit (23 - k) = init.testBit k
  | _ => run = 0xFFFFFFFF

/-- R273: CFG_n.USE. -/
def Obligations.CheckUses : Prop :=
  ∀ (s : State) (m : Master) (n : Fin 4) (v : Word),
    let use := v.toNat % 8
    (Taken s m (R.CHK_CFG_USE n.val) → s.rd R.CHK_CTRL_LOCK = 0 → ∃ t, exec (.chkUseWrite m n v) s = .next t ∧
      t.rd (R.CHK_RUN n.val) = s.rd (R.CHK_RUN n.val) ∧ t.rd (R.CHK_COUNT n.val) = s.rd (R.CHK_COUNT n.val) ∧
      ((CheckUses.row use).1 = n.val → t.rd (R.CHK_CFG_USE n.val) = use ∧
        t.chkResult n.val = (s.rd (R.CHK_RUN n.val) ^^^ (CheckUses.row use).2.2) % 2 ^ (CheckUses.row use).2.1) ∧
      ((CheckUses.row use).1 ≠ n.val → t.rd (R.CHK_CFG_USE n.val) = s.rd (R.CHK_CFG_USE n.val))) ∧
    (Taken s m (R.CHK_CMD_START n.val) → s.on (R.CHK_CFG_FOLD_EN n.val) = false → (CheckUses.row (s.rd (R.CHK_CFG_USE n.val))).1 = n.val →
      ∃ t, exec (.chkStart m n) s = .next t ∧ CheckUses.initial (s.rd (R.CHK_CFG_USE n.val)) (s.rd (R.CHK_INIT n.val)) (t.rd (R.CHK_RUN n.val)))
end

