-- ==== Sys2Proof/Laws/Cells.lean ====
section
/-!
SUPPORT. Laws/Cells.lean: what a table's operations do: a read after a write, and that the keys keep rising.
-/
namespace Sys2Proof.Machine.Cells

variable {α : Type}

/-! ### Reads after writes -/

theorem get_erase_self (k : Nat) (l : List (Nat × α)) : get k (erase k l) = none := by
  induction l with
  | nil => rfl
  | cons p t ih =>
    obtain ⟨a, v⟩ := p
    by_cases h : k = a
    · simp [erase, h]; simpa [h] using ih
    · simp [erase, get, h, ih]

theorem get_erase_ne {j k : Nat} (h : j ≠ k) (l : List (Nat × α)) : get j (erase k l) = get j l := by
  induction l with
  | nil => rfl
  | cons p t ih =>
    obtain ⟨a, v⟩ := p
    by_cases hk : k = a
    · have hj : j ≠ a := fun e => h (e.trans hk.symm)
      simp [erase, hk, get, hj]; simpa [hk] using ih
    · by_cases hj : j = a <;> simp [erase, hk, get, hj, ih]

theorem get_ins_self (k : Nat) (v : α) (l : List (Nat × α)) (h : get k l = none) : get k (ins k v l) = some v := by
  induction l with
  | nil => simp [ins, get]
  | cons p t ih =>
    obtain ⟨a, w⟩ := p
    by_cases hk : k = a
    · simp [get, hk] at h
    · simp only [get, hk, if_false] at h
      by_cases hl : k < a <;> simp [ins, hl, get, hk, ih h]

theorem get_ins_ne {j k : Nat} (h : j ≠ k) (v : α) (l : List (Nat × α)) : get j (ins k v l) = get j l := by
  induction l with
  | nil => simp [ins, get, h]
  | cons p t ih =>
    obtain ⟨a, w⟩ := p
    by_cases hl : k < a
    · simp [ins, hl, get, h]
    · by_cases hj : j = a <;> simp [ins, hl, get, hj, ih]

theorem get_put_self [DecidableEq α] (k : Nat) (v : α) (d : Option α) (l : List (Nat × α)) :
    get k (put k v d l) = if d = some v then none else some v := by
  unfold put
  split
  · exact get_erase_self k l
  · exact get_ins_self k v _ (get_erase_self k l)

theorem get_put_ne [DecidableEq α] {j k : Nat} (h : j ≠ k) (v : α) (d : Option α) (l : List (Nat × α)) :
    get j (put k v d l) = get j l := by
  unfold put
  split
  · exact get_erase_ne h l
  · rw [get_ins_ne h, get_erase_ne h]

theorem get_keep (p : Nat → Bool) (k : Nat) (l : List (Nat × α)) : get k (keep p l) = if p k then get k l else none := by
  induction l with
  | nil => simp [keep, get]
  | cons q t ih =>
    obtain ⟨a, v⟩ := q
    by_cases hp : p a <;> by_cases hk : k = a
    · simp [keep, hp, get, hk]
    · simp [keep, hp, get, hk, ih]
    · simp [keep, hp, hk]; simpa [hk, hp] using ih
    · simp [keep, hp, get, hk, ih]

/-! ### Membership -/

theorem mem_erase {k : Nat} {l : List (Nat × α)} {q : Nat × α} (h : q ∈ erase k l) : q ∈ l := by
  induction l with
  | nil => exact h
  | cons p t ih =>
    obtain ⟨a, v⟩ := p
    by_cases hk : k = a <;> simp [erase, hk] at h
    · exact List.mem_cons_of_mem _ (ih (by simpa [hk] using h))
    · rcases h with h | h
      · simp [h]
      · exact List.mem_cons_of_mem _ (ih h)

theorem mem_ins {k : Nat} {v : α} {l : List (Nat × α)} {q : Nat × α} (h : q ∈ ins k v l) : q = (k, v) ∨ q ∈ l := by
  induction l with
  | nil => simpa [ins] using h
  | cons p t ih =>
    obtain ⟨a, w⟩ := p
    by_cases hl : k < a <;> simp [ins, hl] at h
    · simpa using h
    · rcases h with h | h
      · simp [h]
      · rcases ih h with e | e
        · exact .inl e
        · exact .inr (List.mem_cons_of_mem _ e)

theorem mem_keep {p : Nat → Bool} {l : List (Nat × α)} {q : Nat × α} (h : q ∈ keep p l) : q ∈ l ∧ p q.1 = true := by
  induction l with
  | nil => simp [keep] at h
  | cons x t ih =>
    obtain ⟨a, v⟩ := x
    by_cases hp : p a <;> simp [keep, hp] at h
    · rcases h with h | h
      · subst h; simp [hp]
      · exact ⟨List.mem_cons_of_mem _ (ih h).1, (ih h).2⟩
    · exact ⟨List.mem_cons_of_mem _ (ih h).1, (ih h).2⟩

theorem mem_run [DecidableEq α] {d : Nat → Option α} {k : Nat} {vs : List α} {q : Nat × α} (h : q ∈ run d k vs) :
    k ≤ q.1 ∧ q.1 < k + vs.length ∧ d q.1 ≠ some q.2 := by
  induction vs generalizing k with
  | nil => simp [run] at h
  | cons v t ih =>
    by_cases hd : d k = some v <;> simp [run, hd] at h
    · have := ih h
      refine ⟨by omega, ?_, this.2.2⟩
      simp; omega
    · rcases h with h | h
      · subst h; exact ⟨by simp, by simp, hd⟩
      · have := ih h
        refine ⟨by omega, ?_, this.2.2⟩
        simp; omega

/-! ### Rising keys -/

theorem rising_mono {lo lo' : Nat} (h : lo' ≤ lo) {l : List (Nat × α)} (hr : rising (some lo) l = true) :
    rising (some lo') l = true := by
  cases l with
  | nil => rfl
  | cons p t =>
    obtain ⟨a, v⟩ := p
    simp [rising] at hr ⊢
    exact ⟨by omega, hr.2⟩

theorem rising_none_of_some {lo : Nat} {l : List (Nat × α)} (hr : rising (some lo) l = true) : rising none l = true := by
  cases l with
  | nil => rfl
  | cons p t => obtain ⟨a, v⟩ := p; simp [rising] at hr ⊢; exact hr.2

theorem rising_lt {lo : Nat} {l : List (Nat × α)} (hr : rising (some lo) l = true) {q : Nat × α} (hq : q ∈ l) : lo < q.1 := by
  induction l generalizing lo with
  | nil => simp at hq
  | cons p t ih =>
    obtain ⟨a, v⟩ := p
    simp [rising] at hr
    rcases List.mem_cons.1 hq with e | e
    · subst e; exact hr.1
    · exact Nat.lt_trans hr.1 (ih hr.2 e)

theorem rising_erase (k lo : Nat) (l : List (Nat × α)) (hr : rising (some lo) l = true) : rising (some lo) (erase k l) = true := by
  induction l generalizing lo with
  | nil => rfl
  | cons p t ih =>
    obtain ⟨a, v⟩ := p
    simp [rising] at hr
    by_cases hk : k = a
    · simp [erase, hk]
      have := ih a hr.2
      exact rising_mono (Nat.le_of_lt hr.1) (by simpa [hk] using this)
    · simp [erase, hk, rising, hr.1, ih a hr.2]

theorem rising_ins {k lo : Nat} (v : α) {l : List (Nat × α)} (hk : lo < k) (hr : rising (some lo) l = true)
    (hg : get k l = none) : rising (some lo) (ins k v l) = true := by
  induction l generalizing lo with
  | nil => simp [ins, rising, hk]
  | cons p t ih =>
    obtain ⟨a, w⟩ := p
    simp [rising] at hr
    by_cases ha : k = a
    · simp [get, ha] at hg
    · simp only [get, ha, if_false] at hg
      by_cases hl : k < a
      · simp [ins, hl, rising, hk, hr.2]
      · simp [ins, hl, rising, hr.1]
        exact ih (by omega) hr.2 hg

theorem rising_keep (p : Nat → Bool) (lo : Nat) (l : List (Nat × α)) (hr : rising (some lo) l = true) :
    rising (some lo) (keep p l) = true := by
  induction l generalizing lo with
  | nil => rfl
  | cons q t ih =>
    obtain ⟨a, v⟩ := q
    simp [rising] at hr
    by_cases hp : p a <;> simp [keep, hp, rising]
    · exact ⟨hr.1, ih a hr.2⟩
    · exact rising_mono (Nat.le_of_lt hr.1) (ih a hr.2)

theorem rising_append {lo : Nat} {l m : List (Nat × α)} (hl : rising (some lo) l = true) (hm : rising (some lo) m = true)
    (h : ∀ x ∈ l, ∀ y ∈ m, x.1 < y.1) : rising (some lo) (l ++ m) = true := by
  induction l generalizing lo with
  | nil => simpa using hm
  | cons p t ih =>
    obtain ⟨a, v⟩ := p
    simp [rising] at hl
    simp only [List.cons_append, rising, hl.1, decide_true, Bool.true_and]
    refine ih hl.2 ?_ (fun x hx y hy => h x (List.mem_cons_of_mem _ hx) y hy)
    cases m with
    | nil => rfl
    | cons q s =>
      obtain ⟨b, w⟩ := q
      simp [rising] at hm ⊢
      exact ⟨h (a, v) (by simp) (b, w) (by simp), hm.2⟩

theorem rising_run [DecidableEq α] (d : Nat → Option α) {k lo : Nat} (h : lo < k) (vs : List α) :
    rising (some lo) (run d k vs) = true := by
  induction vs generalizing k lo with
  | nil => rfl
  | cons v t ih =>
    by_cases hd : d k = some v <;> simp [run, hd, rising]
    · exact ih (by omega)
    · exact ⟨h, ih (by omega)⟩

/-! ### The canonical form, for any rule of what an unlisted key reads as -/

/-- The keys rise strictly and no value equals what its key reads as unlisted. -/
def Canon (d : Nat → Option α) (l : List (Nat × α)) : Prop := rising none l = true ∧ ∀ q ∈ l, d q.1 ≠ some q.2

theorem rising_none_erase (k : Nat) (l : List (Nat × α)) (hr : rising none l = true) : rising none (erase k l) = true := by
  cases l with
  | nil => rfl
  | cons p t =>
    obtain ⟨a, v⟩ := p
    simp [rising] at hr
    by_cases hk : k = a
    · simp [erase, hk]
      have := rising_erase k a t hr
      exact rising_none_of_some (by simpa [hk] using this)
    · simp [erase, hk, rising, rising_erase k a t hr]

theorem rising_none_ins {k : Nat} (v : α) {l : List (Nat × α)} (hr : rising none l = true) (hg : get k l = none) :
    rising none (ins k v l) = true := by
  cases l with
  | nil => rfl
  | cons p t =>
    obtain ⟨a, w⟩ := p
    simp [rising] at hr
    by_cases ha : k = a
    · simp [get, ha] at hg
    · simp only [get, ha, if_false] at hg
      by_cases hl : k < a
      · simp [ins, hl, rising, hr]
      · simp only [ins, hl, if_false, rising]
        exact rising_ins v (by omega) hr hg

theorem rising_none_keep (p : Nat → Bool) (l : List (Nat × α)) (hr : rising none l = true) : rising none (keep p l) = true := by
  cases l with
  | nil => rfl
  | cons q t =>
    obtain ⟨a, v⟩ := q
    simp [rising] at hr
    by_cases hp : p a <;> simp [keep, hp, rising]
    · exact rising_keep p a t hr
    · exact rising_none_of_some (rising_keep p a t hr)

theorem rising_none_append {l m : List (Nat × α)} (hl : rising none l = true) (hm : rising none m = true)
    (h : ∀ x ∈ l, ∀ y ∈ m, x.1 < y.1) : rising none (l ++ m) = true := by
  cases l with
  | nil => simpa using hm
  | cons p t =>
    obtain ⟨a, v⟩ := p
    simp only [List.cons_append, rising] at hl ⊢
    refine rising_append hl ?_ (fun x hx y hy => h x (List.mem_cons_of_mem _ hx) y hy)
    cases m with
    | nil => rfl
    | cons q s =>
      obtain ⟨b, w⟩ := q
      simp [rising] at hm ⊢
      exact ⟨h (a, v) (by simp) (b, w) (by simp), hm⟩

theorem rising_none_run [DecidableEq α] (d : Nat → Option α) (k : Nat) (vs : List α) : rising none (run d k vs) = true := by
  induction vs generalizing k with
  | nil => rfl
  | cons v t ih =>
    by_cases hd : d k = some v <;> simp [run, hd, rising]
    · exact ih (k + 1)
    · exact rising_run d (by omega) t

theorem Canon.put [DecidableEq α] {d : Nat → Option α} {l : List (Nat × α)} (h : Canon d l) (k : Nat) (v : α) :
    Canon d (put k v (d k) l) := by
  unfold Cells.put
  split
  · exact ⟨rising_none_erase k l h.1, fun q hq => h.2 q (mem_erase hq)⟩
  · rename_i hd
    refine ⟨rising_none_ins v (rising_none_erase k l h.1) (get_erase_self k l), fun q hq => ?_⟩
    rcases mem_ins hq with e | e
    · subst e; exact hd
    · exact h.2 q (mem_erase e)

theorem Canon.keep {d : Nat → Option α} {l : List (Nat × α)} (h : Canon d l) (p : Nat → Bool) : Canon d (keep p l) :=
  ⟨rising_none_keep p l h.1, fun q hq => h.2 q (mem_keep hq).1⟩

theorem Canon.putRun [DecidableEq α] {d : Nat → Option α} {l : List (Nat × α)} (h : Canon d l) (k : Nat) (vs : List α) :
    Canon d (putRun d k vs l) := by
  refine ⟨?_, fun q hq => ?_⟩
  · refine rising_none_append (rising_none_append (h.keep _).1 (rising_none_run d k vs) ?_) (h.keep _).1 ?_
    · intro x hx y hy
      have := (mem_keep hx).2
      have hy' := (mem_run hy).1
      simp at this
      omega
    · intro x hx y hy
      have hy' := (mem_keep hy).2
      simp at hy'
      rcases List.mem_append.1 hx with e | e
      · have := (mem_keep e).2
        simp at this
        omega
      · have := (mem_run e).2.1
        omega
  · unfold Cells.putRun at hq
    rcases List.mem_append.1 hq with e | e
    · rcases List.mem_append.1 e with e | e
      · exact h.2 q (mem_keep e).1
      · exact (mem_run e).2.2
    · exact h.2 q (mem_keep e).1

/-! ### A run read back -/

theorem get_append {l m : List (Nat × α)} (k : Nat) : get k (l ++ m) = (get k l).or (get k m) := by
  induction l with
  | nil => simp [get]
  | cons p t ih => obtain ⟨a, v⟩ := p; by_cases hk : k = a <;> simp [get, hk, ih]

theorem get_run [DecidableEq α] (d : Nat → Option α) (k j : Nat) (vs : List α) :
    get j (run d k vs) = if k ≤ j then (if h : j - k < vs.length then (if d j = some vs[j - k] then none else some vs[j - k]) else none)
      else none := by
  induction vs generalizing k with
  | nil => simp [run, get]
  | cons v t ih =>
    rcases Nat.lt_trichotomy j k with h | h | h
    · have h1 : ¬ k ≤ j := by omega
      have h2 : ¬ k + 1 ≤ j := by omega
      have h3 : j ≠ k := by omega
      by_cases hd : d k = some v <;> simp [run, hd, get, h1, h3, ih, h2]
    · subst h
      have h2 : ¬ j + 1 ≤ j := by omega
      by_cases hd : d j = some v <;> simp [run, hd, get, ih, h2]
    · have h1 : k ≤ j := by omega
      have h2 : k + 1 ≤ j := by omega
      have h3 : j ≠ k := by omega
      obtain ⟨m, hm⟩ : ∃ m, j - k = m + 1 := ⟨j - k - 1, by omega⟩
      have hm' : j - (k + 1) = m := by omega
      by_cases hd : d k = some v <;> simp [run, hd, get, h1, h3, ih, h2, hm, hm']

end Sys2Proof.Machine.Cells
end

