-- ==== Sys2Proof/Laws/State.lean ====
section
/-!
SUPPORT. Laws/State.lean: what each named update of the state leaves unchanged, field by field, and what a register,
a FIFO and a byte of memory read after it.
-/
namespace Sys2Proof.Machine

open Sys2Proof

/-! ### wr -/

@[simp] theorem State.wr_plan (s : State) (f : Fld) (v : Nat) : (s.wr f v).plan = s.plan := rfl
@[simp] theorem State.wr_fifos (s : State) (f : Fld) (v : Nat) : (s.wr f v).fifos = s.fifos := rfl
@[simp] theorem State.wr_mem (s : State) (f : Fld) (v : Nat) : (s.wr f v).mem = s.mem := rfl
@[simp] theorem State.wr_porch (s : State) (f : Fld) (v : Nat) : (s.wr f v).porch = s.porch := rfl
@[simp] theorem State.wr_porchFw (s : State) (f : Fld) (v : Nat) : (s.wr f v).porchFw = s.porchFw := rfl
@[simp] theorem State.wr_evq (s : State) (f : Fld) (v : Nat) : (s.wr f v).evq = s.evq := rfl
@[simp] theorem State.wr_late (s : State) (f : Fld) (v : Nat) : (s.wr f v).late = s.late := rfl
@[simp] theorem State.wr_zq (s : State) (f : Fld) (v : Nat) : (s.wr f v).zq = s.zq := rfl
@[simp] theorem State.wr_armed (s : State) (f : Fld) (v : Nat) : (s.wr f v).armed = s.armed := rfl
@[simp] theorem State.wr_running (s : State) (f : Fld) (v : Nat) : (s.wr f v).running = s.running := rfl
@[simp] theorem State.wr_htx (s : State) (f : Fld) (v : Nat) : (s.wr f v).htx = s.htx := rfl
@[simp] theorem State.wr_hcmd (s : State) (f : Fld) (v : Nat) : (s.wr f v).hcmd = s.hcmd := rfl
@[simp] theorem State.wr_resp (s : State) (f : Fld) (v : Nat) : (s.wr f v).resp = s.resp := rfl
@[simp] theorem State.wr_free (s : State) (f : Fld) (v : Nat) : (s.wr f v).free = s.free := rfl
@[simp] theorem State.wr_pending (s : State) (f : Fld) (v : Nat) : (s.wr f v).pending = s.pending := rfl

/-! ### freeStep -/

@[simp] theorem State.freeStep_regs (s : State) : (s.freeStep).regs = s.regs := rfl
@[simp] theorem State.freeStep_plan (s : State) : (s.freeStep).plan = s.plan := rfl
@[simp] theorem State.freeStep_fifos (s : State) : (s.freeStep).fifos = s.fifos := rfl
@[simp] theorem State.freeStep_mem (s : State) : (s.freeStep).mem = s.mem := rfl
@[simp] theorem State.freeStep_porch (s : State) : (s.freeStep).porch = s.porch := rfl
@[simp] theorem State.freeStep_porchFw (s : State) : (s.freeStep).porchFw = s.porchFw := rfl
@[simp] theorem State.freeStep_evq (s : State) : (s.freeStep).evq = s.evq := rfl
@[simp] theorem State.freeStep_late (s : State) : (s.freeStep).late = s.late := rfl
@[simp] theorem State.freeStep_zq (s : State) : (s.freeStep).zq = s.zq := rfl
@[simp] theorem State.freeStep_armed (s : State) : (s.freeStep).armed = s.armed := rfl
@[simp] theorem State.freeStep_running (s : State) : (s.freeStep).running = s.running := rfl
@[simp] theorem State.freeStep_htx (s : State) : (s.freeStep).htx = s.htx := rfl
@[simp] theorem State.freeStep_hcmd (s : State) : (s.freeStep).hcmd = s.hcmd := rfl
@[simp] theorem State.freeStep_resp (s : State) : (s.freeStep).resp = s.resp := rfl
@[simp] theorem State.freeStep_pending (s : State) : (s.freeStep).pending = s.pending := rfl

/-! ### setFf -/

@[simp] theorem State.setFf_regs (s : State) (f : Fld) (l : List Nat) : (s.setFf f l).regs = s.regs := rfl
@[simp] theorem State.setFf_plan (s : State) (f : Fld) (l : List Nat) : (s.setFf f l).plan = s.plan := rfl
@[simp] theorem State.setFf_mem (s : State) (f : Fld) (l : List Nat) : (s.setFf f l).mem = s.mem := rfl
@[simp] theorem State.setFf_porch (s : State) (f : Fld) (l : List Nat) : (s.setFf f l).porch = s.porch := rfl
@[simp] theorem State.setFf_porchFw (s : State) (f : Fld) (l : List Nat) : (s.setFf f l).porchFw = s.porchFw := rfl
@[simp] theorem State.setFf_evq (s : State) (f : Fld) (l : List Nat) : (s.setFf f l).evq = s.evq := rfl
@[simp] theorem State.setFf_late (s : State) (f : Fld) (l : List Nat) : (s.setFf f l).late = s.late := rfl
@[simp] theorem State.setFf_zq (s : State) (f : Fld) (l : List Nat) : (s.setFf f l).zq = s.zq := rfl
@[simp] theorem State.setFf_armed (s : State) (f : Fld) (l : List Nat) : (s.setFf f l).armed = s.armed := rfl
@[simp] theorem State.setFf_running (s : State) (f : Fld) (l : List Nat) : (s.setFf f l).running = s.running := rfl
@[simp] theorem State.setFf_htx (s : State) (f : Fld) (l : List Nat) : (s.setFf f l).htx = s.htx := rfl
@[simp] theorem State.setFf_hcmd (s : State) (f : Fld) (l : List Nat) : (s.setFf f l).hcmd = s.hcmd := rfl
@[simp] theorem State.setFf_resp (s : State) (f : Fld) (l : List Nat) : (s.setFf f l).resp = s.resp := rfl
@[simp] theorem State.setFf_free (s : State) (f : Fld) (l : List Nat) : (s.setFf f l).free = s.free := rfl
@[simp] theorem State.setFf_pending (s : State) (f : Fld) (l : List Nat) : (s.setFf f l).pending = s.pending := rfl

/-! ### pushFf -/

@[simp] theorem State.pushFf_regs (s : State) (f : Fld) (v : Nat) : (s.pushFf f v).regs = s.regs := rfl
@[simp] theorem State.pushFf_plan (s : State) (f : Fld) (v : Nat) : (s.pushFf f v).plan = s.plan := rfl
@[simp] theorem State.pushFf_mem (s : State) (f : Fld) (v : Nat) : (s.pushFf f v).mem = s.mem := rfl
@[simp] theorem State.pushFf_porch (s : State) (f : Fld) (v : Nat) : (s.pushFf f v).porch = s.porch := rfl
@[simp] theorem State.pushFf_porchFw (s : State) (f : Fld) (v : Nat) : (s.pushFf f v).porchFw = s.porchFw := rfl
@[simp] theorem State.pushFf_evq (s : State) (f : Fld) (v : Nat) : (s.pushFf f v).evq = s.evq := rfl
@[simp] theorem State.pushFf_late (s : State) (f : Fld) (v : Nat) : (s.pushFf f v).late = s.late := rfl
@[simp] theorem State.pushFf_zq (s : State) (f : Fld) (v : Nat) : (s.pushFf f v).zq = s.zq := rfl
@[simp] theorem State.pushFf_armed (s : State) (f : Fld) (v : Nat) : (s.pushFf f v).armed = s.armed := rfl
@[simp] theorem State.pushFf_running (s : State) (f : Fld) (v : Nat) : (s.pushFf f v).running = s.running := rfl
@[simp] theorem State.pushFf_htx (s : State) (f : Fld) (v : Nat) : (s.pushFf f v).htx = s.htx := rfl
@[simp] theorem State.pushFf_hcmd (s : State) (f : Fld) (v : Nat) : (s.pushFf f v).hcmd = s.hcmd := rfl
@[simp] theorem State.pushFf_resp (s : State) (f : Fld) (v : Nat) : (s.pushFf f v).resp = s.resp := rfl
@[simp] theorem State.pushFf_free (s : State) (f : Fld) (v : Nat) : (s.pushFf f v).free = s.free := rfl
@[simp] theorem State.pushFf_pending (s : State) (f : Fld) (v : Nat) : (s.pushFf f v).pending = s.pending := rfl

/-! ### popFf -/

@[simp] theorem State.popFf_regs (s : State) (f : Fld) : (s.popFf f).regs = s.regs := rfl
@[simp] theorem State.popFf_plan (s : State) (f : Fld) : (s.popFf f).plan = s.plan := rfl
@[simp] theorem State.popFf_mem (s : State) (f : Fld) : (s.popFf f).mem = s.mem := rfl
@[simp] theorem State.popFf_porch (s : State) (f : Fld) : (s.popFf f).porch = s.porch := rfl
@[simp] theorem State.popFf_porchFw (s : State) (f : Fld) : (s.popFf f).porchFw = s.porchFw := rfl
@[simp] theorem State.popFf_evq (s : State) (f : Fld) : (s.popFf f).evq = s.evq := rfl
@[simp] theorem State.popFf_late (s : State) (f : Fld) : (s.popFf f).late = s.late := rfl
@[simp] theorem State.popFf_zq (s : State) (f : Fld) : (s.popFf f).zq = s.zq := rfl
@[simp] theorem State.popFf_armed (s : State) (f : Fld) : (s.popFf f).armed = s.armed := rfl
@[simp] theorem State.popFf_running (s : State) (f : Fld) : (s.popFf f).running = s.running := rfl
@[simp] theorem State.popFf_htx (s : State) (f : Fld) : (s.popFf f).htx = s.htx := rfl
@[simp] theorem State.popFf_hcmd (s : State) (f : Fld) : (s.popFf f).hcmd = s.hcmd := rfl
@[simp] theorem State.popFf_resp (s : State) (f : Fld) : (s.popFf f).resp = s.resp := rfl
@[simp] theorem State.popFf_free (s : State) (f : Fld) : (s.popFf f).free = s.free := rfl
@[simp] theorem State.popFf_pending (s : State) (f : Fld) : (s.popFf f).pending = s.pending := rfl

/-! ### wrB -/

@[simp] theorem State.wrB_regs (s : State) (a : Nat) (b : Byte) : (s.wrB a b).regs = s.regs := rfl
@[simp] theorem State.wrB_plan (s : State) (a : Nat) (b : Byte) : (s.wrB a b).plan = s.plan := rfl
@[simp] theorem State.wrB_fifos (s : State) (a : Nat) (b : Byte) : (s.wrB a b).fifos = s.fifos := rfl
@[simp] theorem State.wrB_porch (s : State) (a : Nat) (b : Byte) : (s.wrB a b).porch = s.porch := rfl
@[simp] theorem State.wrB_porchFw (s : State) (a : Nat) (b : Byte) : (s.wrB a b).porchFw = s.porchFw := rfl
@[simp] theorem State.wrB_evq (s : State) (a : Nat) (b : Byte) : (s.wrB a b).evq = s.evq := rfl
@[simp] theorem State.wrB_late (s : State) (a : Nat) (b : Byte) : (s.wrB a b).late = s.late := rfl
@[simp] theorem State.wrB_zq (s : State) (a : Nat) (b : Byte) : (s.wrB a b).zq = s.zq := rfl
@[simp] theorem State.wrB_armed (s : State) (a : Nat) (b : Byte) : (s.wrB a b).armed = s.armed := rfl
@[simp] theorem State.wrB_running (s : State) (a : Nat) (b : Byte) : (s.wrB a b).running = s.running := rfl
@[simp] theorem State.wrB_htx (s : State) (a : Nat) (b : Byte) : (s.wrB a b).htx = s.htx := rfl
@[simp] theorem State.wrB_hcmd (s : State) (a : Nat) (b : Byte) : (s.wrB a b).hcmd = s.hcmd := rfl
@[simp] theorem State.wrB_resp (s : State) (a : Nat) (b : Byte) : (s.wrB a b).resp = s.resp := rfl
@[simp] theorem State.wrB_free (s : State) (a : Nat) (b : Byte) : (s.wrB a b).free = s.free := rfl
@[simp] theorem State.wrB_pending (s : State) (a : Nat) (b : Byte) : (s.wrB a b).pending = s.pending := rfl

/-! ### wrRun -/

@[simp] theorem State.wrRun_regs (s : State) (a : Nat) (l : List Byte) : (s.wrRun a l).regs = s.regs := rfl
@[simp] theorem State.wrRun_plan (s : State) (a : Nat) (l : List Byte) : (s.wrRun a l).plan = s.plan := rfl
@[simp] theorem State.wrRun_fifos (s : State) (a : Nat) (l : List Byte) : (s.wrRun a l).fifos = s.fifos := rfl
@[simp] theorem State.wrRun_porch (s : State) (a : Nat) (l : List Byte) : (s.wrRun a l).porch = s.porch := rfl
@[simp] theorem State.wrRun_porchFw (s : State) (a : Nat) (l : List Byte) : (s.wrRun a l).porchFw = s.porchFw := rfl
@[simp] theorem State.wrRun_evq (s : State) (a : Nat) (l : List Byte) : (s.wrRun a l).evq = s.evq := rfl
@[simp] theorem State.wrRun_late (s : State) (a : Nat) (l : List Byte) : (s.wrRun a l).late = s.late := rfl
@[simp] theorem State.wrRun_zq (s : State) (a : Nat) (l : List Byte) : (s.wrRun a l).zq = s.zq := rfl
@[simp] theorem State.wrRun_armed (s : State) (a : Nat) (l : List Byte) : (s.wrRun a l).armed = s.armed := rfl
@[simp] theorem State.wrRun_running (s : State) (a : Nat) (l : List Byte) : (s.wrRun a l).running = s.running := rfl
@[simp] theorem State.wrRun_htx (s : State) (a : Nat) (l : List Byte) : (s.wrRun a l).htx = s.htx := rfl
@[simp] theorem State.wrRun_hcmd (s : State) (a : Nat) (l : List Byte) : (s.wrRun a l).hcmd = s.hcmd := rfl
@[simp] theorem State.wrRun_resp (s : State) (a : Nat) (l : List Byte) : (s.wrRun a l).resp = s.resp := rfl
@[simp] theorem State.wrRun_free (s : State) (a : Nat) (l : List Byte) : (s.wrRun a l).free = s.free := rfl
@[simp] theorem State.wrRun_pending (s : State) (a : Nat) (l : List Byte) : (s.wrRun a l).pending = s.pending := rfl

/-! ### dropMem -/

@[simp] theorem State.dropMem_regs (s : State) (lo hi : Nat) : (s.dropMem lo hi).regs = s.regs := rfl
@[simp] theorem State.dropMem_plan (s : State) (lo hi : Nat) : (s.dropMem lo hi).plan = s.plan := rfl
@[simp] theorem State.dropMem_fifos (s : State) (lo hi : Nat) : (s.dropMem lo hi).fifos = s.fifos := rfl
@[simp] theorem State.dropMem_porch (s : State) (lo hi : Nat) : (s.dropMem lo hi).porch = s.porch := rfl
@[simp] theorem State.dropMem_porchFw (s : State) (lo hi : Nat) : (s.dropMem lo hi).porchFw = s.porchFw := rfl
@[simp] theorem State.dropMem_evq (s : State) (lo hi : Nat) : (s.dropMem lo hi).evq = s.evq := rfl
@[simp] theorem State.dropMem_late (s : State) (lo hi : Nat) : (s.dropMem lo hi).late = s.late := rfl
@[simp] theorem State.dropMem_zq (s : State) (lo hi : Nat) : (s.dropMem lo hi).zq = s.zq := rfl
@[simp] theorem State.dropMem_armed (s : State) (lo hi : Nat) : (s.dropMem lo hi).armed = s.armed := rfl
@[simp] theorem State.dropMem_running (s : State) (lo hi : Nat) : (s.dropMem lo hi).running = s.running := rfl
@[simp] theorem State.dropMem_htx (s : State) (lo hi : Nat) : (s.dropMem lo hi).htx = s.htx := rfl
@[simp] theorem State.dropMem_hcmd (s : State) (lo hi : Nat) : (s.dropMem lo hi).hcmd = s.hcmd := rfl
@[simp] theorem State.dropMem_resp (s : State) (lo hi : Nat) : (s.dropMem lo hi).resp = s.resp := rfl
@[simp] theorem State.dropMem_free (s : State) (lo hi : Nat) : (s.dropMem lo hi).free = s.free := rfl
@[simp] theorem State.dropMem_pending (s : State) (lo hi : Nat) : (s.dropMem lo hi).pending = s.pending := rfl

/-! ### ok -/

@[simp] theorem State.ok_regs (s : State) : (s.ok).regs = s.regs := rfl
@[simp] theorem State.ok_plan (s : State) : (s.ok).plan = s.plan := rfl
@[simp] theorem State.ok_fifos (s : State) : (s.ok).fifos = s.fifos := rfl
@[simp] theorem State.ok_mem (s : State) : (s.ok).mem = s.mem := rfl
@[simp] theorem State.ok_porch (s : State) : (s.ok).porch = s.porch := rfl
@[simp] theorem State.ok_porchFw (s : State) : (s.ok).porchFw = s.porchFw := rfl
@[simp] theorem State.ok_evq (s : State) : (s.ok).evq = s.evq := rfl
@[simp] theorem State.ok_late (s : State) : (s.ok).late = s.late := rfl
@[simp] theorem State.ok_zq (s : State) : (s.ok).zq = s.zq := rfl
@[simp] theorem State.ok_armed (s : State) : (s.ok).armed = s.armed := rfl
@[simp] theorem State.ok_running (s : State) : (s.ok).running = s.running := rfl
@[simp] theorem State.ok_htx (s : State) : (s.ok).htx = s.htx := rfl
@[simp] theorem State.ok_hcmd (s : State) : (s.ok).hcmd = s.hcmd := rfl
@[simp] theorem State.ok_free (s : State) : (s.ok).free = s.free := rfl
@[simp] theorem State.ok_pending (s : State) : (s.ok).pending = s.pending := rfl

/-! ### err -/

@[simp] theorem State.err_regs (s : State) : (s.err).regs = s.regs := rfl
@[simp] theorem State.err_plan (s : State) : (s.err).plan = s.plan := rfl
@[simp] theorem State.err_fifos (s : State) : (s.err).fifos = s.fifos := rfl
@[simp] theorem State.err_mem (s : State) : (s.err).mem = s.mem := rfl
@[simp] theorem State.err_porch (s : State) : (s.err).porch = s.porch := rfl
@[simp] theorem State.err_porchFw (s : State) : (s.err).porchFw = s.porchFw := rfl
@[simp] theorem State.err_evq (s : State) : (s.err).evq = s.evq := rfl
@[simp] theorem State.err_late (s : State) : (s.err).late = s.late := rfl
@[simp] theorem State.err_zq (s : State) : (s.err).zq = s.zq := rfl
@[simp] theorem State.err_armed (s : State) : (s.err).armed = s.armed := rfl
@[simp] theorem State.err_running (s : State) : (s.err).running = s.running := rfl
@[simp] theorem State.err_htx (s : State) : (s.err).htx = s.htx := rfl
@[simp] theorem State.err_hcmd (s : State) : (s.err).hcmd = s.hcmd := rfl
@[simp] theorem State.err_free (s : State) : (s.err).free = s.free := rfl
@[simp] theorem State.err_pending (s : State) : (s.err).pending = s.pending := rfl

/-! ### answer -/

@[simp] theorem State.answer_regs (s : State) (v : Nat) : (s.answer v).regs = s.regs := rfl
@[simp] theorem State.answer_plan (s : State) (v : Nat) : (s.answer v).plan = s.plan := rfl
@[simp] theorem State.answer_fifos (s : State) (v : Nat) : (s.answer v).fifos = s.fifos := rfl
@[simp] theorem State.answer_mem (s : State) (v : Nat) : (s.answer v).mem = s.mem := rfl
@[simp] theorem State.answer_porch (s : State) (v : Nat) : (s.answer v).porch = s.porch := rfl
@[simp] theorem State.answer_porchFw (s : State) (v : Nat) : (s.answer v).porchFw = s.porchFw := rfl
@[simp] theorem State.answer_evq (s : State) (v : Nat) : (s.answer v).evq = s.evq := rfl
@[simp] theorem State.answer_late (s : State) (v : Nat) : (s.answer v).late = s.late := rfl
@[simp] theorem State.answer_zq (s : State) (v : Nat) : (s.answer v).zq = s.zq := rfl
@[simp] theorem State.answer_armed (s : State) (v : Nat) : (s.answer v).armed = s.armed := rfl
@[simp] theorem State.answer_running (s : State) (v : Nat) : (s.answer v).running = s.running := rfl
@[simp] theorem State.answer_htx (s : State) (v : Nat) : (s.answer v).htx = s.htx := rfl
@[simp] theorem State.answer_hcmd (s : State) (v : Nat) : (s.answer v).hcmd = s.hcmd := rfl
@[simp] theorem State.answer_free (s : State) (v : Nat) : (s.answer v).free = s.free := rfl
@[simp] theorem State.answer_pending (s : State) (v : Nat) : (s.answer v).pending = s.pending := rfl

/-! ### wrS -/

@[simp] theorem State.wrS_plan (s : State) (f : Fld) (i : Int) : (s.wrS f i).plan = s.plan := rfl
@[simp] theorem State.wrS_fifos (s : State) (f : Fld) (i : Int) : (s.wrS f i).fifos = s.fifos := rfl
@[simp] theorem State.wrS_mem (s : State) (f : Fld) (i : Int) : (s.wrS f i).mem = s.mem := rfl
@[simp] theorem State.wrS_porch (s : State) (f : Fld) (i : Int) : (s.wrS f i).porch = s.porch := rfl
@[simp] theorem State.wrS_porchFw (s : State) (f : Fld) (i : Int) : (s.wrS f i).porchFw = s.porchFw := rfl
@[simp] theorem State.wrS_evq (s : State) (f : Fld) (i : Int) : (s.wrS f i).evq = s.evq := rfl
@[simp] theorem State.wrS_late (s : State) (f : Fld) (i : Int) : (s.wrS f i).late = s.late := rfl
@[simp] theorem State.wrS_zq (s : State) (f : Fld) (i : Int) : (s.wrS f i).zq = s.zq := rfl
@[simp] theorem State.wrS_armed (s : State) (f : Fld) (i : Int) : (s.wrS f i).armed = s.armed := rfl
@[simp] theorem State.wrS_running (s : State) (f : Fld) (i : Int) : (s.wrS f i).running = s.running := rfl
@[simp] theorem State.wrS_htx (s : State) (f : Fld) (i : Int) : (s.wrS f i).htx = s.htx := rfl
@[simp] theorem State.wrS_hcmd (s : State) (f : Fld) (i : Int) : (s.wrS f i).hcmd = s.hcmd := rfl
@[simp] theorem State.wrS_resp (s : State) (f : Fld) (i : Int) : (s.wrS f i).resp = s.resp := rfl
@[simp] theorem State.wrS_free (s : State) (f : Fld) (i : Int) : (s.wrS f i).free = s.free := rfl
@[simp] theorem State.wrS_pending (s : State) (f : Fld) (i : Int) : (s.wrS f i).pending = s.pending := rfl

/-! ### sat -/

@[simp] theorem State.sat_plan (s : State) (f : Fld) (n : Nat) : (s.sat f n).plan = s.plan := rfl
@[simp] theorem State.sat_fifos (s : State) (f : Fld) (n : Nat) : (s.sat f n).fifos = s.fifos := rfl
@[simp] theorem State.sat_mem (s : State) (f : Fld) (n : Nat) : (s.sat f n).mem = s.mem := rfl
@[simp] theorem State.sat_porch (s : State) (f : Fld) (n : Nat) : (s.sat f n).porch = s.porch := rfl
@[simp] theorem State.sat_porchFw (s : State) (f : Fld) (n : Nat) : (s.sat f n).porchFw = s.porchFw := rfl
@[simp] theorem State.sat_evq (s : State) (f : Fld) (n : Nat) : (s.sat f n).evq = s.evq := rfl
@[simp] theorem State.sat_late (s : State) (f : Fld) (n : Nat) : (s.sat f n).late = s.late := rfl
@[simp] theorem State.sat_zq (s : State) (f : Fld) (n : Nat) : (s.sat f n).zq = s.zq := rfl
@[simp] theorem State.sat_armed (s : State) (f : Fld) (n : Nat) : (s.sat f n).armed = s.armed := rfl
@[simp] theorem State.sat_running (s : State) (f : Fld) (n : Nat) : (s.sat f n).running = s.running := rfl
@[simp] theorem State.sat_htx (s : State) (f : Fld) (n : Nat) : (s.sat f n).htx = s.htx := rfl
@[simp] theorem State.sat_hcmd (s : State) (f : Fld) (n : Nat) : (s.sat f n).hcmd = s.hcmd := rfl
@[simp] theorem State.sat_resp (s : State) (f : Fld) (n : Nat) : (s.sat f n).resp = s.resp := rfl
@[simp] theorem State.sat_free (s : State) (f : Fld) (n : Nat) : (s.sat f n).free = s.free := rfl
@[simp] theorem State.sat_pending (s : State) (f : Fld) (n : Nat) : (s.sat f n).pending = s.pending := rfl

/-! ### inc -/

@[simp] theorem State.inc_plan (s : State) (f : Fld) (n : Nat) : (s.inc f n).plan = s.plan := rfl
@[simp] theorem State.inc_fifos (s : State) (f : Fld) (n : Nat) : (s.inc f n).fifos = s.fifos := rfl
@[simp] theorem State.inc_mem (s : State) (f : Fld) (n : Nat) : (s.inc f n).mem = s.mem := rfl
@[simp] theorem State.inc_porch (s : State) (f : Fld) (n : Nat) : (s.inc f n).porch = s.porch := rfl
@[simp] theorem State.inc_porchFw (s : State) (f : Fld) (n : Nat) : (s.inc f n).porchFw = s.porchFw := rfl
@[simp] theorem State.inc_evq (s : State) (f : Fld) (n : Nat) : (s.inc f n).evq = s.evq := rfl
@[simp] theorem State.inc_late (s : State) (f : Fld) (n : Nat) : (s.inc f n).late = s.late := rfl
@[simp] theorem State.inc_zq (s : State) (f : Fld) (n : Nat) : (s.inc f n).zq = s.zq := rfl
@[simp] theorem State.inc_armed (s : State) (f : Fld) (n : Nat) : (s.inc f n).armed = s.armed := rfl
@[simp] theorem State.inc_running (s : State) (f : Fld) (n : Nat) : (s.inc f n).running = s.running := rfl
@[simp] theorem State.inc_htx (s : State) (f : Fld) (n : Nat) : (s.inc f n).htx = s.htx := rfl
@[simp] theorem State.inc_hcmd (s : State) (f : Fld) (n : Nat) : (s.inc f n).hcmd = s.hcmd := rfl
@[simp] theorem State.inc_resp (s : State) (f : Fld) (n : Nat) : (s.inc f n).resp = s.resp := rfl
@[simp] theorem State.inc_free (s : State) (f : Fld) (n : Nat) : (s.inc f n).free = s.free := rfl
@[simp] theorem State.inc_pending (s : State) (f : Fld) (n : Nat) : (s.inc f n).pending = s.pending := rfl

/-! ### setBitF -/

@[simp] theorem State.setBitF_plan (s : State) (f : Fld) (i : Nat) : (s.setBitF f i).plan = s.plan := rfl
@[simp] theorem State.setBitF_fifos (s : State) (f : Fld) (i : Nat) : (s.setBitF f i).fifos = s.fifos := rfl
@[simp] theorem State.setBitF_mem (s : State) (f : Fld) (i : Nat) : (s.setBitF f i).mem = s.mem := rfl
@[simp] theorem State.setBitF_porch (s : State) (f : Fld) (i : Nat) : (s.setBitF f i).porch = s.porch := rfl
@[simp] theorem State.setBitF_porchFw (s : State) (f : Fld) (i : Nat) : (s.setBitF f i).porchFw = s.porchFw := rfl
@[simp] theorem State.setBitF_evq (s : State) (f : Fld) (i : Nat) : (s.setBitF f i).evq = s.evq := rfl
@[simp] theorem State.setBitF_late (s : State) (f : Fld) (i : Nat) : (s.setBitF f i).late = s.late := rfl
@[simp] theorem State.setBitF_zq (s : State) (f : Fld) (i : Nat) : (s.setBitF f i).zq = s.zq := rfl
@[simp] theorem State.setBitF_armed (s : State) (f : Fld) (i : Nat) : (s.setBitF f i).armed = s.armed := rfl
@[simp] theorem State.setBitF_running (s : State) (f : Fld) (i : Nat) : (s.setBitF f i).running = s.running := rfl
@[simp] theorem State.setBitF_htx (s : State) (f : Fld) (i : Nat) : (s.setBitF f i).htx = s.htx := rfl
@[simp] theorem State.setBitF_hcmd (s : State) (f : Fld) (i : Nat) : (s.setBitF f i).hcmd = s.hcmd := rfl
@[simp] theorem State.setBitF_resp (s : State) (f : Fld) (i : Nat) : (s.setBitF f i).resp = s.resp := rfl
@[simp] theorem State.setBitF_free (s : State) (f : Fld) (i : Nat) : (s.setBitF f i).free = s.free := rfl
@[simp] theorem State.setBitF_pending (s : State) (f : Fld) (i : Nat) : (s.setBitF f i).pending = s.pending := rfl

/-! ### clrBitF -/

@[simp] theorem State.clrBitF_plan (s : State) (f : Fld) (i : Nat) : (s.clrBitF f i).plan = s.plan := rfl
@[simp] theorem State.clrBitF_fifos (s : State) (f : Fld) (i : Nat) : (s.clrBitF f i).fifos = s.fifos := rfl
@[simp] theorem State.clrBitF_mem (s : State) (f : Fld) (i : Nat) : (s.clrBitF f i).mem = s.mem := rfl
@[simp] theorem State.clrBitF_porch (s : State) (f : Fld) (i : Nat) : (s.clrBitF f i).porch = s.porch := rfl
@[simp] theorem State.clrBitF_porchFw (s : State) (f : Fld) (i : Nat) : (s.clrBitF f i).porchFw = s.porchFw := rfl
@[simp] theorem State.clrBitF_evq (s : State) (f : Fld) (i : Nat) : (s.clrBitF f i).evq = s.evq := rfl
@[simp] theorem State.clrBitF_late (s : State) (f : Fld) (i : Nat) : (s.clrBitF f i).late = s.late := rfl
@[simp] theorem State.clrBitF_zq (s : State) (f : Fld) (i : Nat) : (s.clrBitF f i).zq = s.zq := rfl
@[simp] theorem State.clrBitF_armed (s : State) (f : Fld) (i : Nat) : (s.clrBitF f i).armed = s.armed := rfl
@[simp] theorem State.clrBitF_running (s : State) (f : Fld) (i : Nat) : (s.clrBitF f i).running = s.running := rfl
@[simp] theorem State.clrBitF_htx (s : State) (f : Fld) (i : Nat) : (s.clrBitF f i).htx = s.htx := rfl
@[simp] theorem State.clrBitF_hcmd (s : State) (f : Fld) (i : Nat) : (s.clrBitF f i).hcmd = s.hcmd := rfl
@[simp] theorem State.clrBitF_resp (s : State) (f : Fld) (i : Nat) : (s.clrBitF f i).resp = s.resp := rfl
@[simp] theorem State.clrBitF_free (s : State) (f : Fld) (i : Nat) : (s.clrBitF f i).free = s.free := rfl
@[simp] theorem State.clrBitF_pending (s : State) (f : Fld) (i : Nat) : (s.clrBitF f i).pending = s.pending := rfl

/-! ### A list of writes -/

@[simp] theorem State.wrs_plan (s : State) (l : List (Fld × Nat)) : (s.wrs l).plan = s.plan := by
  induction l generalizing s with
  | nil => rfl
  | cons p t ih => obtain ⟨f, v⟩ := p; exact ih (s.wr f v)
@[simp] theorem State.wrs_fifos (s : State) (l : List (Fld × Nat)) : (s.wrs l).fifos = s.fifos := by
  induction l generalizing s with
  | nil => rfl
  | cons p t ih => obtain ⟨f, v⟩ := p; exact ih (s.wr f v)
@[simp] theorem State.wrs_mem (s : State) (l : List (Fld × Nat)) : (s.wrs l).mem = s.mem := by
  induction l generalizing s with
  | nil => rfl
  | cons p t ih => obtain ⟨f, v⟩ := p; exact ih (s.wr f v)
@[simp] theorem State.wrs_porch (s : State) (l : List (Fld × Nat)) : (s.wrs l).porch = s.porch := by
  induction l generalizing s with
  | nil => rfl
  | cons p t ih => obtain ⟨f, v⟩ := p; exact ih (s.wr f v)
@[simp] theorem State.wrs_porchFw (s : State) (l : List (Fld × Nat)) : (s.wrs l).porchFw = s.porchFw := by
  induction l generalizing s with
  | nil => rfl
  | cons p t ih => obtain ⟨f, v⟩ := p; exact ih (s.wr f v)
@[simp] theorem State.wrs_evq (s : State) (l : List (Fld × Nat)) : (s.wrs l).evq = s.evq := by
  induction l generalizing s with
  | nil => rfl
  | cons p t ih => obtain ⟨f, v⟩ := p; exact ih (s.wr f v)
@[simp] theorem State.wrs_late (s : State) (l : List (Fld × Nat)) : (s.wrs l).late = s.late := by
  induction l generalizing s with
  | nil => rfl
  | cons p t ih => obtain ⟨f, v⟩ := p; exact ih (s.wr f v)
@[simp] theorem State.wrs_zq (s : State) (l : List (Fld × Nat)) : (s.wrs l).zq = s.zq := by
  induction l generalizing s with
  | nil => rfl
  | cons p t ih => obtain ⟨f, v⟩ := p; exact ih (s.wr f v)
@[simp] theorem State.wrs_armed (s : State) (l : List (Fld × Nat)) : (s.wrs l).armed = s.armed := by
  induction l generalizing s with
  | nil => rfl
  | cons p t ih => obtain ⟨f, v⟩ := p; exact ih (s.wr f v)
@[simp] theorem State.wrs_running (s : State) (l : List (Fld × Nat)) : (s.wrs l).running = s.running := by
  induction l generalizing s with
  | nil => rfl
  | cons p t ih => obtain ⟨f, v⟩ := p; exact ih (s.wr f v)
@[simp] theorem State.wrs_htx (s : State) (l : List (Fld × Nat)) : (s.wrs l).htx = s.htx := by
  induction l generalizing s with
  | nil => rfl
  | cons p t ih => obtain ⟨f, v⟩ := p; exact ih (s.wr f v)
@[simp] theorem State.wrs_hcmd (s : State) (l : List (Fld × Nat)) : (s.wrs l).hcmd = s.hcmd := by
  induction l generalizing s with
  | nil => rfl
  | cons p t ih => obtain ⟨f, v⟩ := p; exact ih (s.wr f v)
@[simp] theorem State.wrs_resp (s : State) (l : List (Fld × Nat)) : (s.wrs l).resp = s.resp := by
  induction l generalizing s with
  | nil => rfl
  | cons p t ih => obtain ⟨f, v⟩ := p; exact ih (s.wr f v)
@[simp] theorem State.wrs_free (s : State) (l : List (Fld × Nat)) : (s.wrs l).free = s.free := by
  induction l generalizing s with
  | nil => rfl
  | cons p t ih => obtain ⟨f, v⟩ := p; exact ih (s.wr f v)
@[simp] theorem State.wrs_pending (s : State) (l : List (Fld × Nat)) : (s.wrs l).pending = s.pending := by
  induction l generalizing s with
  | nil => rfl
  | cons p t ih => obtain ⟨f, v⟩ := p; exact ih (s.wr f v)

@[simp] theorem State.wrs_nil (s : State) : s.wrs [] = s := rfl
@[simp] theorem State.wrs_cons (s : State) (f : Fld) (v : Nat) (l : List (Fld × Nat)) :
    s.wrs ((f, v) :: l) = (s.wr f v).wrs l := rfl

/-! ### Bytes written in turn -/

@[simp] theorem State.wrBs_regs (s : State) (a : Nat) (l : List Byte) : (s.wrBs a l).regs = s.regs := by
  induction l generalizing s a with
  | nil => rfl
  | cons b t ih => exact ih (s.wrB a b) (a + 1)
@[simp] theorem State.wrBs_plan (s : State) (a : Nat) (l : List Byte) : (s.wrBs a l).plan = s.plan := by
  induction l generalizing s a with
  | nil => rfl
  | cons b t ih => exact ih (s.wrB a b) (a + 1)
@[simp] theorem State.wrBs_fifos (s : State) (a : Nat) (l : List Byte) : (s.wrBs a l).fifos = s.fifos := by
  induction l generalizing s a with
  | nil => rfl
  | cons b t ih => exact ih (s.wrB a b) (a + 1)
@[simp] theorem State.wrBs_porch (s : State) (a : Nat) (l : List Byte) : (s.wrBs a l).porch = s.porch := by
  induction l generalizing s a with
  | nil => rfl
  | cons b t ih => exact ih (s.wrB a b) (a + 1)
@[simp] theorem State.wrBs_porchFw (s : State) (a : Nat) (l : List Byte) : (s.wrBs a l).porchFw = s.porchFw := by
  induction l generalizing s a with
  | nil => rfl
  | cons b t ih => exact ih (s.wrB a b) (a + 1)
@[simp] theorem State.wrBs_evq (s : State) (a : Nat) (l : List Byte) : (s.wrBs a l).evq = s.evq := by
  induction l generalizing s a with
  | nil => rfl
  | cons b t ih => exact ih (s.wrB a b) (a + 1)
@[simp] theorem State.wrBs_late (s : State) (a : Nat) (l : List Byte) : (s.wrBs a l).late = s.late := by
  induction l generalizing s a with
  | nil => rfl
  | cons b t ih => exact ih (s.wrB a b) (a + 1)
@[simp] theorem State.wrBs_zq (s : State) (a : Nat) (l : List Byte) : (s.wrBs a l).zq = s.zq := by
  induction l generalizing s a with
  | nil => rfl
  | cons b t ih => exact ih (s.wrB a b) (a + 1)
@[simp] theorem State.wrBs_armed (s : State) (a : Nat) (l : List Byte) : (s.wrBs a l).armed = s.armed := by
  induction l generalizing s a with
  | nil => rfl
  | cons b t ih => exact ih (s.wrB a b) (a + 1)
@[simp] theorem State.wrBs_running (s : State) (a : Nat) (l : List Byte) : (s.wrBs a l).running = s.running := by
  induction l generalizing s a with
  | nil => rfl
  | cons b t ih => exact ih (s.wrB a b) (a + 1)
@[simp] theorem State.wrBs_htx (s : State) (a : Nat) (l : List Byte) : (s.wrBs a l).htx = s.htx := by
  induction l generalizing s a with
  | nil => rfl
  | cons b t ih => exact ih (s.wrB a b) (a + 1)
@[simp] theorem State.wrBs_hcmd (s : State) (a : Nat) (l : List Byte) : (s.wrBs a l).hcmd = s.hcmd := by
  induction l generalizing s a with
  | nil => rfl
  | cons b t ih => exact ih (s.wrB a b) (a + 1)
@[simp] theorem State.wrBs_resp (s : State) (a : Nat) (l : List Byte) : (s.wrBs a l).resp = s.resp := by
  induction l generalizing s a with
  | nil => rfl
  | cons b t ih => exact ih (s.wrB a b) (a + 1)
@[simp] theorem State.wrBs_free (s : State) (a : Nat) (l : List Byte) : (s.wrBs a l).free = s.free := by
  induction l generalizing s a with
  | nil => rfl
  | cons b t ih => exact ih (s.wrB a b) (a + 1)
@[simp] theorem State.wrBs_pending (s : State) (a : Nat) (l : List Byte) : (s.wrBs a l).pending = s.pending := by
  induction l generalizing s a with
  | nil => rfl
  | cons b t ih => exact ih (s.wrB a b) (a + 1)

/-! ### Reads after writes -/

@[simp] theorem State.wr_dflt (s : State) (f g : Fld) (v : Nat) : (s.wr f v).dflt g = s.dflt g := rfl
@[simp] theorem State.wrs_dflt (s : State) (l : List (Fld × Nat)) (g : Fld) : (s.wrs l).dflt g = s.dflt g := by
  unfold State.dflt; rw [State.wrs_plan]

/-- A field reads the value last written to it, cut to its width. -/
@[simp] theorem State.rd_wr_self (s : State) (f : Fld) (v : Nat) : (s.wr f v).rd f = v % 2 ^ f.wid := by
  simp only [State.rd, State.wr_dflt]
  simp only [State.wr, Cells.get_put_self]
  split
  · rename_i h; simpa using h
  · rfl

/-- A write leaves every field of another key as it was. -/
theorem State.rd_wr_ne (s : State) {f g : Fld} (h : g.key ≠ f.key) (v : Nat) : (s.wr f v).rd g = s.rd g := by
  simp only [State.rd, State.wr_dflt]
  simp only [State.wr, Cells.get_put_ne h]

/-- A list of writes leaves every field it does not name as it was. -/
theorem State.rd_wrs_ne (s : State) {g : Fld} {l : List (Fld × Nat)} (h : ∀ p ∈ l, g.key ≠ p.1.key) :
    (s.wrs l).rd g = s.rd g := by
  induction l generalizing s with
  | nil => rfl
  | cons p t ih =>
    obtain ⟨f, v⟩ := p
    rw [State.wrs_cons, ih _ (fun q hq => h q (List.mem_cons_of_mem _ hq)), State.rd_wr_ne s (h (f, v) (by simp))]

/-- A FIFO holds the entries last set; every other FIFO is as it was. -/
@[simp] theorem State.ff_setFf_self (s : State) (f : Fld) (l : List Nat) : (s.setFf f l).ff f = l := by
  simp only [State.ff, State.setFf, Cells.get_put_self]
  split
  · rename_i h; simpa using h
  · rfl
theorem State.ff_setFf_ne (s : State) {f g : Fld} (h : g.key ≠ f.key) (l : List Nat) : (s.setFf f l).ff g = s.ff g := by
  simp only [State.ff, State.setFf, Cells.get_put_ne h]
@[simp] theorem State.ff_pushFf_self (s : State) (f : Fld) (v : Nat) : (s.pushFf f v).ff f = s.ff f ++ [v] := by
  simp [State.pushFf]
@[simp] theorem State.ff_popFf_self (s : State) (f : Fld) : (s.popFf f).ff f = (s.ff f).tail := by simp [State.popFf]

/-- A register's value depends on the registers and the applied plan alone, a FIFO's on the FIFOs, a byte's on the memory and
the losses. -/
theorem State.rd_congr {s t : State} (hr : s.regs = t.regs) (hp : s.plan = t.plan) (f : Fld) : s.rd f = t.rd f := by
  simp [State.rd, State.dflt, hr, hp]
theorem State.ff_congr {s t : State} (h : s.fifos = t.fifos) (f : Fld) : s.ff f = t.ff f := by simp [State.ff, h]

@[simp] theorem State.rd_setFf (s : State) (f g : Fld) (l : List Nat) : (s.setFf f l).rd g = s.rd g := rfl
@[simp] theorem State.rd_pushFf (s : State) (f g : Fld) (v : Nat) : (s.pushFf f v).rd g = s.rd g := rfl
@[simp] theorem State.rd_popFf (s : State) (f g : Fld) : (s.popFf f).rd g = s.rd g := rfl
@[simp] theorem State.rd_freeStep (s : State) (g : Fld) : s.freeStep.rd g = s.rd g := rfl
@[simp] theorem State.rd_wrB (s : State) (a : Nat) (b : Byte) (g : Fld) : (s.wrB a b).rd g = s.rd g := rfl
@[simp] theorem State.rd_wrRun (s : State) (a : Nat) (l : List Byte) (g : Fld) : (s.wrRun a l).rd g = s.rd g := rfl
@[simp] theorem State.rd_dropMem (s : State) (lo hi : Nat) (g : Fld) : (s.dropMem lo hi).rd g = s.rd g := rfl
@[simp] theorem State.rd_ok (s : State) (g : Fld) : s.ok.rd g = s.rd g := rfl
@[simp] theorem State.rd_err (s : State) (g : Fld) : s.err.rd g = s.rd g := rfl
@[simp] theorem State.rd_answer (s : State) (v : Nat) (g : Fld) : (s.answer v).rd g = s.rd g := rfl
@[simp] theorem State.ff_wr (s : State) (f g : Fld) (v : Nat) : (s.wr f v).ff g = s.ff g := rfl
@[simp] theorem State.ff_wrs (s : State) (l : List (Fld × Nat)) (g : Fld) : (s.wrs l).ff g = s.ff g := by
  simp [State.ff]
@[simp] theorem State.ff_ok (s : State) (g : Fld) : s.ok.ff g = s.ff g := rfl

/-- A byte reads the value last written to it; a write leaves every other byte as it was. -/
@[simp] theorem State.rdB_wrB_self (s : State) (a : Nat) (b : Byte) : (s.wrB a b).rdB a = b := by
  simp only [State.rdB, State.wrB, Cells.get_put_self]
  by_cases h : memDflt a = some b <;> simp [h]
theorem State.rdB_wrB_ne (s : State) {a c : Nat} (h : c ≠ a) (b : Byte) : (s.wrB a b).rdB c = s.rdB c := by
  simp only [State.rdB, State.wrB, Cells.get_put_ne h]; rfl

/-! ### Choices and repetitions -/

@[simp] theorem State.when_true (s : State) (g : State → State) : s.when true g = g s := rfl
@[simp] theorem State.when_false (s : State) (g : State → State) : s.when false g = s := rfl
@[simp] theorem State.each_nil {α : Type} (s : State) (g : α → State → State) : s.each [] g = s := rfl
@[simp] theorem State.each_cons {α : Type} (s : State) (a : α) (l : List α) (g : α → State → State) :
    s.each (a :: l) g = (g a s).each l g := rfl

/-- What every step of a choice keeps, the choice keeps; what every step of a repetition keeps, the repetition keeps. -/
theorem State.when_keeps {P : State → Prop} {s : State} {c : Bool} {g : State → State} (h : P s) (hg : ∀ s, P s → P (g s)) :
    P (s.when c g) := by
  cases c
  · exact h
  · exact hg s h
theorem State.each_keeps {α : Type} {P : State → Prop} {s : State} {l : List α} {g : α → State → State} (h : P s)
    (hg : ∀ a s, P s → P (g a s)) : P (s.each l g) := by
  induction l generalizing s with
  | nil => exact h
  | cons a t ih => exact ih (hg a s h)

end Sys2Proof.Machine
end

