-- ==== Sys2Proof/Laws/Frame.lean ====
section
/-!
SUPPORT. Laws/Frame.lean: the frames of Safety.lean put together from those of the single updates, and a bus access that is
taken or turned away.
-/
namespace Sys2Proof.Safety

open Sys2Proof.Machine

/-! ### Bus accesses -/

theorem Taken.access {s : State} {m : Master} {f : Fld} (h : Taken s m f) (w : Bool) (eff : State → State) :
    s.access m f.blk f.off w eff = eff s := by
  obtain ⟨h1, h2, h3, h4, h5, h6⟩ := h
  simp only [State.online, Bool.and_eq_true] at h2
  obtain ⟨⟨ha, hb⟩, hc⟩ := h2
  cases w <;> simp [State.access, State.cross, State.clockWait, h1, h3, h4, h5, h6, ha, hb, hc]

/-- A write that is taken has its effect, and the master gets its acknowledge. -/
theorem Taken.write {s : State} {m : Master} {f : Fld} (h : Taken s m f) (eff : State → State) :
    s.write m f eff = (eff s).ok := h.access true _

/-- A read that is taken answers its value and has its effect. -/
theorem Taken.read {s : State} {m : Master} {f : Fld} (h : Taken s m f) (eff : State → Nat × State) :
    s.read m f eff = (eff s).2.answer (eff s).1 := h.access false _

theorem access_unreached {s : State} {m : Master} {b : Nat} (h : s.reaches m b = false) (off : Nat) (w : Bool)
    (eff : State → State) : s.access m b off w eff = s.err := by simp [State.access, h]

theorem access_offline {s : State} {m : Master} {b : Nat} (hr : s.reaches m b = true) (h : s.online b = false) (off : Nat)
    (w : Bool) (ha : s.allowed m (blockAddr b off) (if w then .store else .load) = true)
    (hw : s.clockWait (blkDom b) (blkIsl b) = false) (eff : State → State) :
    s.access m b off w eff = (s.logStall m (blockAddr b off) (blkIsl b) 2 w).err := by
  simp only [State.online] at h
  cases w <;> simp_all [State.access, State.cross]

theorem Settled.settle {s : State} (h : Settled s) : s.settle = s := by
  obtain ⟨h1, h2, h3⟩ := h
  simp [State.settle, h1, h2, h3]

/-! ### Frames -/

/-- The latches that number the losses of a memory. -/
def lossKeys : List Nat := (List.range 18).map fun k => (lossLatch k).key

theorem lossOf_le (a : Nat) : lossOf a ≤ 17 := by
  unfold lossOf; split
  · omega
  · split <;> omega

theorem lossKey_mem (a : Nat) : (lossLatch (lossOf a)).key ∈ lossKeys :=
  List.mem_map.2 ⟨lossOf a, List.mem_range.2 (by have := lossOf_le a; omega), rfl⟩

/-- Bytes read alike where the memories are alike and no loss has been numbered. -/
theorem rdB_congr {s t : State} (hm : t.mem = s.mem) (hl : ∀ k ≤ 17, t.rd (lossLatch k) = s.rd (lossLatch k)) (a : Nat) :
    t.rdB a = s.rdB a := by
  simp only [State.rdB, hm, hl _ (lossOf_le a), hl 17 (Nat.le_refl _)]

theorem RegsBut.refl (fs : List Fld) (s : State) : RegsBut fs s s := fun _ _ => rfl
theorem RegsBut.trans {fs : List Fld} {s t u : State} (h : RegsBut fs s t) (h' : RegsBut fs t u) : RegsBut fs s u :=
  fun g hg => (h' g hg).trans (h g hg)
theorem RegsBut.mono {fs gs : List Fld} {s t : State} (h : RegsBut fs s t) (hs : ∀ f ∈ fs, f ∈ gs) : RegsBut gs s t :=
  fun g hg => h g fun f hf => hg f (hs f hf)

theorem RegsBut.wr {fs : List Fld} {s t : State} (h : RegsBut fs s t) {f : Fld} (hf : f ∈ fs) (v : Nat) : RegsBut fs s (t.wr f v) :=
  fun g hg => (State.rd_wr_ne t (hg f hf) v).trans (h g hg)

theorem RegsBut.wrs {fs : List Fld} {s t : State} (h : RegsBut fs s t) (l : List (Fld × Nat)) (hl : ∀ p ∈ l, p.1 ∈ fs) :
    RegsBut fs s (t.wrs l) := by
  induction l generalizing t with
  | nil => exact h
  | cons p l ih =>
    obtain ⟨f, v⟩ := p
    exact ih (h.wr (hl (f, v) (by simp)) v) fun q hq => hl q (List.mem_cons_of_mem _ hq)

/-- Fields none of which numbers a loss. -/
abbrev PlainFlds (fs : List Fld) : Prop := ∀ f ∈ fs, f.key ∉ lossKeys

theorem RegsBut.loss {fs : List Fld} {s t : State} (h : RegsBut fs s t) (hp : PlainFlds fs) (k : Nat) (hk : k ≤ 17) :
    t.rd (lossLatch k) = s.rd (lossLatch k) :=
  h _ fun f hf e => hp f hf (e ▸ List.mem_map.2 ⟨k, List.mem_range.2 (by omega), rfl⟩)

/-- A state that differs only in listed plain registers and in the answer keeps everything else. -/
theorem only_of_regs {fs : List Fld} {s t : State} (hr : RegsBut fs s t) (hp : PlainFlds fs)
    (h : t.fifos = s.fifos ∧ t.mem = s.mem ∧ t.porch = s.porch ∧ t.porchFw = s.porchFw ∧ ListsKept s t ∧ t.plan = s.plan ∧
      t.pending = s.pending) : Only fs [] s t := by
  obtain ⟨h1, h2, h3, h4, h5, h6, h7⟩ := h
  refine ⟨hr, fun g _ => by simp [State.ff, h1], ⟨rdB_congr h2 (hr.loss hp), fun a => by simp [State.rdP, h3], h4⟩, h5, h6, h7⟩

/-- A list of writes of plain registers, with the answer. -/
theorem only_wrs {fs : List Fld} (s : State) (l : List (Fld × Nat)) (hl : ∀ p ∈ l, p.1 ∈ fs) (hp : PlainFlds fs) :
    Only fs [] s (s.wrs l).ok :=
  only_of_regs (t := (s.wrs l).ok) (fun g hg => (RegsBut.refl fs s).wrs l hl g hg) hp (by simp [ListsKept])

end Sys2Proof.Safety
end

