-- ==== Sys2Proof/Laws/Memory.lean ====
section
/-!
SUPPORT. Laws/Memory.lean: every operation on the three memories keeps their canonical forms, and bytes read as written.
-/
namespace Sys2Proof.Safety

open Sys2Proof.Machine

/-! ### The canonical forms -/

theorem wf_iff (m : List Host.Cell) : Memory.wf m = true ↔ Cells.Canon memDflt m := by
  simp [Memory.wf, Cells.Canon]

theorem porchWf_iff (m : List Host.Cell) : porchWf m = true ↔ Cells.Canon (fun a => some (porchDflt a)) m := by
  simp [porchWf, Cells.Canon]

theorem porchFwWf_iff (m : List Host.Cell) : porchFwWf m = true ↔ Cells.Canon (fun _ => none) m := by
  simp [porchFwWf, Cells.Canon]

/-- States with the same memories keep the invariant together. -/
theorem MemInv.congr {s t : State} (h : MemInv s) (hm : t.mem = s.mem) (hp : t.porch = s.porch) (hf : t.porchFw = s.porchFw) :
    MemInv t := by
  unfold MemInv; rw [hm, hp, hf]; exact h

/-- A step that changes only the main memory keeps the invariant when the new contents are canonical. -/
theorem MemInv.ofMem {s t : State} (h : MemInv s) (hm : Cells.Canon memDflt t.mem) (hp : t.porch = s.porch) (hf : t.porchFw = s.porchFw) :
    MemInv t := by
  refine ⟨(wf_iff _).2 hm, ?_, ?_⟩
  · rw [hp]; exact h.2.1
  · rw [hf]; exact h.2.2

theorem MemInv.canon {s : State} (h : MemInv s) : Cells.Canon memDflt s.mem := (wf_iff _).1 h.1

/-! ### The operations -/

theorem MemInv.wr {s : State} (h : MemInv s) (f : Fld) (v : Nat) : MemInv (s.wr f v) := h.congr rfl rfl rfl

theorem MemInv.wrs {s : State} (h : MemInv s) (l : List (Fld × Nat)) : MemInv (s.wrs l) := by
  induction l generalizing s with
  | nil => exact h
  | cons p t ih => exact ih (h.wr p.1 p.2)

theorem MemInv.setFf {s : State} (h : MemInv s) (f : Fld) (l : List Nat) : MemInv (s.setFf f l) := h.congr rfl rfl rfl

theorem MemInv.freeStep {s : State} (h : MemInv s) : MemInv s.freeStep := h.congr rfl rfl rfl

theorem MemInv.wrB {s : State} (h : MemInv s) (a : Nat) (b : Byte) : MemInv (s.wrB a b) :=
  h.ofMem (h.canon.put a b) rfl rfl

theorem MemInv.wrBs {s : State} (h : MemInv s) (a : Nat) (l : List Byte) : MemInv (s.wrBs a l) := by
  induction l generalizing s a with
  | nil => exact h
  | cons b t ih => exact ih (h.wrB a b) (a + 1)

theorem MemInv.wrLe {s : State} (h : MemInv s) (a n v : Nat) : MemInv (s.wrLe a n v) := h.wrBs a _

theorem MemInv.wrRun {s : State} (h : MemInv s) (a : Nat) (l : List Byte) : MemInv (s.wrRun a l) :=
  h.ofMem (h.canon.putRun a l) rfl rfl

theorem MemInv.dropMem {s : State} (h : MemInv s) (lo hi : Nat) : MemInv (s.dropMem lo hi) :=
  h.ofMem (h.canon.keep _) rfl rfl

theorem MemInv.loseMem {s : State} (h : MemInv s) (k : Nat) : MemInv (s.loseMem k) :=
  ((h.dropMem _ _).wr _ _).freeStep

theorem MemInv.wrP {s : State} (h : MemInv s) (a : Nat) (b : Byte) : MemInv (s.wrP a b) :=
  ⟨h.1, (porchWf_iff _).2 (((porchWf_iff _).1 h.2.1).put a b), h.2.2⟩

/-- An effect repeated over a list keeps what each of its steps keeps. -/
theorem MemInv.each {α : Type} {s : State} (h : MemInv s) (l : List α) (g : α → State → State)
    (hg : ∀ a s, MemInv s → MemInv (g a s)) : MemInv (s.each l g) := by
  induction l generalizing s with
  | nil => exact h
  | cons a t ih => exact ih (hg a s h)

theorem MemInv.when {s : State} (h : MemInv s) (c : Bool) (g : State → State) (hg : MemInv (g s)) : MemInv (s.when c g) := by
  cases c
  · exact h
  · exact hg

theorem MemInv.wrPs {s : State} (h : MemInv s) (a : Nat) (l : List Byte) : MemInv (s.wrPs a l) := by
  induction l generalizing s a with
  | nil => exact h
  | cons b t ih => exact ih (h.wrP a b) (a + 1)

theorem MemInv.freeP {s : State} (h : MemInv s) (l : List Nat) : MemInv (s.freeP l) :=
  h.each l _ fun _ _ hs => (hs.wrP _ _).freeStep

theorem MemInv.wrFw {s : State} (h : MemInv s) (a : Nat) (l : List Byte) : MemInv (s.wrFw a l) := by
  refine ⟨h.1, h.2.1, (porchFwWf_iff _).2 ?_⟩
  have key : ∀ (ps : List (Byte × Nat)) (m : List Host.Cell), Cells.Canon (fun _ => none) m →
      Cells.Canon (fun _ => none) (ps.foldl (fun m p => Cells.put (a + p.2) p.1 none m) m) := by
    intro ps
    induction ps with
    | nil => exact fun _ hm => hm
    | cons p t ih => exact fun m hm => ih _ (Cells.Canon.put hm (a + p.2) p.1)
  exact key _ _ ((porchFwWf_iff _).1 h.2.2)

/-! ### Reading back -/

/-- A byte written reads back, and every other byte reads as before. -/
theorem rdB_wrB (s : State) (a j : Nat) (b : Byte) : (s.wrB a b).rdB j = if j = a then b else s.rdB j := by
  by_cases hj : j = a
  · subst hj
    have hg := Cells.get_put_self j b (memDflt j) s.mem
    unfold State.rdB State.wrB
    simp only [if_true]
    rw [hg]
    by_cases hd : memDflt j = some b <;> simp [hd]
  · unfold State.rdB State.wrB
    simp only [if_neg hj]
    rw [Cells.get_put_ne hj]
    rfl

end Sys2Proof.Safety
end

