-- ==== Sys2Proof/Tests/Slice0.lean ====
section
/-!
SUPPORT. Tests/Slice0.lean: the package's own tests: ill-formed terms that the check refuses, single steps whose expected
results the spec's worked examples and tables give, and for each statement states that meet its hypotheses.
-/
namespace Sys2Proof.Tests

open Sys2Proof Sys2Proof.Machine Sys2Proof.Safety

set_option Elab.async false

/-- Every domain powered, every clock running, and the given fields written. -/
def live (l : List (Fld × Nat)) : State :=
  State.reset.wrs ([(R.SYSCTL_DOM_STAT, 0x1FFF), (R.HALL_CLK_STAT_RUN, 0x7FF)] ++ l)

/-- What a step answers, where it is a next state. -/
def after (o : Out) : State :=
  match o with
  | .next s => s
  | _ => State.reset

/-! ### Ill-formed terms -/

theorem test_illformed_bus_value : wellFormed (.registerWrite .app (.bus 0x40000000#32) .byte 0x100#32) = false := by decide
theorem test_illformed_window_value : wellFormed (.ctxWindowStore .link 0x20160000#32 .half 0x10000#32) = false := by decide
theorem test_illformed_report : wellFormed (.rxReport .stratus [0#16] [] [] [] []) = false := by decide
theorem test_illformed_sync : wellFormed (.syncMatch .stratus [] [0#16] 0#64 0#8 0#8 0#16) = false := by decide
theorem test_illformed_header : wellFormed (.phrReceived .stratus [] [] [0#16] [] []) = false := by decide
theorem test_illformed_agc : wellFormed (.agcUpdate .stratus 0#3 0#3 ⟨false, 0#8⟩ [0#16]) = false := by decide
theorem test_illformed_training : wellFormed (.eqTrainEnd .stratus [0#16] []) = false := by decide
theorem test_illformed_two_sources :
    wellFormed (.frameIdentify .cirrus ⟨0#32, some 0#64, some 0#16, none, 0#16, false, 0#32, 0#11⟩) = false := by decide
theorem test_illformed_snap_word : wellFormed (.ctxSnap .app 0#8 [(32, true)]) = false := by decide
theorem test_illformed_scrub_word : wellFormed (.ctxScrub [(40, false)]) = false := by decide
theorem test_illformed_anticollision : wellFormed (.anticollision false 41#6 0#40) = false := by decide
theorem test_illformed_lin_response : wellFormed (.linResponseEnd true (List.replicate 9 0#8) 0#8) = false := by decide
theorem test_illformed_can_data : wellFormed (.canFrameRx 0 0#32 0#32 (List.replicate 65 0#8)) = false := by decide
theorem test_illformed_host_payload : wellFormed (.hostCmdHeader 1#8 0#8 1#8 1#16 0#16 [0#8, 0#8] 0#32) = false := by decide
theorem test_illformed_verdict_word :
    wellFormed (.verdict .cirrus ⟨[], [], [], 0#3, 0#2, false, 0#8, false, 0#3, 0#2, 0#8, 0#32, none, false, none⟩ ⟨false, false, false⟩ 0#8 [(32, true)])
      = false := by decide
theorem test_illformed_aid : wellFormed (.selectApplication ⟨List.replicate 256 0#8, false⟩) = false := by decide +kernel
theorem test_illformed_update : wellFormed (.updateBinary 0#15 ⟨List.replicate 256 0#8, false⟩) = false := by decide +kernel
theorem test_illformed_authenticate : wellFormed (.externalAuthenticate 0#8 ⟨List.replicate 256 0#8, false⟩) = false := by decide +kernel
theorem test_illformed_i2c : wellFormed (.i2cDone false false (List.replicate 256 0#8) 0#8) = false := by decide +kernel

/-! ### Whole-machine statements: states that meet their hypotheses -/

theorem witness_inv : Inv State.reset := by
  exact ⟨⟨by decide, by decide, by decide⟩, (by decide : State.reset.lt % 16 = 0)⟩
theorem witness_step_next : ∃ t, step State.reset = .next t := ⟨_, rfl⟩
theorem witness_empty_queue : State.reset.pending = [] := rfl
theorem witness_plan_command : ∃ t, exec (.suspend .app) State.reset = .next t ∧
    (∀ errs, Instr.suspend .app ≠ .floorLoadDone errs) ∧ (∀ errs, Instr.suspend .app ≠ .reloadDone errs) ∧
    (∀ b, Instr.suspend .app ≠ .por b) ∧ Instr.suspend .app ≠ .bor ∧ (∀ b, Instr.suspend .app ≠ .offWakeCellarRestart b) :=
  ⟨_, rfl, fun _ => nofun, fun _ => nofun, fun _ => nofun, nofun, fun _ => nofun⟩
theorem witness_flash_default : memDflt 0x08000000 ≠ none := by decide

/-! ### Register writes -/

theorem witness_register_write : Settled (live []) ∧ Taken (live []) .app R.SYSCTL_RESUME_ADDR ∧ Taken (live []) .app R.SYSCTL_DEVID_PART :=
  by decide +kernel
theorem witness_w1c : Taken (live []) .app R.SYSCTL_RST_CAUSE_KIND ∧ (live []).rd R.SYSCTL_RST_CAUSE_KIND < 2 ^ 11 :=
  by decide +kernel
theorem witness_lock : Taken (live [(R.SYSCTL_CTRL_LOCK, 1)]) .app R.SYSCTL_CTRL_LOCK ∧ (live [(R.SYSCTL_CTRL_LOCK, 1)]).rd R.SYSCTL_CTRL_LOCK < 2 :=
  by decide +kernel
theorem witness_sram_store : regionOf 0x200FFFFC = .sram ∧ 0x200FFFFC % Size.bytes .word = 0 ∧
    (live []).memReach .app .sram 0x200FFFFC true = true ∧ (live []).domOn (regionDom .sram) = true ∧
    (live []).islOn (regionIsl .sram) = true ∧ Open (live []) .app 0x200FFFFC (regionIsl .sram) := by decide +kernel
theorem witness_write_errors : 0x20000001 % Size.bytes .half ≠ 0 ∧ regionOf 0x30000000 = .unmapped ∧
    (∃ b o, regionOf 0x40000034 = .block b o ∧ Size.byte ≠ .word) := ⟨by decide, by decide +kernel, 0, 0x34, by decide +kernel, by decide⟩
theorem test_sram_bytes : (after (exec (.registerWrite .app (.bus 0x20000010#32) .word 0x11223344#32) (live []))).rdB 0x20000011 = 0x33#8 := by
  decide +kernel
theorem test_lock_holds : (after (exec (.registerWrite .app (.bus 0x40000000#32) .word 1#32) (live [(R.SYSCTL_CTRL_LOCK, 1)]))).rd
    R.SYSCTL_CTRL_IRQ_EN = 0 := by decide +kernel
theorem witness_register_any : regionOf 0x40000034 = .block 0 0x34 ∧ (busCommand .app 0 0x34 5).isNone ∧ (live []).reaches .app 0 = true ∧
    (live []).online 0 = true ∧ Open (live []) .app (blockAddr 0 0x34) (blkIsl 0) := by decide +kernel
/-- Region 0 locked, without permissions, over the word at 0x20000010. -/
def pmpState : State := live [(L.PMP_CFG, 0x90), (L.PMP_ADDR 0, 0x20000010 / 4)]
theorem witness_pmp : pmpState.allowed .app 0x20000010 .store = false ∧ pmpState.allowed .app 0x20000014 .store = true ∧
    (live []).domOn 5 = true ∧ (live []).islOn 2 = true ∧ (live []).rd L.CPU_PRIV = 3 ∧ (live []).pmpLocked 0 = false := by decide +kernel
theorem test_pmp_locks : (after (exec (.registerWrite .app (.csr 0x3B0) .word 1#32) pmpState)).rd (L.PMP_ADDR 0) = 0x20000010 / 4 := by
  decide +kernel
theorem test_time_csr : (live [(L.LT, 0x123456780)]).csrRead 0xC01 = some 0x12345678 := by decide +kernel

/-! ### Resets -/

theorem witness_bor : (live []).domOn 1 = true ∧ bit ((live []).rd L.RST_HELD) 1 = false := by decide
theorem witness_bor_held : bit ((live [(L.RST_HELD, 2)]).rd L.RST_HELD) 1 = true := by decide
theorem witness_pin : (live []).domOn 1 = true ∧ bit ((live []).rd L.RST_HELD) 0 = false := by decide
theorem witness_pin_held : bit ((live [(L.RST_HELD, 1)]).rd L.RST_HELD) 0 = true := by decide
theorem witness_sys : Taken (live []) .app R.SYSCTL_SYS_RST_KEY := ⟨by decide, by decide, by decide⟩
theorem witness_sys_key : (0xA5C2#16 : BitVec 16) ≠ 0xA5C3#16 := by decide
theorem witness_dbg : (live []).domOn 5 = true ∧ (live []).rd R.FLASHC_RDP_LEVEL ≠ 2 ∧ Settled (live []) ∧ (live []).on L.INJ_ON = false :=
  ⟨by decide, by decide, ⟨by decide, by decide, by decide⟩, by decide⟩
theorem witness_dbg_level2 : (live [(R.FLASHC_RDP_LEVEL, 2)]).rd R.FLASHC_RDP_LEVEL = 2 := by decide
theorem test_por_cause : (after (exec (.por false) (live [(R.SYSCTL_RST_CAUSE_KIND, 0x80)]))).rd R.SYSCTL_RST_CAUSE_KIND = 1 := by decide +kernel
theorem test_pin_keeps_link_time : (after (exec .pinReset (live [(L.LT, 0x5550)]))).lt = 0x5550 := by decide +kernel

/-! ### The Floor Plan -/

theorem witness_reload : Taken (live []) .app R.FLOOR_CMD_RELOAD ∧ (live []).rd R.FLOOR_CTRL_LOCK = 0 ∧
    (live []).rd R.FLOOR_STATUS_RELOAD_BUSY = 0 ∧ (live []).rd R.SYSCTL_PWR_STAT_STATE = 0 ∧ (live []).rd R.SYSCTL_PWR_STAT_ENTERING = 0 ∧
    (live []).rd (R.FE_STAT_STATE .cirrus) = 0 ∧ (live []).rd (R.FE_STAT_STATE .stratus) = 0 ∧ (live []).armed = [] ∧
    (live []).running = [] ∧ (live []).rd R.FLASHC_STAT_BUSY0 = 0 :=
  ⟨⟨by decide, by decide, by decide⟩, by decide, by decide, by decide, by decide, by decide, by decide, rfl, rfl, by decide⟩
theorem witness_reload_refused : (live [(R.SYSCTL_PWR_STAT_ENTERING, 1)]).rd R.SYSCTL_PWR_STAT_ENTERING ≠ 0 ∧
    (live [(R.FE_STAT_STATE .stratus, 2)]).rd (R.FE_STAT_STATE .stratus) = 2 ∧
    (live [(R.FLASHC_STAT_BUSY0, 1)]).rd R.FLASHC_STAT_BUSY0 ≠ 0 ∧ (live [(R.FLOOR_CTRL_LOCK, 1)]).rd R.FLOOR_CTRL_LOCK ≠ 0 := by
  decide
theorem witness_reload_done :
    let s := live [(R.FLOOR_STATUS_RELOAD_BUSY, 1)]
    s.on R.FLOOR_STATUS_RELOAD_BUSY = true ∧ s.hcmd = [] ∧ Settled s ∧ NoInjection s ∧ s.ff L.FL_BAD = [] ∧
      s.rdLe (fpCopy 0) 4 ≠ 0x4E504C46 ∧ s.rdLe (fpCopy 1) 4 ≠ 0x4E504C46 :=
  ⟨by decide, rfl, ⟨by decide, by decide, by decide⟩, (by decide : State.on _ _ = false), by decide, by decide +kernel, by decide +kernel⟩
theorem witness_load_done : State.reset.on L.FP_LOADING = true ∧ State.reset.rd L.RST_HELD = 0 ∧ State.reset.domOn 1 = true ∧
    State.reset.rd R.FLASHC_RDP_LOWERING = 0 ∧ Calm State.reset ∧ State.reset.ff L.FL_BAD = [] := by decide +kernel
/-- A plan without sections, as copy A. -/
def emptyPlan : List Byte :=
  let h (crc : Nat) : List Byte := leBytes 4 0x4E504C46 ++ leBytes 2 1 ++ leBytes 2 32 ++ leBytes 4 7 ++ leBytes 4 32 ++ leBytes 4 crc ++ zeros 12
  h (crc32c (h 0))
theorem witness_reload_applies :
    let s := (live [(R.FLOOR_STATUS_RELOAD_BUSY, 1)]).wrBs (fpCopy 0) emptyPlan
    s.fpUsed (s.fpErr 0) (s.fpErr 1) = 1 ∧ s.on R.FLOOR_STATUS_RELOAD_BUSY = true ∧ s.rd R.SYSCTL_SUPPLY_STAT_WARN = 0 ∧ s.hcmd = [] ∧ Calm s := by
  decide +kernel
theorem test_plan_applies :
    let s := live [(R.FLOOR_STATUS_RELOAD_BUSY, 1)]
    ((s.wrBs (fpCopy 0) emptyPlan).fpApply 1 0 2 (some fun t n i => s.fpNow t n i)).rd R.FLOOR_SEQ = 7 := by decide +kernel

/-! ### Clocks -/

theorem witness_calm : Calm (live []) := ⟨⟨by decide, by decide, by decide⟩, (by decide : State.on _ _ = false), by decide +kernel⟩
theorem witness_hfxo : (live [(R.HALL_CLK_STAT_HFXO_OK, 1)]).on R.HALL_CLK_STAT_HFXO_OK = true ∧
    (live [(R.HALL_CLK_STAT_HFXO_OK, 1)]).rd R.HALL_CLK_STAT_PLL_SRC = 0 ∧ Calm (live [(R.HALL_CLK_STAT_HFXO_OK, 1)]) :=
  ⟨by decide, by decide, ⟨⟨by decide, by decide, by decide⟩, (by decide : State.on _ _ = false), by decide +kernel⟩⟩
theorem witness_pll_waits : (live [(L.PLL_WAIT, 1)]).rd L.PLL_WAIT = 1 ∧ (live [(L.PLL_WAIT, 2)]).rd L.PLL_WAIT = 2 ∧
    (live [(L.PLL_WAIT, 3)]).rd L.PLL_WAIT = 3 ∧ (live []).on L.ENT_CLK = false ∧
    (live [(R.HALL_CLK_STAT_PLL_LOCK, 1)]).on R.HALL_CLK_STAT_PLL_LOCK = true := by decide
theorem witness_qualified : (live []).rd R.HALL_CLK_STAT_HFXO_OK = 0 ∧ (live []).domOn 1 = true ∧ (live []).pwr ≤ 1 := by decide
theorem witness_return : Taken (live []) .app R.HALL_CLK_CMD_RETURN_HFXO ∧
    (let s := live [(R.HALL_CLK_STAT_HFXO_OK, 1), (R.HALL_CLK_STAT_PLL_SRC, 1)]
     s.on R.HALL_CLK_STAT_HFXO_OK = true ∧ s.on R.HALL_CLK_STAT_PLL_SRC = true ∧ s.rd L.PLL_WAIT = 0) ∧
    (live []).on R.HALL_CLK_STAT_PLL_SRC = false := ⟨⟨by decide, by decide, by decide⟩, by decide, by decide⟩
theorem witness_lfxo : (live []).rd R.HALL_CLK_STAT_LF_SRC = 0 ∧ (live []).rd L.FP_LF_SRC = 0 := by decide
theorem witness_resume :
    let s := live [(R.HALL_CLK_STAT_HFXO_OK, 1)]
    s.on R.HALL_CLK_STAT_LT_SRC = true ∧ s.on R.HALL_CLK_STAT_HFXO_OK = true ∧ s.rd R.HALL_CLK_STAT_PLL_SRC = 0 ∧
      s.domOn 6 = true ∧ s.islOn 3 = true := by decide
theorem witness_snap : Taken (live []) .app R.HALL_LT_CMD_SNAP ∧ (live []).lt < 2 ^ 64 := ⟨⟨by decide, by decide, by decide⟩, by decide⟩

/-- R23's worked example: LINK_TIME 0x0000_0012_3456_7800 and 10 s of SLEEP, 327 680 CELLAR cycles, untrimmed, resume at
0x0000_0012_CCEC_F800; here the first 32 of those cycles add 250 000 units, cut to a multiple of 16. -/
theorem test_link_time_carry : ((live [(L.LT, 0x1234567800), (L.LT_ACC, 0x1234567800 * 2 ^ 22)]).carry 32).lt = 0x1234567800 + 250000 := by
  decide +kernel

/-! ### Stalls and the DMA -/

theorem witness_stall : Calm (live []) ∧ regionOf 0x40000034 = .block 0 0x34 ∧ (live []).reaches .app 0 = true ∧
    (live []).online 0 = true ∧ masterIsl .app ≠ blkIsl 0 ∧ (live []).crossHeld .app 10 = false ∧
    (live []).allowed .app 0x40000034 .store = true ∧ (live []).rd R.HALL_STALL_CNT < 2 ^ 16 ∧ (live []).rd R.HALL_STALL_LOG_VALID = 0 := by decide +kernel
theorem witness_late : Taken { live [(R.HALL_STALL_LOG_VALID, 1)] with late := [] } .app R.SYSCTL_RESUME_ADDR ∧
    Calm { live [(R.HALL_STALL_LOG_VALID, 1)] with late := [⟨.app, 0x40000034, 4, 5, true⟩] } ∧
    (live [(R.HALL_STALL_LOG_VALID, 1)]).rd R.HALL_STALL_LOG_VALID ≠ 0 := by decide +kernel
theorem witness_stall_clear : Taken (live []) .app R.HALL_STALL_LOG_VALID := by decide +kernel
theorem witness_refused : (live []).reaches .host 24 = false ∧ State.reset.reaches .link 10 = true ∧ State.reset.online 10 = false ∧ State.reset.clockWait 6 3 = false ∧ ((live [(L.PLL_WAIT, 1)]).setIsl 10 false).clockWait 12 10 = true ∧
    State.reset.reaches .app 36 = true ∧ State.reset.online 36 = false := by decide +kernel
theorem test_refused_log : let t := after (exec (.headerPub .app) State.reset)
    t.rd R.HALL_STALL_LOG_VALID = 1 ∧ t.rd R.HALL_STALL_LOG_DST = 10 ∧ t.rd R.HALL_STALL_ADDR = 0x4008300C := by decide +kernel

/-- A state with channel 3 copying words from 0x20000000 to 0x20001000, one element left. -/
def dmaState : State := live [(R.DMA_CTRL_EN, 1), (R.DMA_CH_STAT_BUSY 3, 1), (R.DMA_CH_CFG_EN 3, 1), (R.DMA_CH_CFG_WIDTH 3, 2),
  (L.DM_SRC 3, 0x20000000), (L.DM_DST 3, 0x20001000), (R.DMA_CH_STAT_REMAIN 3, 4), (R.DMA_CH_CFG_REQ 3, 5)]

theorem witness_dma_start : Calm (live [(R.DMA_CTRL_EN, 1), (R.DMA_CH_CNT 3, 8)]) ∧ Taken (live []) .app (R.DMA_CH_CFG_EN 3) ∧
    (live []).rd (R.DMA_CH_STAT_BUSY 3) = 0 ∧ (live [(R.DMA_CTRL_EN, 1)]).on R.DMA_CTRL_EN = true ∧ bit 0x11 0 = true ∧ bits 0x11 4 3 ≠ 3 ∧
    (live [(R.DMA_CTRL_EN, 1), (R.DMA_CH_CNT 3, 8)]).rd (R.DMA_CH_CNT 3) ≠ 0 ∧
    (live [(R.DMA_CTRL_EN, 1), (R.DMA_CH_CNT 3, 8)]).rd (R.DMA_CH_CNT 3) % 2 ^ bits 0x11 4 3 = 0 ∧
    (live []).rd (R.DMA_CH_CNT 3) = 0 ∧ (live [(R.DMA_CH_STAT_BUSY 3, 1)]).rd (R.DMA_CH_STAT_BUSY 3) = 1 := by decide +kernel
theorem witness_dma_move : dmaState.dmaRuns 3 = true ∧ dmaState.rd (R.DMA_CH_CFG_WIDTH 3) = 2 ∧ regionOf 0x20000000 = .sram ∧
    regionOf 0x20001000 = .sram ∧ dmaState.rd R.FLASHC_RDP_LEVEL = 0 ∧ dmaState.domOn (regionDom .sram) = true ∧
    dmaState.islOn (regionIsl .sram) = true ∧ dmaState.crossHeld .dma 2 = false ∧ 4 ≤ dmaState.rd (R.DMA_CH_STAT_REMAIN 3) ∧ Calm dmaState ∧
    (dmaState.wr (R.DMA_CH_CFG_SW 3) 1).on (R.DMA_CH_CFG_SW 3) = true ∧ dmaState.on (R.DMA_CH_CFG_SW 3) = false ∧
    bit 0x20 (dmaState.rd (R.DMA_CH_CFG_REQ 3)) = true ∧ ∀ k < 16, k ≠ 3 → dmaState.rd (R.DMA_CH_STAT_BUSY k) = 0 := by decide +kernel
theorem test_dma_element_done : (after (exec (.dmaRequest 0x20#64) dmaState)).rd R.DMA_DONE = 8 := by decide +kernel

/-! ### Radios -/

theorem witness_radio_bus : Calm (live [(R.FE_CTRL_DIRECT .cirrus, 1)]) ∧ Taken (live [(R.FE_CTRL_DIRECT .cirrus, 1)]) .link (R.FE_CMD_OP .cirrus) ∧
    (live [(R.FE_CTRL_DIRECT .cirrus, 1)]).on (R.FE_CTRL_DIRECT .cirrus) = true := by decide +kernel
theorem witness_radio_seq : (live []).on (R.FE_CTRL_DIRECT .stratus) = false ∧ (live []).online (feBlk .stratus) = true ∧ Calm (live []) := by
  decide +kernel
theorem witness_radio_idle : (live [(R.FE_STAT_STATE .stratus, 1)]).rst .stratus = 1 ∧ (live []).rd (L.RA_TGT .stratus) = 0 ∧
    (live []).rd (L.P_OP .stratus) = 0 ∧ (live []).rd (L.RA_EV .stratus) = 0 ∧ (live []).rd (R.FE_STAT_TX_INHIBIT .stratus) = 0 ∧
    (live [(R.FE_STAT_TX_INHIBIT .stratus, 1)]).rd (R.FE_STAT_TX_INHIBIT .stratus) = 1 := by decide +kernel
theorem witness_radio_tx : (live [(R.FE_STAT_STATE .cirrus, 6)]).rst .cirrus = 6 ∧ (live [(R.FE_STAT_STATE .cirrus, 8)]).rst .cirrus = 8 := by
  decide +kernel
theorem test_radio_cal_refused :
    (after (exec (.radioCal (.seq 0 0 0) .cirrus) (live []))).rd (R.FE_STAT_LAST_RESULT .cirrus) = 9 := by decide +kernel
theorem witness_radio_deaf : (live [(R.FE_CTRL_DIRECT .stratus, 1)]).on (R.FE_CTRL_DIRECT .stratus) = true ∧
    Taken (live []) .link (R.FE_CMD_OP .cirrus) ∧ (live []).on (R.FE_CTRL_DIRECT .cirrus) = false := by decide +kernel
theorem witness_radio_pending : (live [(R.FE_STAT_STATE .stratus, 7)]).rst .stratus = 7 ∧
    (live [(L.P_OP .stratus, 2)]).rd (L.P_OP .stratus) ≠ 0 ∧ (live [(L.P_OP .stratus, 2)]).rd (L.P_EV .stratus) = 0 ∧
    (live [(L.RA_TGT .cirrus, 1)]).rd (L.RA_TGT .cirrus) ≠ 0 ∧ (live [(R.FE_STAT_STATE .cirrus, 3)]).rst .cirrus = 3 := by decide +kernel

theorem witness_transition :
    let s := live [(R.FE_STAT_STATE .stratus, 3), (L.RA_TGT .stratus, 2)]
    s.rst .stratus = 3 ∧ s.rd (L.RA_TGT .stratus) = 2 ∧ s.rd (L.RA_REOPEN .stratus) = 0 ∧ s.rd (L.RA_DUE .stratus) = 0 ∧
      s.coexOn .stratus = false ∧ s.on (L.RA_RDY .stratus) = false ∧ s.rd (L.P_OP .stratus) = 0 ∧ s.rd (L.RA_EV .stratus) = 0 := by
  decide +kernel
theorem witness_transition_idle :
    let s := live [(R.FE_STAT_STATE .cirrus, 4), (L.RA_TGT .cirrus, 1)]
    s.rst .cirrus = 4 ∧ s.rd (L.RA_TGT .cirrus) = 1 ∧ (live [(R.FE_STAT_STATE .cirrus, 2)]).rst .cirrus = 2 ∧
      (live [(L.RA_WAIT .cirrus, 1)]).on (L.RA_WAIT .cirrus) = true ∧ (live [(L.RA_RDY .cirrus, 1)]).on (L.RA_RDY .cirrus) = true := by
  decide +kernel
theorem witness_tx_start :
    let s := live [(R.FE_STAT_STATE .cirrus, 5), (L.RA_TGT .cirrus, 3), (L.RA_RDY .cirrus, 1)]
    s.rd (L.RA_TGT .cirrus) = 3 ∧ s.rd (R.FE_STAT_TX_INHIBIT .cirrus) = 0 ∧ s.coexOn .cirrus = false ∧ s.on (L.RA_RDY .cirrus) = true ∧
      paBottom .cirrus ≤ s.txPower .cirrus ∧ s.rd (R.FE_CTRL_DIRECT .cirrus) = 0 ∧ s.running = [] ∧ s.ap .cirrus (R.FE_AUTO_TX_END .cirrus) = 0 := by
  decide +kernel
theorem witness_ramp_down :
    let s := live [(R.FE_STAT_STATE .stratus, 7)]
    s.rst .stratus = 7 ∧ s.rd (L.RA_CUT .stratus) = 0 ∧ s.rd (L.RA_OFF .stratus) = 0 ∧ s.ap .stratus (R.FE_AUTO_TX_END .stratus) = 0 := by
  decide +kernel
/-- An event armed for Cirrus. -/
def anEvent : Armed :=
  { handle := 1, ctx := 0, kind := 1, sleepOk := false, cls := 0, chan := 0, freqKhz := 2402000, start := 0, guard := 0, txLen := 0,
    buf := 0, maxDur := 0, fest := 0 }
theorem witness_direct : Taken (live []) .link (R.FE_CTRL_DIRECT .cirrus) ∧ (live []).rd (R.FE_CTRL_LOCK .cirrus) = 0 ∧
    (∀ e ∈ (live []).armed ++ (live []).running, e.radio ≠ .cirrus) ∧
    ∃ e ∈ ({ live [] with armed := [anEvent] } : State).armed ++ (live []).running, e.radio = .cirrus :=
  ⟨by decide +kernel, by decide +kernel, by decide +kernel, anEvent, by decide, by decide⟩

theorem witness_fem : (live [(R.FE_STAT_STATE .stratus, 5), (L.RA_TGT .stratus, 3)]).rst .stratus = 5 ∧
    (live [(R.FE_STAT_STATE .stratus, 5), (L.RA_TGT .stratus, 3)]).rd (L.RA_TGT .stratus) = 3 ∧
    (live [(R.FE_STAT_STATE .cirrus, 3)]).rst .cirrus = 3 ∧ (live []).rst .cirrus ≠ 6 ∧ (live []).rst .cirrus ≠ 7 ∧
    (live []).rd R.FEMCTL_CNT_LEAD_SHORT < 2 ^ R.FEMCTL_CNT_LEAD_SHORT.wid - 1 := by decide +kernel
/-- Cirrus settles for a transmission with coexistence in force. -/
def coexState : State := live [(R.FEMCTL_CFG_COEX_EN, 1), (inForce .cirrus R.FEMCTL_COEX_CFG_CIR_EN, 1), (L.RA_TGT .cirrus, 3),
  (R.FE_STAT_STATE .cirrus, 5), (L.CX_END .cirrus, 1), (inForce .cirrus R.FEMCTL_COEX_CFG_ABORT_ON_LOSS, 1)]
theorem witness_coex : coexState.coexOn .cirrus = true ∧ coexState.rd (L.RA_TGT .cirrus) = 3 ∧ coexState.rd (L.RA_REOPEN .cirrus) = 0 ∧
    coexState.on (L.CX_END .cirrus) = true ∧ coexState.rd (L.CX_REQ .stratus) = 0 ∧ Calm coexState ∧
    coexState.rd (L.P_OP .cirrus) = 0 ∧ coexState.rd (L.RA_EV .cirrus) = 0 ∧ coexState.ap .cirrus (R.FE_AUTO_TX_END .cirrus) = 0 ∧
    coexState.rd R.FEMCTL_CNT_DENIED_TX < 2 ^ R.FEMCTL_CNT_DENIED_TX.wid - 1 ∧
    coexState.gntOf .cirrus (coexState.ap .cirrus R.FEMCTL_COEX_CFG_GNT_POL != 1) = true ∧
    coexState.gntOf .cirrus (coexState.ap .cirrus R.FEMCTL_COEX_CFG_GNT_POL == 1) = false ∧
    coexState.ap .cirrus R.FEMCTL_COEX_CFG_ABORT_ON_LOSS = 1 ∧
    (coexState.wr (R.FE_STAT_STATE .cirrus) 6).rst .cirrus = 6 ∧
    coexState.rd R.FEMCTL_CNT_LOST_GNT < 2 ^ R.FEMCTL_CNT_LOST_GNT.wid - 1 := by decide +kernel

/-! ### Modems -/

/-- An open receiver in direct mode, its modem's frame in state `st`. -/
def rxState (r : Radio) (st : Nat) (l : List (Fld × Nat)) : State :=
  live ([(R.FE_STAT_STATE r, 4), (R.FE_CTRL_DIRECT r, 1), (L.MF_ST r, st), (inForce r (R.MDM_PD_RSSI_MIN r), 0x80)] ++ l)
theorem witness_reception : Calm (rxState .cirrus 0 []) ∧ (rxState .cirrus 0 []).rst .cirrus = 4 ∧
    (rxState .cirrus 0 []).on (R.FE_CTRL_DIRECT .cirrus) = true ∧ (rxState .cirrus 0 []).rd (L.RX_ST .cirrus) = 0 ∧
    (rxState .cirrus 0 []).rd (L.P_OP .cirrus) = 0 ∧ (rxState .cirrus 0 []).rd (L.RA_EV .cirrus) = 0 ∧ (rxState .cirrus 0 []).running = [] := by
  decide +kernel
theorem witness_detect : (rxState .cirrus 0 []).rxOpen .cirrus = true ∧
    (rxState .cirrus 0 []).ap .cirrus (R.MDM_PD_THRESH .cirrus) ≤ (0xFF#8 : BitVec 8).toNat ∧
    (rxState .cirrus 0 []).ap .cirrus (R.MDM_PD_RSSI_MIN .cirrus) = 0x80 ∧
    (0#8 : BitVec 8).toNat < (rxState .cirrus 0 [(inForce .cirrus (R.MDM_PD_THRESH .cirrus), 9)]).ap .cirrus (R.MDM_PD_THRESH .cirrus) := by
  decide +kernel
theorem witness_frame_states : (rxState .stratus 1 []).rd (L.MF_ST .stratus) = 1 ∧ (rxState .stratus 1 []).rd (L.RX_CLOSE .stratus) = 0 ∧
    (rxState .stratus 2 []).rd (L.MF_ST .stratus) = 2 ∧ (rxState .stratus 2 []).rd (L.LAST_LATCH .stratus) = 0 ∧
    (rxState .stratus 2 [(inForce .stratus (R.MDM_RXLEN_MAX .stratus), 2047)]).phrRefusal .stratus 20 false false = 0 ∧
    (rxState .stratus 2 []).phrRefusal .stratus 20 true false ≠ 0 ∧
    (rxState .stratus 3 []).rd (L.MF_ST .stratus) = 3 ∧
    (rxState .stratus 3 []).rd (L.MF_TS .stratus) < 2 ^ 64 ∧ (rxState .stratus 3 []).rd (L.MF_LEN .stratus) < 2 ^ 11 := by decide +kernel
theorem witness_agc_eq_cca : (rxState .cirrus 1 []).ap .cirrus (R.MDM_AGC_FORCE .cirrus) ≠ 1 ∧
    (rxState .cirrus 1 [(R.MDM_STAT_FROZEN .cirrus, 1)]).rd (R.MDM_STAT_FROZEN .cirrus) = 1 ∧
    (rxState .cirrus 1 []).rd (R.MDM_STAT_FROZEN .cirrus) = 0 ∧
    (rxState .stratus 1 [(inForce .stratus (R.MDM_EQ_MODE .stratus), 2), (inForce .stratus (R.MDM_MODE_PHY .stratus), 4)]).eqUsed .stratus = true ∧
    (rxState .stratus 0 [(L.CCA_ON .stratus, 1)]).on (L.CCA_ON .stratus) = true ∧
    (rxState .stratus 0 []).rd (L.CCA_PD .stratus) = 0 := by decide +kernel
/-- Symbols of confidence 1, each decided as given. -/
def smps (l : List Bool) : List Sample := l.map fun b => if b then 1#16 else 0xFFFF#16
theorem witness_sync :
    let s := rxState .cirrus 1 [(inForce .cirrus (R.MDM_SYNC_AA .cirrus), 0x8E89BED6), (inForce .cirrus (R.MDM_SYNC_CFG_ERR_MAX .cirrus), 0)]
    s.ap .cirrus (R.MDM_MODE_PHY .cirrus) ≤ 1 ∧
      (s.syncHit .cirrus (s.symbols .cirrus (smps (lsbBits 32 0x8E89BED6))).1).isSome = true ∧
      bitErrs ((smps (lsbBits 32 0x8E89BED6)).map fun x => decide (0 < x.toInt)) (lsbBits 32 (s.ap .cirrus (R.MDM_SYNC_AA .cirrus))) ≤
        s.ap .cirrus (R.MDM_SYNC_CFG_ERR_MAX .cirrus) := by decide +kernel
/-- An unwhitened LE frame of three payload octets, and its symbols. -/
def leState (st : Nat) (l : List (Fld × Nat)) : State :=
  rxState .cirrus st ([(inForce .cirrus (R.MDM_WHITE_EN .cirrus), 0), (inForce .cirrus (R.MDM_RXLEN_MAX .cirrus), 255)] ++ l)
theorem witness_header :
    let s := leState 2 []
    let u := s.addSym .cirrus (smps (octetBits [0x42#8, 0x03#8]))
    let h := u.headerOf .cirrus (u.decode .cirrus (u.rxCoded .cirrus) (u.rxSym .cirrus) false).1
    u.headerNeed .cirrus (u.rxCoded .cirrus) (u.rxSym .cirrus) ≤ (u.rxSym .cirrus).length ∧ h.len = 3 ∧
      s.phrRefusal .cirrus h.len h.ms h.short = 0 ∧
      ((s.wr (inForce .cirrus (R.MDM_RXLEN_MAX .cirrus)) 2).phrRefusal .cirrus h.len h.ms h.short ≠ 0) ∧
      ((s.addSym .cirrus []).rxSym .cirrus).length < (s.addSym .cirrus []).headerNeed .cirrus false [] := by decide +kernel
theorem witness_report :
    let s := leState 3 [(L.MF_LEN .cirrus, 3)]
    let l : List Byte := [0x42#8, 0x03#8, 1#8, 2#8, 3#8]
    let u := s.addSym .cirrus (smps (s.airBody .cirrus l))
    let f := u.frameOctets .cirrus false 3 (u.decode .cirrus (u.rxCoded .cirrus) (u.rxSym .cirrus) true).1
    u.frameNeed .cirrus (u.rxCoded .cirrus) false 3 false ≤ (u.rxSym .cirrus).length ∧ f = (l, true) ∧
      ((s.addSym .cirrus (smps (s.airBody .cirrus l ++ [true]))).frameOctets .cirrus false 3
        (List.replicate 64 false)).2 = false ∧ s.rd (L.RX_PUT .cirrus) = 0 ∧ s.ff (L.RXQ .cirrus) = [] := by decide +kernel
/-- The whitening of channel 37 and PN9's first bits, as the two standards print them; R272's check value of the LE use. -/
theorem test_whitening : bitsOctets (leWhite 32 (leSeed 37)) = [0x8D#8, 0xD2#8, 0x57#8, 0xA1#8] := by decide +kernel
theorem test_pn9 : (pn9 16).map b2n = [0, 0, 0, 0, 1, 1, 1, 1, 0, 1, 1, 1, 0, 0, 0, 0] := by decide +kernel
theorem test_le_crc : crc24 0x555555 [0x31#8, 0x32#8, 0x33#8, 0x34#8, 0x35#8, 0x36#8, 0x37#8, 0x38#8, 0x39#8] = leBytes 3 0xC25A56 := by
  decide +kernel
theorem test_code_roundtrip :
    viterbi false (pairUp ((unpair (codeRun false 0 [true, false, true, true, false, false, false]).1).map fun b => if b then 3 else -3)) true =
      [true, false, true, true, false, false, false] := by decide +kernel

theorem witness_fifos : Taken (live []) .link (R.MDM_TXFIFO .cirrus) ∧ (live []).rst .cirrus ≠ 6 ∧ ((live []).ff (L.TXQ .cirrus)).length ≤ 60 ∧
    60 < (((live []).setFf (L.TXQ .cirrus) (List.replicate 64 0)).ff (L.TXQ .cirrus)).length ∧
    Taken ((live []).setFf (L.RXQ .cirrus) [1, 2, 3, 4, 5, 6, 7, 8]) .link (R.MDM_RXFIFO .cirrus) ∧
    ((live []).setFf (L.RXQ .cirrus) [1, 2, 3, 4, 5, 6, 7, 8]).ff (L.RXQ .cirrus) = 1 :: 2 :: 3 :: 4 :: [5, 6, 7, 8] ∧
    Taken (live []) .link (R.MDM_FIFO_CFG_FLUSH .cirrus) := by decide +kernel
theorem witness_last_stat : Taken (live []) .link (R.MDM_LAST_STAT_RESULT .stratus) ∧ (live []).rd (R.MDM_LAST_STAT_HELD .stratus) = 0 ∧
    (∀ f ∈ lastAll .stratus, (live []).rd f < 2 ^ f.wid) ∧
    (live [(R.MDM_LAST_STAT_HELD .stratus, 1)]).rd (R.MDM_LAST_STAT_HELD .stratus) = 1 := by decide +kernel
theorem witness_underrun :
    let s := live [(R.FE_STAT_STATE .cirrus, 6), (R.FE_CTRL_DIRECT .cirrus, 1), (L.TX_LEFT .cirrus, 5)]
    s.rst .cirrus = 6 ∧ s.on (R.FE_CTRL_DIRECT .cirrus) = true ∧ s.ap .cirrus (R.MDM_MODE_TEST .cirrus) = 0 ∧ s.rd (L.TX_LEFT .cirrus) ≠ 0 := by
  decide +kernel
theorem test_rxfifo_order : (after (exec (.rxfifoRead .link .cirrus) ((live []).setFf (L.RXQ .cirrus) [1, 2, 3, 4, 5]))).resp = .data 0x04030201 := by
  decide +kernel

/-! ### The lockstep pair -/

theorem witness_lockstep :
    let s := live [(R.LINK_STAT_CORES, 1), (R.LINK_LS_CNT_RECENT, 1), (L.RX_ST .cirrus, 2)]
    Calm s ∧ s.rd R.LINK_STAT_CORES = 1 ∧ s.online 10 = true ∧ s.rd R.LINK_LS_CNT_RECENT < 2 ∧ s.on (L.RX_ST .cirrus) = true := by
  decide +kernel
theorem witness_lockstep_third :
    let s := live [(R.LINK_STAT_CORES, 1), (R.LINK_LS_CNT_RECENT, 2)]
    Calm s ∧ s.rd R.LINK_STAT_CORES = 1 ∧ s.online 10 = true ∧ 2 ≤ s.rd R.LINK_LS_CNT_RECENT ∧ s.rd R.LINK_LS_CNT_RECENT < 16 := by decide +kernel
theorem witness_lockstep_restart :
    let s := live [(R.LINK_STAT_CORES, 2)]
    Calm s ∧ s.rd R.LINK_STAT_CORES = 2 ∧ s.rd R.SYSCTL_PWR_STAT_LISTEN = 0 ∧ s.evqUsed < 64 := by decide +kernel
theorem witness_lockstep_release :
    let s := live [(R.LINK_STAT_CORES, 3)]
    Taken s .link R.LINK_CMD_LS_RELEASE ∧ s.rd R.LINK_STAT_CORES = 3 ∧ (live []).rd R.LINK_STAT_CORES ≠ 3 := by decide +kernel

/-! ### Frames and verdicts -/

/-- Context k's first bytes: type, state, flags. -/
def ctxState3 (s : State) (k typ st flags : Nat) : State := ((s.ctxWr k 0 1 typ).ctxWr k 1 1 st).ctxWr k 2 1 flags

/-- A frame between its sync instant and its verdict on Cirrus, from the short address 0x1234 in network 0xABCD. -/
def framing : State := ctxState3 ((live [(L.RX_ST .cirrus, 2), (R.CTX_PART_CIRRUS_N, 128)]).ctxWr 9 0x0C 4 0x1234ABCD) 9 5 2 2

def fromShort : FrameAddr := { group := false, pan := 0xABCD#16, srcShort := some 0x1234#16, srcExt := none, dstShort := none, access := 0#32, ctr := 0x11#32, got := 9#11 }

theorem witness_identify_none : Calm (live [(L.RX_ST .cirrus, 2)]) ∧ (live [(L.RX_ST .cirrus, 2)]).on (L.RX_ST .cirrus) = true ∧
    (live [(L.RX_ST .cirrus, 2)]).on (L.RX_IDED .cirrus) = false ∧ (live []).identify .cirrus false 256 fromShort = none ∧
    (live [(L.RX_ST .cirrus, 2)]).ackContext .cirrus fromShort = none := by decide +kernel
theorem witness_identify : Calm framing ∧ framing.on (L.RX_ST .cirrus) = true ∧ framing.on (L.RX_IDED .cirrus) = false ∧
    framing.rxEvent .cirrus = none ∧ framing.identify .cirrus false 256 fromShort = some 9 ∧ framing.ctxFlag 9 1 = true ∧
    (ctxState3 framing 9 5 2 0).ctxFlag 9 1 = false := by decide +kernel
/-- R154: 0xFFFE in LINK_ID names no short address. -/
theorem test_no_short : (framing.ctxWr 9 0x0C 4 0xFFFEABCD).identify .cirrus false 256 { fromShort with srcShort := some 0xFFFE#16 } = none := by
  decide +kernel

/-- An event that transmits a frame of 16 octets in buffer 7 from context 9. -/
def sender : Armed :=
  { handle := 1, ctx := 9, kind := 2, sleepOk := false, cls := 0, chan := 11, freqKhz := 2405000, start := 0, guard := 0,
    txLen := 16, buf := 7, maxDur := 0, fest := 0 }

/-- A context of a type with SEC and a root slot that is active, and the event that transmits from it. -/
def sealing (typ ctr : Nat) : State :=
  { (ctxState3 (live [(R.CIPHER_STAT_READY, 1), (R.KEYS_SLOT_STATE 0, 1), (R.KEYS_SLOT_POLICY 0, 1), (R.KEYS_FP_SLOTS_LINK, 1),
      (L.DESC 7, mkDesc 0 1 16 3 0)]) 9 typ 2 2 |>.ctxWr 9 0x38 5 ctr |>.ctxWr 9 0x31 1 5) with armed := [sender] }

theorem witness_encrypt :
    let s := sealing 5 1
    Calm s ∧ ((s.armed ++ s.running).find? fun e => e.handle == (1#4 : BitVec 4).toNat && (txKind e.kind || e.kind == 5)) = some sender ∧
      s.on L.LANE_RST = false ∧ s.online 13 = true ∧ s.on R.CIPHER_STAT_READY = true ∧ s.ctxFlag 9 1 = true ∧ s.on (L.ENC 7) = false ∧
      s.ctxRd 9 0x38 5 < ctrLimit (s.ctxType 9) ∧ s.linkKeyOk 9 = true ∧ s.evqUsed < 64 := by decide +kernel
theorem witness_encrypt_limit : ctrLimit ((sealing 5 0xFFFFFFFF).ctxType 9) ≤ (sealing 5 0xFFFFFFFF).ctxRd 9 0x38 5 := by decide +kernel
theorem witness_encrypt_group :
    let s := sealing 4 0
    s.ctxType 9 = 4 ∧ s.ctxRd 9 0x38 5 ≤ s.asn 0 % 2 ^ 32 ∧ s.linkKeyOk 9 = true := by decide +kernel
theorem witness_encrypt_open : (ctxState3 (sealing 5 1) 9 5 2 0).ctxFlag 9 1 = false ∧ ((sealing 5 1).wr (L.ENC 7) 1).on (L.ENC 7) = true := by
  decide +kernel

theorem witness_verdict :
    let s := framing.wrs [(L.RX_ST .cirrus, 3), (L.RX_IDED .cirrus, 1), (L.RX_CTX .cirrus, 10), (L.RX_CRC .cirrus, 1)]
    Calm s ∧ s.rd (L.RX_ST .cirrus) = 3 ∧ s.rd R.LINK_VLAT_MAX < 2 ^ 8 ∧ s.rd (L.RX_KEYST .cirrus) ≠ 1 ∧ s.rd L.SNAP_WAIT = 0 ∧ s.rd (L.CTX_BAD 9) = 0 ∧ s.rd (L.RX_EV .cirrus) = 0 ∧
      51 < (60#8 : BitVec 8).toNat := by decide +kernel
theorem witness_judge :
    framing.ctxState 9 = 2 ∧ framing.ctxFaulted 9 = false ∧ framing.on (L.RX_FAULT .cirrus) = false ∧ framing.rd (L.RX_KEYST .cirrus) ≠ 3 ∧
      (framing.wr (L.RX_KEYST .cirrus) 3).rd (L.RX_KEYST .cirrus) = 3 ∧ framing.ctxType 9 ≠ 2 ∧ framing.on (L.RX_CRC .cirrus) = false ∧
      (framing.wr (L.RX_CRC .cirrus) 1).on (L.RX_CRC .cirrus) = true ∧ (ctxState3 framing 9 5 2 0).ctxFlag 9 1 = false ∧
      framing.ctxState 10 ≠ 2 := by decide +kernel
/-- R195: a counter seen 3 above the newest, one 3 below it, twice, and one 64 below. -/
theorem test_replay : replayRule true 10 1 13 = some (13, 9) ∧ replayRule true 13 9 12 = some (13, 11) ∧
    replayRule true 13 9 10 = none ∧ replayRule true 100 1 36 = none := by decide +kernel

/-! ### Contexts -/

/-- Partitions of 128 contexts each and caps of 4 for every type. -/
def shared : State :=
  live [(R.CTX_PART_CIRRUS_N, 128), (R.CTX_PART_STRATUS_N, 128), (R.CTX_CAP_0_LE_ADV_MAX, 4), (R.CTX_CAP_0_LE_CONN_MAX, 4),
    (R.CTX_CAP_1_MESH_NBR_MAX, 4), (R.CTX_CAP_2_MESH_GRP_MAX, 4), (R.CTX_CAP_1_OQPSK_MAX, 0)]

theorem witness_alloc : Calm shared ∧ Taken shared .link R.CTX_ALLOC_CMD_TYPE ∧ shared.typeUse 3 < shared.typeCap 3 ∧
    (shared.inPart (typeRadio 3) 128 = true ∧ shared.ctxState 128 = 0 ∧ shared.rd L.FREEING ≠ 129) ∧
    (∀ j < 128, ¬ (shared.inPart (typeRadio 3) j = true ∧ shared.ctxState j = 0 ∧ shared.rd L.FREEING ≠ j + 1)) := by decide +kernel
theorem witness_alloc_cap : shared.typeCap 5 ≤ shared.typeUse 5 ∧ Taken shared .app R.CTX_ALLOC_CMD_TYPE := by decide +kernel
theorem witness_alloc_full : let s := shared.wr R.CTX_PART_STRATUS_N 0
    Calm s ∧ s.typeUse 3 < s.typeCap 3 ∧ ∀ k < 256, ¬ (s.inPart (typeRadio 3) k = true ∧ s.ctxState k = 0 ∧ s.rd L.FREEING ≠ k + 1) := by
  decide +kernel
theorem witness_free : Taken shared .link R.CTX_FREE_CMD_GO ∧ shared.on R.CTX_FREE_STAT_BUSY = false ∧
    (shared.wr R.CTX_FREE_STAT_BUSY 1).on R.CTX_FREE_STAT_BUSY = true := by decide +kernel
theorem witness_free_done :
    let s := shared.wrs [(R.CTX_FREE_STAT_BUSY, 1), (L.FREEING, 256)]
    Calm s ∧ s.on R.CTX_FREE_STAT_BUSY = true ∧ s.rd L.FREEING = 255 + 1 ∧ s.rd (L.RX_CTX .cirrus) ≠ 256 ∧ s.rd (L.RX_CTX .stratus) ≠ 256 ∧
      (s.wr (L.RX_CTX .stratus) 256).rd (L.RX_CTX .stratus) = 256 := by decide +kernel
theorem witness_ctx_store :
    let s := ctxState3 shared 5 2 2 0
    Calm s ∧ regionOf (0x201602B8#32 : BitVec 32).toNat = .ctxWin ∧ (0x201602B8#32 : BitVec 32).toNat % 4 = 0 ∧ s.domOn (regionDom .ctxWin) = true ∧
      s.islOn (regionIsl .ctxWin) = true ∧ Safety.Open s .link 0x201602B8 (regionIsl .ctxWin) ∧ s.ctxState ((0x201602B8 - 0x20160000) / 128) ≠ 0 ∧ shared.ctxState 5 = 0 ∧ s.armed = [] ∧ s.running = [] := by
  decide +kernel
theorem witness_ctx_snap : Taken shared .app R.CTX_SNAP_CMD_GO ∧ shared.rd (L.RX_ST .cirrus) ≠ 3 ∧ shared.rd (L.RX_ST .stratus) ≠ 3 ∧ shared.rd (L.CTX_BAD 5) = 0 ∧
    shared.rd (L.CTX_BAD (shared.rd L.SCRUB)) = 0 ∧ (shared.wrs [(L.RX_ST .cirrus, 3), (L.RX_CTX .cirrus, 6)]).rd (L.RX_ST .cirrus) = 3 ∧ shared.running = [] ∧ (shared.wr R.CTX_CTRL_SCRUB_INT 5).rd R.CTX_CTRL_SCRUB_INT ≠ 0 ∧
    (shared.wr R.CTX_CTRL_SCRUB_INT 5).online 11 = true ∧ (shared.wr R.CTX_CTRL_SCRUB_INT 0).rd R.CTX_CTRL_SCRUB_INT = 0 := by decide +kernel
/-- R160: TX_CTR of an ACTIVE context is not written. -/
theorem test_ctx_store_hw :
    ((after (exec (.ctxWindowStore .link 0x201602B8#32 .word 0xFFFFFFFF#32) (ctxState3 shared 5 2 2 0))).ctxRd 5 0x38 4) = 0 := by decide +kernel

/-! ### The event queue and the mailboxes -/

def queued (n lost : Nat) : State := { live [(L.EVQ_LOST, lost), (R.LINK_MC_POST_0, 0x80)] with evq := List.replicate n ⟨6, 0, 0, 0⟩ }

theorem witness_queue : Calm (queued 1 0) ∧ TakenAll (queued 1 0) .link [R.LINK_EVQ_CMD_POP, R.LINK_APPCMD_GO, R.LINK_APPCMD_DONE_RESULT, R.LINK_MC_POST_GO, R.LINK_VLAT_CLEAR] ∧ (queued 1 0).evq = ⟨6, 0, 0, 0⟩ :: [] ∧
    (queued 1 0).rd L.EVQ_LOST = 0 ∧ 0x80 ≤ (queued 1 0).rd R.LINK_MC_POST_0 % 256 ∧ (queued 1 0).evqUsed < 64 ∧
    (queued 1 0).rd R.SYSCTL_PWR_STAT_LISTEN = 0 ∧ (queued 0 0).evq = [] ∧ TakenAll (queued 1 0) .app [R.LINK_EVQ_CMD_POP, R.LINK_APPCMD_GO, R.LINK_APPCMD_DONE_RESULT, R.LINK_MC_POST_GO, R.LINK_VLAT_CLEAR] := by decide +kernel
theorem witness_queue_full : let s := queued 64 3
    Calm s ∧ TakenAll s .link [R.LINK_EVQ_CMD_POP, R.LINK_APPCMD_GO, R.LINK_APPCMD_DONE_RESULT, R.LINK_MC_POST_GO, R.LINK_VLAT_CLEAR] ∧ 64 ≤ s.evqUsed ∧ s.rd L.EVQ_LOST ≠ 0 ∧ s.evq.tail.length + s.rd L.EVQ_RSV < 64 := by decide +kernel
theorem test_lost_told : ((after (exec (.evqPop .app) (queued 64 3))).evq.getLast?.map EvqEntry.typ) = some 9 := by decide +kernel

/-! ### Microcode banks -/

/-- A 64-octet image in bank 0 with the header of R176 and its CRC. -/
def banked (l : List (Fld × Nat)) : State :=
  let hdr (c : Nat) := leBytes 4 0x42434D4C ++ leBytes 2 1 ++ leBytes 2 1 ++ leBytes 4 7 ++ leBytes 4 64 ++ leBytes 4 c ++ leBytes 4 0x20 ++ zeros 40
  (live l).wrBs 0x20140000 (hdr (crc32c (hdr 0)))

theorem witness_mc_swap : let s := live []
    Calm s ∧ s.rd L.MC_TGT < 2 ∧ Taken s .link R.LINK_MC_CMD_SWAP ∧ s.mcBusy = false ∧ (live [(R.LINK_STAT_CHECKING, 1)]).mcBusy = true := by
  decide +kernel
theorem witness_mc_check : let s := banked [(R.LINK_STAT_CHECKING, 1)]
    Calm s ∧ s.on R.LINK_STAT_CHECKING = true ∧ s.mcCheck (s.rd L.MC_TGT) = 1 ∧ s.rd R.LINK_MC_STAT_ACTIVE = 0 ∧ s.evqUsed < 64 := by decide +kernel
theorem witness_mc_check_active : let s := (banked [(R.LINK_STAT_CHECKING, 1), (R.LINK_MC_STAT_ACTIVE, 2)]).wrLe 0x20150018 2 0
    s.mcCheck (s.rd L.MC_TGT) = 1 ∧ s.rd R.LINK_MC_STAT_ACTIVE ≠ 0 := by decide +kernel
theorem witness_mc_check_bad : let s := (banked [(R.LINK_STAT_CHECKING, 1)]).wrB 0x20140000 0#8
    s.on R.LINK_STAT_CHECKING = true ∧ s.mcCheck (s.rd L.MC_TGT) ≠ 1 := by decide +kernel
theorem witness_mc_yield : let s := live [(R.LINK_STAT_YIELD_REQ, 1)]
    Taken s .link R.LINK_MC_YIELD ∧ s.on R.LINK_STAT_YIELD_REQ = true ∧ (live []).on R.LINK_STAT_YIELD_REQ = false := by decide +kernel

/-! ### Arming and cancelling -/

/-- Context 9 an active O-QPSK peer, and ARM registers that describe a window or a transmission on channel 11. -/
def arming (kind : Nat) : State :=
  ctxState3 ((live [(R.LINK_MC_STAT_ACTIVE, 1), (R.MAC_ARM_0, 9 + kind * 256 + 11 * 2 ^ 24), (R.MAC_ARM_2, 1), (R.MAC_ARM_3, 16 * 65536), (R.MAC_ARM_4, 7)]).ctxWr 9 3 1 4) 9 5 2 0

theorem witness_arm : let s := arming 2
    Calm s ∧ s.rd R.LINK_MC_STAT_ACTIVE ≠ 0 ∧ (live []).rd R.LINK_MC_STAT_ACTIVE = 0 ∧ Taken s .link R.MAC_ARM_GO ∧ Taken s .app R.MAC_ARM_GO ∧ s.ctxLive 9 = true ∧ s.rd R.MAC_ARM_0 % 256 = 9 ∧
      kindOk (bits (s.rd R.MAC_ARM_0) 11 8) (s.ctxType 9) = true ∧ s.chanKhz 9 (bits (s.rd R.MAC_ARM_0) 31 24) = some 2405000 ∧
      s.armed ++ s.running = [] ∧ ¬ (s.armEvent 9 2405000).fest < s.lt + s.leadUs .cirrus true * 256 := by decide +kernel
theorem witness_arm_late : let s := (arming 2).wr R.MAC_ARM_2 0
    s.ctxLive 9 = true ∧ (s.armEvent 9 2405000).fest < s.lt + s.leadUs .cirrus true * 256 := by decide +kernel
theorem witness_arm_refusals : (live []).ctxLive 0 = false ∧ kindOk 5 ((arming 5).ctxType 9) = false ∧ (arming 2).chanKhz 9 27 = none ∧
    (∀ p < 8, ((List.range 8).map fun i => { sender with handle := i }).any (fun x => x.handle == 8 * Radio.cirrus.idx + p) = true) := by decide +kernel
theorem witness_cancel : let s := sealing 5 1
    Calm s ∧ Taken s .link R.MAC_CANCEL_GO ∧ s.armed.find? (fun x => x.handle == (1#4 : BitVec 4).toNat) = some sender ∧ txKind sender.kind = true ∧
      s.evqUsed < 64 ∧ (∀ x ∈ s.armed ++ s.running, x.handle ≠ (2#4 : BitVec 4).toNat) := by decide +kernel
theorem witness_cancel_running :
    let e := { sender with kind := 1, phase := 3 }
    let s := { live [] with running := [e] }
    Calm s ∧ Taken s .link R.MAC_CANCEL_GO ∧ s.armed.find? (fun x => x.handle == (1#4 : BitVec 4).toNat) = none ∧
      s.running.find? (fun x => x.handle == (1#4 : BitVec 4).toNat) = some e ∧ e.phase ≠ 1 ∧ txKind e.kind = false := by decide +kernel

/-! ### Events that start -/

/-- Cirrus idle, and an event of a kind armed on it under handle 1 from context 9 of a type with given flags. -/
def starting (kind typ flags : Nat) (l : List (Fld × Nat)) : State :=
  { ctxState3 (live ([(R.FE_STAT_STATE .cirrus, 1)] ++ l)) 9 typ 2 flags with armed := [{ sender with kind := kind, fest := 5000, start := 9000 }] }

def freeRadio (s : State) : Bool :=
  s.rst .cirrus == 1 && s.rd (L.RA_TGT .cirrus) == 0 && s.rd (L.P_OP .cirrus) == 0 && s.rd (L.RA_EV .cirrus) == 0 &&
    s.rd (R.FE_CTRL_DIRECT .cirrus) == 0 && s.rd (L.ACK_BUF .cirrus) == 0 && s.running.isEmpty && s.rd (R.FE_STAT_TX_INHIBIT .cirrus) == 0

theorem witness_starts : ∀ kind ∈ [1, 2, 3, 4, 5, 6, 7, 8, 9], let s := starting kind 5 0 []
    Calm s ∧ freeRadio s = true ∧ (s.armed.find? fun x => x.handle == (1#4 : BitVec 4).toNat && [kind].contains x.kind).isSome = true ∧
      s.ctxRd 9 0x38 5 < ctrLimit (s.ctxType 9) ∧ s.ctxFlag 9 1 = false ∧ s.dutyBand 9 2405000 = none ∧ s.evqUsed < 64 := by decide +kernel
theorem witness_starts_secured : let s := starting 8 4 2 [(L.ENC 7, 1)]
    s.on (L.ENC 7) = true ∧ s.ctxRd 9 0x38 5 < ctrLimit (s.ctxType 9) := by decide +kernel
theorem witness_starts_halted : let s := starting 1 5 0 [(R.FE_STAT_STATE .cirrus, 8)]
    s.rst .cirrus = 8 ∧ txKind 1 = false ∧ txKind 2 = true ∧ s.armed.isEmpty = false := by decide +kernel
theorem witness_starts_direct : let s := starting 2 5 0 [(R.FE_CTRL_DIRECT .cirrus, 1)]
    s.on (R.FE_CTRL_DIRECT .cirrus) = true ∧ s.rst .cirrus ≠ 8 ∧ s.evqUsed < 64 := by decide +kernel
/-- A band of 863 to 870 MHz that the frame's frequency does not lie in, and one that covers it. -/
theorem witness_starts_band :
    let s := starting 2 5 0 [(R.MAC_DUTY_BAND_LO_KHZ 1, 2400000), (R.MAC_DUTY_BAND_HI_HI_KHZ 1, 2480000), (R.MAC_DUTY_BUDGET 1, 100000),
      (R.MAC_DUTY_WINDOW_FULL 1, 1), (R.MAC_DUTY_WINDOW_S 1, 1)]
    s.dutyBand 9 2405000 = some 1 ∧ (1000 : Int) ≤ s.dutyAvail 1 := by decide +kernel
theorem witness_starts_conn : let s := starting 5 2 4 []
    s.ctxFlag 9 2 = true ∧ (starting 5 2 0 []).ctxFlag 9 2 = false ∧ s.dutyBand 9 (leKhz (s.leChan 9).1) = none := by decide +kernel
theorem witness_starts_adv : let s := (starting 6 1 0 []).ctxWr 9 0x60 5 (2 ^ 38)
    bit (s.ctxRd 9 0x60 5) 38 = true ∧ bit (s.ctxRd 9 0x60 5) 37 = false ∧ s.dutyBand 9 (leKhz 38) = none := by decide +kernel
/-- R192: a TX event on a radio that holds an acknowledgement ends with LATE_DROP (8). -/
theorem test_start_dropped :
    ((after (exec (.macTx 1#4) (starting 2 5 0 [(L.ACK_BUF .cirrus, 1)]))).evq.map fun e => e.w3 / 2 ^ 24) = [8] := by decide +kernel

/-! ### Windows and budgets -/

/-- Cirrus receives, and an event of a kind runs on it in a phase. -/
def waiting (kind phase : Nat) (l : List (Fld × Nat)) : State :=
  { live ([(R.FE_STAT_STATE .cirrus, 4)] ++ l) with running := [{ sender with kind := kind, phase := phase }] }

theorem witness_waits : ∀ kind ∈ [1, 3, 4, 5, 7], ∀ phase ∈ [1, 2, 3], let s := waiting kind phase []
    Calm s ∧ s.runOn .cirrus = some { sender with kind := kind, phase := phase } ∧ s.runOn .stratus = none ∧ s.rst .cirrus = 4 ∧
      s.ap .cirrus (R.FE_AUTO_RX_END .cirrus) = 0 ∧ s.on (L.RX_ST .cirrus) = false ∧ s.on (R.MDM_STAT_IN_FRAME .cirrus) = false ∧ s.evqUsed < 64 := by
  decide +kernel
theorem witness_window_frame : let s := waiting 1 3 [(R.MDM_STAT_IN_FRAME .cirrus, 1)]
    s.on (R.MDM_STAT_IN_FRAME .cirrus) = true ∧ (waiting 1 3 [(L.RX_ST .cirrus, 1)]).on (L.RX_ST .cirrus) = true := by decide +kernel
theorem witness_window_wait : ∀ kind ∈ [3, 7], let s := waiting kind 2 [(R.MDM_STAT_IN_FRAME .cirrus, 1)]
    s.on (L.RX_ST .cirrus) = false ∧ s.on (R.MDM_STAT_IN_FRAME .cirrus) = true ∧ s.rst .cirrus = 4 := by decide +kernel
theorem witness_fleet : let s := live [(L.FT_LO, 0xFFFFFFFF)]
    Taken s .link R.MAC_FT_OFS_HI ∧ s.rd L.FT_LO < 2 ^ 32 ∧ Taken s .app R.MAC_FT_OFS_HI := by decide +kernel
theorem witness_duty_window : let s := live [(R.MAC_DUTY_WINDOW_S 0, 1), (L.LT, 256000000)]
    s.rd (L.DUTY_T0 0) + s.rd (R.MAC_DUTY_WINDOW_S 0) * 256000000 ≤ s.lt ∧
      (s.wr L.LT 255999984).lt < s.rd (L.DUTY_T0 0) + s.rd (R.MAC_DUTY_WINDOW_S 0) * 256000000 := by decide +kernel

/-! ### The key store -/

theorem witness_key_load : let s := live [(R.KEYS_REVOKE_PEND, 4)]
    Calm s ∧ (∀ k < 16, s.rd (L.OTP_STATE k) < 4) ∧ s.rd L.PROG_POLICY < 32 ∧ s.domOn 7 = true ∧ s.islOn 4 = true ∧
      s.on R.CIPHER_STAT_READY = false ∧ s.on L.LANE_RST = false ∧ (0x8001#16 : BitVec 16).getLsbD 15 = true ∧
      (s.wr L.LANE_RST 1).on L.LANE_RST = true ∧ (s.wr R.CIPHER_STAT_READY 1).on R.CIPHER_STAT_READY = true := by decide +kernel
theorem witness_key_frame :
    let s := (sealing 5 1).wrs [(L.RX_KEYST .cirrus, 1), (L.RX_CTX .cirrus, 10), (L.RX_KCTX .cirrus, 10), (R.CIPHER_STAT_READY, 1)]
    Calm s ∧ s.rd (L.RX_KEYST .cirrus) = 1 ∧ s.on R.CIPHER_STAT_READY = true ∧ s.linkKeyOk (s.rd (L.RX_KCTX .cirrus) - 1) = true ∧ s.rd (L.RX_CTX .cirrus) = s.rd (L.RX_KCTX .cirrus) ∧
      (s.wr (R.KEYS_SLOT_STATE 0) 2).linkKeyOk 9 = false ∧ s.rd R.CIPHER_LANE_CONSEC + 1 < s.rd R.CIPHER_LANE_CFG_PERSIST ∧
      s.rd R.CIPHER_LANE_CONSEC < 31 := by decide +kernel
theorem witness_key_job : let s := live [(L.JOB_ST 4, 1), (R.CIPHER_STAT_READY, 1), (R.CIPHER_Q_CUR 4, 0x20100000)]
    Calm s ∧ s.rd (L.JOB_ST 4) = 1 ∧ s.slotAllowed (dscSlot (s.dscAt (s.rd (R.CIPHER_Q_CUR 4)))) (chanUser 4) = false ∧
      (s.wrs [(R.KEYS_SLOT_STATE 0, 1), (R.KEYS_SLOT_POLICY 0, 1), (R.KEYS_FP_SLOTS_LINK, 1)]).slotAllowed
        (dscSlot (s.dscAt (s.rd (R.CIPHER_Q_CUR 4)))) (chanUser 4) = true := by decide +kernel
theorem witness_key_sequence : let s := live [(L.KEYSEQ, 2), (R.KEYS_SLOT_STATE 3, 1)]
    Calm s ∧ TakenAll s .app [R.KEYS_KEYSEQ, R.KEYS_PROG_CFG_GO, R.KEYS_REVOKE_GO] ∧ s.rd L.KEYSEQ = 2 ∧ s.on R.KEYS_PROG_STAT_BUSY = false ∧ s.on R.KEYS_REVOKE_STAT_BUSY = false ∧
      s.rd R.FLASHC_RDP_LEVEL = 0 ∧ s.rd (R.KEYS_SLOT_STATE 15) = 0 ∧ s.rd (R.KEYS_SLOT_STATE 3) = 1 ∧ s.rd R.CIPHER_STAT_CH_RUN = 0 ∧
      (live []).rd L.KEYSEQ ≠ 2 ∧ (0x1234#16 : BitVec 16) ≠ 0x0D6E#16 ∧ (0x1234#16 : BitVec 16) ≠ 0x0B71#16 := by decide +kernel
theorem witness_key_program : let s := live [(R.KEYS_PROG_STAT_BUSY, 1), (R.KEYS_REVOKE_STAT_BUSY, 1), (R.KEYS_REVOKE_PEND, 1)]
    s.on R.KEYS_PROG_STAT_BUSY = true ∧ s.on R.SYSCTL_SUPPLY_STAT_WARN = false ∧ s.rd L.PROG_SLOT < 16 ∧
      s.on R.KEYS_REVOKE_STAT_BUSY = true ∧ s.rd L.REV_SLOT < 16 ∧ (∀ j < 16, j ≠ s.rd L.REV_SLOT → bit (s.rd R.KEYS_REVOKE_PEND) j = false) := by
  decide +kernel

/-! ### Cipher jobs -/

/-- Channel 0 with an ECB descriptor in SRAM that encrypts 16 octets at 0x20000100 to 0x20000200 with the software key. -/
def jobbing (l : List (Fld × Nat)) : State :=
  (live (l ++ [(R.CIPHER_Q_DESC 0, 0x20000000), (R.CIPHER_Q_CUR 0, 0x20000000), (R.CIPHER_LOCK_OWNER, 1)])).wrBs 0x20000000
    (leBytes 4 (2 ^ 31) ++ leBytes 4 0 ++ leBytes 4 16 ++ leBytes 4 0 ++ leBytes 4 0x20000100 ++ leBytes 4 0x20000200 ++ zeros 72)

theorem witness_job_go : let s := jobbing []
    Calm s ∧ Taken s .app (R.CIPHER_Q_CMD_GO 0) ∧ chanMaster .app 0 = true ∧ s.chRun 0 = false ∧ s.rd (R.CIPHER_Q_DESC 0) < 2 ^ 32 ∧
      s.jobCheck 0 (s.rd (R.CIPHER_Q_DESC 0)) = 0 ∧ chanMaster .link 0 = false ∧ (jobbing [(R.CIPHER_STAT_CH_RUN, 1)]).chRun 0 = true := by
  decide +kernel
theorem witness_job_go_bad : (8 : Nat) % 16 ≠ 0 ∧ (live []).jobSegs 0 false 0x40000000 96 = none ∧
    (jobbing []).jobSegs 0 false 0x20000000 96 = some [(0x20000000, 96)] ∧ (jobbing []).portOff [(0x20000000, 96)] = none ∧
    (jobbing [(R.HALL_CLK_STAT_RUN, 0)]).portOff [(0x20000000, 96)] ≠ none ∧ dscLens ((jobbing []).wrB 0x20000008 17#8 |>.dscAt 0x20000000) = false := by decide +kernel
theorem witness_job_end : let s := jobbing [(R.CIPHER_STAT_CH_RUN, 1), (L.JOB_ST 0, 2)]
    let d := s.dscAt (s.rd (R.CIPHER_Q_CUR 0))
    Calm s ∧ s.chRun 0 = true ∧ s.rd (L.JOB_ST 0) = 2 ∧ s.rd (L.JOB_QBUF 0) = 0 ∧ s.on R.CIPHER_LOCK_RELEASING = false ∧
      s.rd (R.CIPHER_Q_CUR 0) % 16 = 0 ∧ s.jobSegs 0 false (s.rd (R.CIPHER_Q_CUR 0)) 96 = some [(s.rd (R.CIPHER_Q_CUR 0), 96)] ∧
      regionOf (s.rd (R.CIPHER_Q_CUR 0)) ≠ .flash ∧ s.rd (L.JOB_BAD 0) = 0 ∧ s.rd (L.JOB_ABORT 0) = 0 ∧
      s.portOff [(s.rd (R.CIPHER_Q_CUR 0), 96)] = none ∧ s.portWaits 0 (s.jobAll 0) = false ∧ s.jobGate 0 = 0 ∧ s.rd (R.CIPHER_Q_PROG 0) = 0 ∧
      s.ff (L.JOB_IN 0) = [] ∧ (s.wr (L.JOB_ABORT 0) 1).rd (L.JOB_ABORT 0) = 1 ∧ dscMode d = 0 ∧ dscLens d = true ∧
      dscLast d = true ∧ s.jobSegs 0 false (dscWord d 0x10) (dscDataLen d) = some [(0x20000100, dscDataLen d)] ∧
      s.jobSegs 0 true (dscWord d 0x14) (dscDataLen d) = some [(0x20000200, dscDataLen d)] ∧
      s.rd (R.CIPHER_Q_CUR 0) + 96 ≤ 0x20000200 ∧ (s.wr (L.JOB_BAD 0) 4).rd (L.JOB_BAD 0) = 4 := by decide +kernel
theorem witness_job_lost : let s := (jobbing [(R.CIPHER_STAT_CH_RUN, 1), (L.JOB_ST 0, 2)]).wrBs 0x20000014 [0#8, 0#8, 0#8, 0x40#8]
    s.jobGate 0 = 4 ∧ dscMode (s.dscAt 0x20000000) = 0 ∧
      (jobbing [(R.CIPHER_STAT_CH_RUN, 1), (L.JOB_ST 0, 2), (R.HALL_CLK_STAT_RUN, 0), (L.PLL_WAIT, 1)]).portWaits 0
        ((jobbing [(R.CIPHER_STAT_CH_RUN, 1), (L.JOB_ST 0, 2)]).jobAll 0) = true := by decide +kernel
theorem witness_job_not_ready : (jobbing [(R.CIPHER_STAT_CH_RUN, 1), (L.JOB_ST 0, 1)]).rd (L.JOB_ST 0) ≠ 2 ∧
    (jobbing [(R.CIPHER_STAT_CH_RUN, 1), (L.JOB_ST 0, 1)]).rd (L.JOB_ABORT 0) = 0 := by decide +kernel
/-- FIPS 197 C.1: the block 00112233..ff under the key 000102..0f. -/
theorem test_job_aes :
    let key := (List.range 16).map fun i => BitVec.ofNat 8 i
    let s := ((jobbing [(R.CIPHER_STAT_CH_RUN, 1), (L.JOB_ST 0, 2), (L.JOB_KEY 0, ofLe key)]).wrBs 0x20000100
      ((List.range 16).map fun i => BitVec.ofNat 8 (17 * i)))
    (after (exec (.jobEnd 0 0 false false 0) s)).rdBs 0x20000200 4 = [0x69#8, 0xC4#8, 0xE0#8, 0xD8#8] := by decide +kernel

/-! ### The cipher lock -/

theorem witness_cipher_lock : let s := live [(R.CIPHER_LOCK_OWNER, 5)]
    Taken s .link R.CIPHER_LOCK_CMD_OP ∧ (5#3 : BitVec 3) ≠ 0#3 ∧ lockMaster .link ((5#3 : BitVec 3).toNat - 1) = true ∧
      s.rd R.CIPHER_LOCK_OWNER = (5#3 : BitVec 3).toNat ∧ s.jobUsesSw 4 = false ∧ (live []).rd R.CIPHER_LOCK_OWNER = 0 ∧
      lockMaster .app ((5#3 : BitVec 3).toNat - 1) = false ∧ Taken s .app R.CIPHER_LOCK_CMD_OP ∧ TakenAll s .link [R.CIPHER_SWKEY_CFG_KSIZE, R.KEYS_IV_CMD_OP] ∧
      TakenAll s .app [R.CIPHER_SWKEY_CFG_KSIZE, R.KEYS_IV_CMD_OP] ∧ lockMaster .app ((1#3 : BitVec 3).toNat - 1) = true ∧
      s.rd R.KEYS_IV_LO < 2 ^ 32 ∧ s.rd R.KEYS_IV_HI < 2 ^ 32 := by decide +kernel
theorem witness_cipher_lock_busy : let s := jobbing [(R.CIPHER_STAT_CH_RUN, 1), (L.JOB_ST 0, 2), (R.CIPHER_LOCK_RELEASING, 1)]
    s.rd R.CIPHER_LOCK_OWNER = (1#3 : BitVec 3).toNat ∧ s.jobUsesSw 0 = true ∧ s.on R.CIPHER_LOCK_RELEASING = true ∧
      (s.wr R.CIPHER_STAT_CH_RUN 0).jobUsesSw 0 = false := by decide +kernel
theorem test_lock_swkey_zeroed :
    (after (exec (.lockRelease .link 5#3) (live [(R.CIPHER_LOCK_OWNER, 5), (R.CIPHER_SWKEY 3, 7)]))).rd (R.CIPHER_SWKEY 3) = 0 := by decide +kernel

/-! ### The arbiter -/

/-- R248's worked example: APP 64, HOST 0, ATTIC 32, NFC 128, LINKSW 0 tickets; bursts 16, 64, 4. -/
def lotto (l : List (Fld × Nat)) : State :=
  live ([(R.ARB_TKT_TICKETS 0, 64), (R.ARB_TKT_TICKETS 1, 0), (R.ARB_TKT_TICKETS 2, 32), (R.ARB_TKT_TICKETS 3, 128), (R.ARB_TKT_TICKETS 4, 0),
    (R.ARB_TKT_BURST 0, 16), (R.ARB_TKT_BURST 2, 64), (R.ARB_TKT_BURST 3, 4)] ++ l)

theorem witness_draw_block : let s := jobbing [(R.CIPHER_STAT_CH_RUN, 1), (L.JOB_ST 0, 2), (R.ARB_STAT_L_REMAIN, 5), (R.ARB_STAT_L_HOLDER, 0)]
    s.domOn 7 = true ∧ s.chRun 0 = true ∧ s.jobGate 0 = 0 ∧ s.portWaits (Fin.ofNat 5 0) (s.jobAll 0) = false ∧ dscLens (s.dscAt (s.rd (R.CIPHER_Q_CUR 0))) = true ∧
      s.rd (R.CIPHER_Q_PROG 0) < dscDataLen (s.dscAt (s.rd (R.CIPHER_Q_CUR 0))) := by decide +kernel
/-- The three draws of the worked example: ATTIC, then NFC, then APP. -/
theorem test_lottery_example : (after (exec (.draw false 5#5 5#5) (lotto []))).resp = .data 2 ∧
    (after (exec (.draw false 13#5 13#5) (lotto [(R.ARB_LFSR_LANE, 0xE270)]))).resp = .data 3 ∧
    (after (exec (.draw false 5#5 5#5) (lotto [(R.ARB_LFSR_LANE, 0x7138)]))).resp = .data 0 := by decide +kernel

theorem witness_draw : let s := lotto []
    s.rd (arbLfsr 0) < 65536 ∧ s.domOn 7 = true ∧ s.rd (arbHolder 0) = 7 ∧ s.rd (L.HINT 0) = 0 ∧ s.ff (L.DUE 0) = [] ∧
      ((0xE270 : Nat) * 96 / 65536 = 84) ∧ (5#5 : BitVec 5).getLsbD 2 = true ∧ s.rd (R.ARB_TKT_TICKETS 0) = 64 ∧ s.rd (R.ARB_TKT_TICKETS 2) = 32 ∧
      1 ≤ s.rd (R.ARB_TKT_BURST 2) ∧ s.rd (R.ARB_TKT_BURST 2) ≤ 64 := by decide +kernel
theorem witness_draw_due : let s := (lotto []).setFf (L.DUE 1) [3]
    s.ff (L.DUE 1) = [3] ∧ s.rd (arbHolder 1) = 7 ∧ (8#5 : BitVec 5).getLsbD 3 = true ∧ 1 ≤ s.rd (R.ARB_TKT_BURST 3) := by decide +kernel
theorem witness_draw_holds : let s := lotto [(R.ARB_STAT_L_HOLDER, 2), (R.ARB_STAT_L_REMAIN, 5)]
    s.rd (arbHolder 0) = 2 ∧ s.rd (arbRemain 0) ≠ 0 ∧ s.rd (arbRemain 0) < 128 ∧ s.rd (L.BREAK 0) = 0 ∧ s.domOn 7 = true ∧
      ((live []).wr R.SYSCTL_DOM_STAT 0).domOn 7 = false := by decide +kernel
theorem witness_tickets : Taken (lotto []) .app (R.ARB_TKT_TICKETS 4) ∧ (lotto []).on R.ARB_CTRL_LOCK = false ∧
    (lotto [(R.ARB_CTRL_LOCK, 1)]).on R.ARB_CTRL_LOCK = true := by decide +kernel
theorem witness_hint : let s := lotto []
    Taken s .app R.ARB_HINT_CMD_GO ∧ s.rd (arbHolder 0) ≠ 2 ∧ s.rd (R.ARB_TKT_TICKETS 2) ≠ 0 ∧ bit (s.rd (L.BARRED 0)) 2 = false ∧
      (s.online 15 = true ∧ Open s .link (blockAddr 15 0x3C) (blkIsl 15)) ∧ bit (s.rd (L.READY 0)) 2 = false ∧ bit ((lotto [(L.READY 0, 4)]).rd (L.READY 0)) 2 = true ∧
      bit ((lotto [(L.HINT 0, 4)]).rd (L.HINT 0)) 2 = true := by decide +kernel

/-! ### Packet buffers -/

theorem witness_buf_alloc : let s := live []
    Calm s ∧ Taken s .link (pbmCmd .link) ∧ s.pbmBusy 1 = false ∧ s.rd R.PBM_STAT_RECLAIMING = 0 ∧ mayAlloc 1 1 = true ∧
      s.rd (R.PBM_LEDGER 1) + 16 ≤ s.rd (R.PBM_SHARE 1) ∧ (s.freeBufs 16 true).length = 16 ∧ mayAlloc 1 5 = false ∧
      (live [(L.L_BUSY, 1)]).pbmBusy 1 = true := by decide +kernel
theorem witness_buf_alloc_share : let s := live [(R.PBM_SHARE 1, 0)]
    s.rd (R.PBM_SHARE 1) < s.rd (R.PBM_LEDGER 1) + 1 ∧ s.pbmBusy 1 = false := by decide +kernel
/-- Buffer 0 awaits its zeroing. -/
theorem witness_buf_alloc_wait : let s := live [(L.DESC 0, mkDesc 0 0 0 0 1), (R.PBM_STAT_ZEROING, 1)]
    1 ≤ (s.freeBufs 1 false).length ∧ (s.freeBufs 2048 true).length ≠ 2048 ∧ dZeroing (s.desc 0) = true ∧ s.zq = [] ∧ 1 ≤ s.rd R.PBM_STAT_ZEROING ∧
      dZeroing (s.desc 1) = false := by decide +kernel
/-- A state whose 2048 buffers all belong to APP. -/
def allApp : State := { live [] with regs := (List.range 2048).map fun b => ((L.DESC b).key, mkDesc 0 1 0 5 0) }

theorem get_same (key : Nat → Nat) (v k : Nat) (l : List Nat) (h : ∃ b ∈ l, key b = k) :
    Cells.get k (l.map fun b => (key b, v)) = some v := by
  induction l with
  | nil => simp at h
  | cons a t ih =>
    by_cases hk : key a = k
    · simp [Cells.get, hk]
    · have h' : ∃ b ∈ t, key b = k := by
        obtain ⟨b, hb, e⟩ := h
        rcases List.mem_cons.1 hb with rfl | hb
        · exact absurd e hk
        · exact ⟨b, hb, e⟩
      simp [Cells.get, ih h']

theorem witness_buf_none_free : (allApp.freeBufs 1 false).length < 1 := by
  have hb : ∀ b ∈ List.range 2048, allApp.isFree b false = false := by
    intro b hb
    have hd : allApp.desc b = mkDesc 0 1 0 5 0 := by
      simp only [State.desc, State.rd, allApp]
      rw [get_same (fun b => (L.DESC b).key) _ _ _ ⟨b, hb, rfl⟩]; rfl
    simp only [State.isFree, State.owner, hd]; decide
  have : (List.range 2048).filter (fun b => allApp.isFree b false) = [] :=
    List.filter_eq_nil_iff.2 fun b h => by simp [hb b h]
  simp [State.freeBufs, this]

theorem witness_buf_xfer : let s := live [(L.DESC 3, mkDesc 0 1 9 1 0)]
    Calm s ∧ Taken s .link (pbmCmd .link) ∧ mayXfer 1 1 5 = true ∧ mayXfer 1 5 1 = false ∧ s.checkWalk 1 2048 3 = (1, [3]) ∧
      s.overShare 5 1 = false ∧ s.checkWalk 2 2048 3 = (3, []) ∧
      (s.wrs [(L.L_BUSY, 1), (L.CMD_WORD 1, 2 + 16 + 5 * 256 + 3 * 2 ^ 21)]).xferRuns 1 = true ∧ s.xferRuns 1 = false := by decide +kernel
theorem witness_buf_alloc_done : let s := live [(L.ALLOC_WAIT 0, 1), (L.CMD_WORD 0, 1 + 5 * 256 + 2 * 4096)]
    s.on (L.ALLOC_WAIT 0) = true ∧ (s.freeBufs (bits (s.rd (L.CMD_WORD 0)) 16 12) true).length = bits (s.rd (L.CMD_WORD 0)) 16 12 ∧
      (live []).on (L.ALLOC_WAIT 0) = false := by decide +kernel
theorem witness_desc_write : let s := live [(L.DESC 0, mkDesc 0 0 0 5 0)]
    Taken s .app R.PBM_A_DESC ∧ mayAlloc (pbmSet .app) (s.owner (s.rd R.PBM_A_DESC_SEL_INDEX)) = true ∧ dLen (0x80000#32 : BitVec 32).toNat ≤ 128 ∧
      mayAlloc (pbmSet .app) ((live []).owner 0) = false := by decide +kernel
theorem witness_audit : let s := live []
    Calm s ∧ s.on R.PBM_CTRL_AUDIT_EN = true ∧ s.domOn 6 = true ∧ (∀ o < 9, countBelow (fun b => s.owner b == o) 2048 = s.rd (R.PBM_LEDGER o)) ∧
      countBelow (fun b => (s.wr (R.PBM_LEDGER 8) 1).owner b == 8) 2048 ≠ (s.wr (R.PBM_LEDGER 8) 1).rd (R.PBM_LEDGER 8) := by decide +kernel
theorem witness_reclaim : let s := live [(L.RECL, 2 ^ 8), (L.DESC 4, mkDesc 0 1 0 8 0)]
    Calm s ∧ s.rd L.RECL = 2 ^ 8 ∧ s.rd L.RECL_CAUSE = 0 ∧ s.owner 4 = 8 := by decide +kernel

theorem witness_reclaim_radio : let s := live [(L.RECL, 0x1E), (L.RECL_CAUSE, 5), (L.DESC 4, mkDesc 0 1 0 3 0)]
    Calm s ∧ s.rd L.RECL = 0x1E ∧ s.rd L.RECL_CAUSE = 5 ∧ s.owner 4 = 3 ∧ 4 ∉ s.radioHeld := by decide +kernel
theorem witness_buf_reclaiming : let s := live [(R.PBM_STAT_RECLAIMING, 1), (L.RECL, 2 ^ 5)]
    Calm s ∧ Taken s .app (pbmCmd .app) ∧ s.pbmBusy 0 = false ∧ s.on R.PBM_STAT_RECLAIMING = true ∧ bit (s.rd L.RECL) 5 = true := by decide +kernel
/-- The APP set walks chain 3 and the link set, whose walk began later, meets it. -/
theorem witness_xfer_waits : let s := live [(L.DESC 3, mkDesc 0 1 9 1 0), (R.PBM_A_RES_BUSY, 1), (L.CMD_WORD 0, 2 + 5 * 16 + 3 * 2 ^ 21),
      (L.L_BUSY, 1), (L.CMD_WORD 1, 2 + 16 + 3 * 2 ^ 21), (L.XFER_2ND, 2)]
    s.xferRuns 1 = true ∧ s.xferWaits 1 = true ∧ s.xferRuns 0 = true ∧ s.xferWaits 0 = false ∧ s.checkWalk 1 2048 3 = (1, [3]) := by decide +kernel

/-! ### Check values -/

theorem witness_chk : ∀ n : Fin 4, TakenAll (live []) .app
    [R.CHK_RUN n.val, R.CHK_COUNT n.val, R.CHK_CMD_START n.val, R.CHK_CFG_USE n.val, R.CHK_DIN_W n.val, R.CHK_DIN_H n.val, R.CHK_DIN_B n.val] ∧ (live []).rd (R.CHK_RUN n.val) < 2 ^ 32 := by decide +kernel

/-- R272's check value of the nine octets "123456789" for unit n under a use, INIT at a value. -/
def chkOf (n use init : Nat) : Nat :=
  let s := (live [(R.CHK_CFG_USE n, use), (R.CHK_INIT n, init)]).chkStart n
  (s.chkFeed n [0x31#8, 0x32#8, 0x33#8, 0x34#8, 0x35#8, 0x36#8, 0x37#8, 0x38#8, 0x39#8] 9).chkResult n

/-- The check values are those of R272's table. -/
theorem test_chk_fcs16 : chkOf 0 0 0 = 0x2189 := by decide +kernel
theorem test_chk_crc_a : chkOf 0 1 0 = 0xBF05 := by decide +kernel
theorem test_chk_crc_b : chkOf 0 2 0 = 0x906E := by decide +kernel
theorem test_chk_le : chkOf 1 3 0x555555 = 0xC25A56 := by decide +kernel
theorem test_chk_fcs32 : chkOf 2 4 0 = 0xCBF43926 := by decide +kernel
theorem test_chk_c32 : chkOf 3 5 0 = 0xE3069283 := by decide +kernel

/-! ### The reader -/

def reader (st on : Nat) (l : List (Fld × Nat)) : State := live ([(R.NFCR_STAT_STATE, st), (L.NF_ON, on)] ++ l)

theorem witness_reader_off : let s := reader 0 0 []
    Calm s ∧ Taken s .app R.NFCR_CMD_OP ∧ s.ff L.NF_WPEND = [] ∧ s.rd L.NF_KEPT = 0 ∧ s.rd L.ENT_HOLD = 0 ∧ s.rd L.NF_RX = 0 ∧ s.rd L.NF_STG = 0 ∧
      s.on L.EXT_LVL = false ∧ (s.wrs [(L.EXT_LVL, 1), (R.HALL_CLK_STAT_NFC_SYN_LOCK, 1)]).on L.EXT_LVL = true ∧
      s.rd R.NFCR_STAT_STATE = 0 ∧ s.on L.NF_ON = false ∧ s.on L.VNFC_LOW = false ∧ s.on R.SYSCTL_SUPPLY_STAT_WARN = false ∧ s.rd L.NF_OP = 0 := by
  decide +kernel
theorem witness_reader_on : let s := reader 3 1 [(R.NFCR_INV_CFG_A_EN, 1)]
    s.rd R.NFCR_STAT_STATE = 3 ∧ s.on L.NF_ON = true ∧ s.on L.NF_GRD = false ∧ s.domOn 6 = true ∧ s.islOn 3 = true ∧ s.on R.NFCR_INV_CFG_A_EN = true ∧
      (reader 3 1 [(R.NFCR_INV_CFG_A_EN, 0), (R.NFCR_INV_CFG_B_EN, 1)]).on R.NFCR_INV_CFG_A_EN = false ∧
      (reader 3 1 [(R.NFCR_INV_CFG_B_EN, 1)]).on R.NFCR_INV_CFG_B_EN = true ∧ s.rd R.NFCR_INV_CFG_AFI < 256 ∧ s.rd R.NFCR_INV_CFG_B_N0 < 8 := by
  decide +kernel
theorem witness_reader_drop : (reader 3 1 [(R.SYSCTL_SUPPLY_STAT_WARN, 1)]).on R.SYSCTL_SUPPLY_STAT_WARN = true ∧
    (reader 3 1 [(L.ENT_HOLD, 1)]).on L.ENT_HOLD = true := by decide +kernel
theorem witness_reader_busy : let s := reader 4 1 [(L.NF_OP, 4), (L.NF_STG, 2)]
    Calm s ∧ Taken s .app R.NFCR_CMD_OP ∧ s.rd R.NFCR_STAT_STATE = 4 ∧ 1 ≤ s.rd L.NF_OP ∧ s.rd L.NF_OP ≤ 4 ∧ s.rd L.NF_STG ≤ 2 ∧
      s.rd R.NFCR_STAT_STATE ≠ 0 ∧ s.rd R.NFCR_STAT_STATE ≠ 3 ∧ (reader 1 0 []).rd R.NFCR_STAT_STATE = 1 := by decide +kernel
theorem test_reader_wupa : (after (exec (.inventory .app) (reader 3 1 [(R.NFCR_INV_CFG_A_EN, 1), (R.NFCR_INV_CFG_WUP, 1)]))).ff L.NF_FRM = [0x52] := by
  decide +kernel


theorem witness_reader_events : let s := reader 2 1 [(L.NF_OP, 4)]
    Calm s ∧ s.online 18 = true ∧ s.rd R.NFCR_STAT_STATE = 2 ∧ s.rd L.IV_PH = 0 ∧ s.on L.NF_ON = true ∧ s.domOn 6 = true ∧ s.islOn 3 = true ∧ s.rd L.NF_OP = 4 ∧ s.rd L.NF_STG ≠ 1 ∧
      s.rd L.NF_STG ≠ 2 ∧ s.rd L.NF_STG ≠ 3 ∧ s.rd L.NF_RX = 0 ∧ s.rd R.NFCR_DRV_LEVEL < 32 ∧ s.on L.NF_CA = false := by decide +kernel
theorem witness_reader_sensing : let s := reader 1 0 [(L.NF_OP, 1), (L.NF_CA, 1)]
    s.on L.NF_CA = true ∧ s.on L.EXT_LVL = false ∧ s.on L.NF_ON = false ∧ 1 ≤ s.rd L.NF_OP ∧ s.rd L.NF_OP ≤ 4 ∧
      s.rd R.NFCR_STAT_STATE ≠ 2 := by decide +kernel
theorem witness_reader_external : let s := reader 1 0 [(L.NF_OP, 1), (L.EXT_LVL, 1)]
    Calm s ∧ s.online 18 = true ∧ s.on L.EXT_LVL = true ∧ s.on L.NF_CA = false ∧ s.rd R.NFCR_STAT_STATE = 1 ∧ s.on L.NF_ON = false ∧
      1 ≤ s.rd L.NF_OP ∧ s.rd L.NF_OP ≤ 4 := by decide +kernel
theorem witness_reader_guard_on : (reader 2 1 [(L.NF_OP, 1)]).rd L.NF_OP = 1 ∧ (reader 4 1 [(L.NF_STG, 1)]).rd L.NF_STG = 1 := by decide +kernel
theorem witness_reader_response : let s := reader 4 1 [(L.NF_OP, 4), (L.NF_STG, 2), (R.PBM_SHARE 7, 64), (R.PBM_SHARE 5, 64), (R.NFCR_JOB_EN, 0)]
    Calm s ∧ s.online 18 = true ∧ s.rd L.NF_STG = 2 ∧ s.rd L.IV_PH = 0 ∧ s.rd L.NF_OP = 4 ∧ s.rd L.NF_RX = 0 ∧ s.on L.NF_ON = true ∧ s.on L.NF_GRD = false ∧
      s.on R.NFCR_JOB_EN = false ∧ s.overShare ownNfc (bufsFor 16) = false ∧ (s.freeBufs (bufsFor 16) false).length = bufsFor 16 ∧
      s.overShare ownApp (bufsFor 16) = false ∧ (s.wr (R.PBM_SHARE 7) 0).overShare ownNfc 1 = true := by decide +kernel
theorem witness_reader_inventory : (reader 4 1 [(L.NF_STG, 2), (L.IV_PH, 1)]).rd L.IV_PH = 1 ∧
    (let s := reader 4 1 [(L.NF_STG, 2), (L.IV_PH, 2)]
     s.rd L.IV_PH = 2 ∧ s.rd L.IV_NB = 0 ∧ s.rd L.IV_BITS = 0 ∧ s.rd L.IV_CL < 3) := by decide +kernel
theorem test_reader_store : (after (exec (.piccResponse [0xAA#8, 0xBB#8] 0#3 false false none)
    (reader 4 1 [(L.NF_OP, 4), (L.NF_STG, 2), (R.PBM_SHARE 7, 64), (R.PBM_SHARE 5, 64)]))).rdBs 0x20100000 2 = [0xAA#8, 0xBB#8] := by decide +kernel

/-! ### The Porch -/

def porch (tag : Nat) (l : List (Fld × Nat)) : State :=
  live ([(R.PORCH_STAT_FIELD, 1), (L.P_UP, 1), (L.P_EN, 1), (L.P_TAG, tag)] ++ l)

/-- A shadow header that names page 5 with SEQ 3 over a payload of zeros, COMMIT as given. -/
def torn (commit : Byte) : State :=
  let pay := List.replicate 64 0x00#8
  let s := (live [(R.PORCH_STAT_FIELD, 1)]).wrPs shadowHdr (leBytes 2 5 ++ leBytes 4 3 ++ leBytes 4 (crc32c (leBytes 2 5 ++ leBytes 4 3 ++ pay)) ++ [commit])
  s.wrPs shadowPay pay

theorem witness_porch_quiet : let s := porch 0 []
    s.on R.FLASHC_RDP_LOWERING = false ∧ s.rd L.PW_STEP = 0 ∧ s.rd L.PF_BUSY = 0 ∧ s.rd L.PW_LDR = 0 ∧ s.rd L.PH_ST = 0 ∧ s.rd L.PF_ST = 0 ∧ s.on R.PORCH_STAT_FIELD = true ∧ s.domOn 2 = true ∧
      s.on R.PORCH_STAT_SESSION = false ∧ (porch 5 [(R.PORCH_STAT_SESSION, 1)]).on R.PORCH_STAT_SESSION = true ∧ (live []).on R.PORCH_STAT_FIELD = false ∧
      (porch 5 [(R.SYSCTL_DOM_STAT, 0)]).domOn 2 = false ∧ s.on L.P_UP = true := by decide +kernel
theorem witness_porch_start : let s := live [(R.PORCH_STAT_FIELD, 1)]
    s.on L.P_UP = false ∧ s.islOn 8 = true ∧ s.present 19 = true ∧ s.on R.PORCH_STAT_FIELD = true ∧ s.rd R.PORCH_STAT_SESSION = 0 ∧ s.rdP (shadowHdr + 10) = 0 ∧
      (porch 0 [(R.PORCH_STAT_FIELD, 0), (R.SYSCTL_DOM_STAT, 0)]).on R.PORCH_STAT_FIELD = false := by decide +kernel
theorem witness_porch_torn : let s := torn 0x3C
    s.on L.P_UP = false ∧ (s.rdP (shadowHdr + 10)).toNat = 0x3C ∧ ofLe (s.rdPs shadowHdr 2) = 5 ∧
      ofLe (s.rdPs (shadowHdr + 6) 4) = crc32c (s.rdPs shadowHdr 6 ++ s.rdPs shadowPay 64) ∧ (torn 0x3D).rdP (shadowHdr + 10) = 0x3D := by decide +kernel
/-- The Porch's identifier and settings octets listed. -/
def named (s : State) : State :=
  { s with porch := [(0, 0x11#8), (1, 0x22#8), (2, 0x33#8), (3, 0x44#8), (4, 0x55#8), (5, 0x66#8), (6, 0x77#8), (7, 0x81#8)] ++ s.porch }

theorem test_porch_discard : let t := after (exec (.porchPowerUp true) (named (torn 0x3D)))
    t.rd R.PORCH_TEAR_LOG_OUTCOME = 2 ∧ t.rd R.PORCH_TEAR_LOG_PAGE = 5 ∧ t.rdP (shadowHdr + 10) = 0 ∧ t.rd R.PORCH_CFG_FWI = 8 := by decide +kernel
theorem witness_porch_tags : let t := fun k => porch k []
    (t 0).on R.PORCH_STAT_FIELD = true ∧ (t 0).on L.P_EN = true ∧ (t 0).on R.FLASHC_RDP_LOWERING = false ∧ (t 0).rd L.P_TAG = 0 ∧ (t 1).rd L.P_TAG = 1 ∧
      (t 2).rd L.P_TAG = 2 ∧ (t 3).rd L.P_TAG = 3 ∧ (t 4).rd L.P_TAG = 4 ∧ (t 5).rd L.P_TAG = 5 ∧ (t 3).ff L.P_PEND = [] ∧
      (porch 0 [(L.P_EN, 0)]).on L.P_EN = false := by decide +kernel
theorem witness_porch_level : let s := named (porch 1 [])
    s.rd L.P_TAG = 1 ∧ ofLe [0x88, s.rdP 0, s.rdP 1, s.rdP 2, 0x88 ^^^ s.rdP 0 ^^^ s.rdP 1 ^^^ s.rdP 2] = 0x8833221188 ∧
      (0x88#40).toNat % 2 ^ 8 = 0x8833221188 % 2 ^ 8 ∧ (0x8833221188#40).toNat = 0x8833221188 := by decide +kernel
theorem test_porch_select : let s := named (porch 1 [])
    (after (exec (.select false 0x8833221188#40) s)).ff L.P_OUT = [0x04] ∧
      (after (exec (.anticollision false 8#6 0x88#40) s)).ff L.P_OUT = [0x11, 0x22, 0x33, 0x88] := by decide +kernel

def session (l : List (Fld × Nat)) : State := porch 5 ([(R.PORCH_STAT_SESSION, 1)] ++ l)

theorem witness_session : let s := session []
    Calm s ∧ s.on R.PORCH_STAT_SESSION = true ∧ s.ff L.P_PEND = [] ∧ s.rd L.PW_STEP = 0 ∧ s.rd L.PF_BUSY = 0 ∧ s.rd L.P_FILE = 0 ∧
      s.on L.P_APP = false ∧ (session [(L.P_APP, 1)]).on L.P_APP = true ∧ (0xE103#16).toNat = 0xE103 ∧
      (session [(L.PW_STEP, 2)]).on L.PW_STEP = true ∧ (session [(L.P_FILE, 4)]).rd L.P_FILE = 4 := by decide +kernel
theorem witness_session_blocks : let s := (session [(L.P_WTX, 1)]).setFf L.P_PEND [6, 0]
    s.ff L.P_PEND ≠ [] ∧ s.rd L.P_WTX = 1 ∧ (session [(L.P_WTX, 2)]).rd L.P_WTX = 2 ∧
      (let r := (session []).setFf L.P_LAST [5, 0x90, 0x00]
       (0#1).toNat = r.rd L.P_BLK ∧ r.rd L.P_WTX ≠ 1 ∧ r.ff L.P_LAST = 5 :: [0x90#8, 0x00#8].map BitVec.toNat) ∧ (1#1).toNat ≠ s.rd L.P_BLK := by
  decide +kernel
theorem witness_session_chain : let s := (session []).setFf L.P_CHAIN [0xD2, 0x76]
    s.ff L.P_PEND = [] ∧ (∀ b ∈ s.ff L.P_CHAIN, b < 256) ∧ s.on R.PORCH_STAT_SESSION = true ∧ (session []).ff L.P_CHAIN = [] := by decide +kernel
theorem test_session_chained_select : let s := after (exec (.selectApplication ⟨[0xD2#8, 0x76#8, 0x00#8], true⟩) (session [(L.P_BLK, 1)]))
    s.ff L.P_OUT = [0xA2] ∧ (after (exec (.selectApplication ⟨[0x00#8, 0x85#8, 0x01#8, 0x01#8], false⟩) s)).rd L.P_APP = 1 := by decide +kernel
theorem test_session_cc : let s := session [(L.P_FILE, 1)]
    (after (exec (.readBinary 0#15 (some 3#8)) s)).ff L.P_OUT = [0x00, 0x0F, 0x20, 0x90, 0x00] := by decide +kernel
theorem test_session_end_of_file : let s := session [(L.P_FILE, 1)]
    (after (exec (.readBinary 15#15 (some 1#8)) s)).ff L.P_OUT = [0x6B, 0x00] ∧ (after (exec (.readBinary 14#15 (some 2#8)) s)).ff L.P_OUT = [0x67, 0x00] ∧
      (after (exec (.readBinary 14#15 (some 1#8)) s)).ff L.P_OUT = [0xFF, 0x90, 0x00] := by decide +kernel

theorem witness_page_steps : let s := fun k => porch 0 [(L.PW_STEP, k), (L.PW_RUN, 1), (L.PW_WHO, 2), (L.PH_ST, 1), (L.PH_N, 2), (L.PH_OP, 2)]
    Calm (s 1) ∧ (s 1).on L.PW_RUN = true ∧ (s 1).domOn 2 = true ∧ (s 1).on R.SYSCTL_SUPPLY_STAT_WARN = false ∧ (s 1).rd L.PW_STEP = 1 ∧ (s 2).rd L.PW_STEP = 2 ∧
      (s 3).rd L.PW_STEP = 3 ∧ (s 4).rd L.PW_STEP = 4 ∧ (s 5).rd L.PW_STEP = 5 ∧ (s 5).rd L.PW_WHO = 2 ∧ (s 5).rd L.PH_ST = 1 ∧ (s 5).on L.P_UP = true ∧
      (s 5).on R.PORCH_STAT_SESSION = false ∧ (s 5).rd L.PW_LDR = 0 ∧ (s 5).rd L.PF_ST = 0 ∧ (s 5).rd L.PF_BUSY = 0 ∧ (s 5).rd L.PH_I + 1 < (s 5).rd L.PH_N ∧ (s 5).rd L.PH_PAGE + (s 5).rd L.PH_N ≤ 256 ∧ (s 5).on R.FLASHC_RDP_LOWERING = false ∧
      (s 5).rd L.PH_OP = 2 ∧ (porch 0 [(L.PH_N, 1)]).rd L.PH_I + 1 = (porch 0 [(L.PH_N, 1)]).rd L.PH_N := by decide +kernel
theorem witness_page_field : let s := session [(L.PW_STEP, 5), (L.PW_RUN, 1), (L.PW_WHO, 1)]
    s.rd L.PW_STEP = 5 ∧ s.on L.PW_RUN = true ∧ s.rd L.PW_WHO = 1 ∧ s.on R.PORCH_STAT_SESSION = true ∧ s.ff L.PQ_DATA = [] ∧ s.rd L.PH_ST = 0 := by
  decide +kernel
theorem witness_page_gate : let s := porch 0 [(L.PW_STEP, 3), (L.PW_WHO, 2), (L.PH_ST, 1), (R.SYSCTL_SUPPLY_STAT_WARN, 1)]
    s.rd L.PW_STEP = 3 ∧ s.on L.PW_RUN = false ∧ s.on R.PORCH_STAT_RESERVE = false ∧ s.on R.SYSCTL_SUPPLY_STAT_WARN = true ∧ s.on R.PORCH_STAT_FIELD = true := by
  decide +kernel
theorem witness_host_commands : let s := porch 0 [(R.PORCH_CFG_HOST_WRITE_EN, 1)]
    Taken s .app R.PORCH_HCMD_GO ∧ Taken s .app R.PORCH_KEY_CMD_GO ∧ s.rd L.PH_ST = 0 ∧ s.on R.PORCH_CFG_HOST_WRITE_EN = true ∧ s.rd R.PORCH_STAT_OWNER = 0 ∧
      s.on L.PW_STEP = false ∧ s.on R.PORCH_STAT_SESSION = false ∧ (session []).on R.PORCH_STAT_SESSION = true ∧ (porch 0 []).on R.PORCH_CFG_HOST_WRITE_EN = false ∧
      (porch 0 [(L.PH_ST, 1)]).rd L.PH_ST = 1 ∧ (porch 0 [(L.PH_ST, 2)]).rd L.PH_ST = 2 := by decide +kernel
theorem test_host_range : let s := porch 0 []
    (after (exec (.hcmdRead .app 255#8 2#5) s)).rd R.PORCH_HSTAT_RESULT = 5 ∧ (after (exec (.hcmdRead .app 215#8 2#5) s)).rd R.PORCH_HSTAT_RESULT = 4 ∧
      (after (exec (.hcmdRead .app 2#8 1#5) s)).rd (R.PORCH_HBUF 0) = 0x00200F00 := by decide +kernel
theorem test_page_commit : let t := after (exec (.pageWriteStepDone false) (porch 0 [(L.PW_STEP, 3), (L.PW_RUN, 1), (L.PW_TGT, 220)]))
    t.rdP (shadowHdr + 10) = 0x3C ∧ t.rd L.PW_STEP = 4 := by decide +kernel
theorem witness_page_key : let s := porch 0 [(L.PW_STEP, 5), (L.PW_RUN, 1), (L.PW_WHO, 2), (L.PH_ST, 1), (L.PH_N, 2), (L.PH_OP, 3), (L.PH_PAGE, 3)]
    s.rd L.PH_I = 0 ∧ s.rd L.PH_N = 2 ∧ s.rd L.PH_OP = 3 ∧ s.rd L.PH_PAGE < 4 ∧ s.on L.P_UP = true := by decide +kernel
theorem witness_page_fails : let s := session [(L.PW_STEP, 4), (L.PW_RUN, 1), (L.PW_WHO, 1)]
    s.rd L.PW_STEP = 4 ∧ s.on L.PW_RUN = true ∧ s.rd L.PW_WHO = 1 ∧ s.on R.PORCH_STAT_SESSION = true ∧ s.on R.FLASHC_RDP_LOWERING = false ∧ s.rd L.PW_LDR = 0 ∧
      s.rd L.PH_ST = 0 ∧ s.rd L.PF_ST = 0 ∧ s.rd L.PF_BUSY = 0 := by decide +kernel

/-! ### Flash -/

/-- The flash unlocked for the application core. -/
def unlocked (l : List (Fld × Nat)) : State := live ([(L.FL_SEQ, 2), (L.FL_SEQM, 1), (R.FLASHC_STAT_KEY_OK, 1)] ++ l)

theorem witness_flash_key : let s := live []
    Taken s .app R.FLASHC_KEY ∧ Taken s .app R.FLASHC_CMD_OP ∧ NoInjection s ∧ s.rd L.FL_SEQ = 0 ∧
      (live [(L.FL_SEQ, 1), (L.FL_SEQM, 1)]).rd L.FL_SEQ = 1 ∧ (live [(L.FL_SEQ, 1), (L.FL_SEQM, 1)]).rd L.FL_SEQM = Flash.code .app ∧
      ¬ (s.rd L.FL_SEQ = 1) ∧ ¬ (0x5A18#16 = 0x5A17#16) := by decide +kernel
theorem witness_flash_dma : Taken (live []) .dma R.FLASHC_KEY ∧ Taken (live []) .dma R.FLASHC_CMD_OP ∧ ¬ Flash.Unlocked (live []) .app := by
  decide +kernel
theorem witness_flash_start : let s := unlocked []
    Flash.Unlocked s .app ∧ Flash.check s .app 2 0x08030004 false = 0 ∧ Flash.check s .app 2 0x0801FFFF false = 5 ∧
      Flash.check s .app 2 0x08020000 false = 0 ∧ Flash.check s .app 3 0x08400000 false = 4 ∧ Flash.check s .app 1 0x083FFFF0 false = 0 ∧
      Flash.check s .app 1 0x08018000 true = 5 ∧ Flash.check s .app 1 0x08030000 true = 8 := by decide +kernel
theorem witness_flash_wrp : let s := unlocked [(R.FLASHC_WRP_1, 1)]
    Flash.check s .app 1 0x0820FFF0 false = 6 ∧ Flash.check s .app 1 0x08210000 false = 0 ∧ Flash.check s .app 4 0x08200000 false = 6 ∧
      Flash.check s .app 2 0x081FF000 false = 0 := by decide +kernel
theorem witness_flash_suspend : let s := fun l => unlocked ([(L.FL_E_OP, 2), (L.FL_E_ADDR, 0x08030000)] ++ l)
    (s []).on L.FL_P_ON = false ∧ (s []).on L.FL_E_OP = true ∧ (s []).on R.SYSCTL_SUPPLY_STAT_WARN = false ∧ (s []).on L.FL_E_CUT = false ∧
      (s []).on R.FLASHC_STAT_SUSPENDED = false ∧ (s [(L.FL_E_CUT, 1)]).on L.FL_E_CUT = true ∧
      (s [(R.FLASHC_STAT_SUSPENDED, 1), (R.FLASHC_STAT_SUSP_BY, 1)]).rd R.FLASHC_STAT_SUSP_BY = 1 ∧
      Flash.check (s [(R.FLASHC_STAT_SUSPENDED, 1)]) .app 1 0x0803FFF0 false = 7 ∧
      Flash.check (s [(R.FLASHC_STAT_SUSPENDED, 1)]) .app 1 0x08040000 false = 0 ∧ (unlocked [(L.FL_P_ON, 1)]).on L.FL_P_ON = true := by decide +kernel
theorem witness_flash_debug : let s := live [(L.FL_SEQ, 2), (L.FL_SEQM, 3), (R.FLASHC_RDP_LEVEL, 1)]
    Taken s .debug R.FLASHC_CMD_OP ∧ Flash.Unlocked s .debug ∧ s.rd R.FLASHC_RDP_LEVEL ≠ 0 ∧ Flash.rdpCheck s .debug 0x52D00000 = 0 := by decide +kernel
theorem witness_flash_rdp : let s := fun n => unlocked [(R.FLASHC_RDP_LEVEL, n)]
    Flash.rdpCheck (s 0) .app 0x52D00001 = 0 ∧ Flash.rdpCheck (s 1) .app 0x52D00000 = 0 ∧ Flash.rdpCheck (s 2) .app 0x52D00000 = 12 ∧
      Flash.rdpCheck (s 1) .app 0x52D00001 = 1 ∧ Flash.rdpCheck (s 0) .app 0x52D00003 = 4 := by decide +kernel
theorem test_flash_program : let t := after (exec (.program .app 0x08030000 1 2 3 4 false) (unlocked []))
    t.rd L.FL_P_ON = 1 ∧ t.rd L.FL_P_DATA % 2 ^ 32 = 1 ∧ t.rd R.FLASHC_STAT_BUSY0 = 1 ∧ t.rd R.FLASHC_STAT_KEY_OK = 0 := by decide +kernel
theorem test_flash_out_of_order : let t := after (exec (.erasePage .app 0x08030000) (live [(L.FL_SEQ, 1), (L.FL_SEQM, 1)]))
    t.rd R.FLASHC_STAT_RESULT = 3 ∧ t.rd R.FLASHC_EVT_SEQ_ERR = 1 ∧ t.rd L.FL_SEQ = 0 := by decide +kernel

theorem witness_flash_pulse : let s := fun l => live ([(L.FL_P_ON, 1), (L.FL_P_ADDR, 0x08030000), (L.FL_P_DATA, 5)] ++ l)
    Calm (s []) ∧ (s []).domOn 11 = true ∧ (s []).islOn 9 = true ∧ (s []).on L.FL_P_ON = true ∧ (s []).on L.FL_P_PAUSE = false ∧ (s []).on L.FL_FAIL = false ∧
      (s []).rd L.FL_P_PULSES + 1 < 8 ∧ 8 ≤ (s [(L.FL_P_PULSES, 7)]).rd L.FL_P_PULSES + 1 ∧ (s [(L.FL_FAIL, 1)]).on L.FL_FAIL = true ∧
      (s [(L.FL_P_PAUSE, 1)]).on L.FL_P_PAUSE = true := by decide +kernel
theorem witness_flash_erase : let s := fun o g p => live [(L.FL_E_OP, o), (L.FL_E_ADDR, 0x08200000), (L.FL_E_GROUP, g), (L.FL_E_PULSES, p)]
    (s 2 0 0).on L.FL_P_ON = false ∧ (s 2 0 0).on L.FL_E_OP = true ∧ (s 2 0 0).on R.FLASHC_STAT_SUSPENDED = false ∧ (s 2 0 0).rd L.FL_E_OP ≠ 4 ∧
      (s 4 2 0).rd L.FL_E_GROUP < 3 ∧ (s 4 3 0).rd L.FL_E_GROUP = 3 ∧ (s 4 2 14).rd L.FL_E_PULSES + 1 < 16 ∧ 16 ≤ (s 4 2 15).rd L.FL_E_PULSES + 1 ∧
      (s 4 2 0).rd L.FL_E_ADDR < 0x08400000 := by decide +kernel
theorem witness_flash_levels : let s := fun l => live l
    (s [(L.FL_RDP, 2)]).rd L.FL_RDP = 2 ∧ (s [(L.FL_RDP, 3)]).rd L.FL_RDP = 3 ∧ (s []).rd L.FL_RDP = 0 ∧ (s []).on R.SYSCTL_SUPPLY_STAT_WARN = false ∧
      (s [(R.FLASHC_RDP_LOWERING, 1), (L.FL_LSTEP, 4)]).on R.FLASHC_RDP_LOWERING = true ∧ (s []).rd L.RST_HELD = 0 ∧
      (s [(L.FL_LSTEP, 4)]).rd L.FL_LSTEP = 4 ∧ 5 ≤ (s [(L.FL_LSTEP, 5)]).rd L.FL_LSTEP ∧ (s []).rd L.FL_LSTEP ≤ 1 ∧ (s [(L.FL_LSTEP, 2)]).rd L.FL_LSTEP = 2 ∧
      (s [(L.FL_LSTEP, 3)]).rd L.FL_LSTEP = 3 ∧ (s []).rd L.PL_NEXT < 256 ∧ 256 ≤ (s [(L.PL_NEXT, 256)]).rd L.PL_NEXT ∧
      (s []).chRun 0 = false ∧ (s [(L.OTP_STATE 3, 1)]).rd (L.OTP_STATE 3) = 1 ∧ (s []).rd (L.OTP_REV 3) = 0 := by decide +kernel
/-- The lowering writes page p of the Porch and is at a step of it. -/
def lowering (step p : Nat) : State :=
  live [(R.FLASHC_RDP_LOWERING, 1), (L.FL_LSTEP, 3), (L.P_UP, 1), (L.PW_STEP, step), (L.PW_RUN, 1), (L.PW_WHO, 5), (L.PW_TGT, p), (L.PL_NEXT, p)]
theorem witness_flash_pages : let s := lowering 5 253
    Calm s ∧ s.on R.FLASHC_RDP_LOWERING = true ∧ s.rd L.FL_LSTEP = 3 ∧ s.on L.P_UP = true ∧ s.rd L.PF_BUSY = 0 ∧ s.on R.SYSCTL_SUPPLY_STAT_WARN = false ∧
      s.on L.PW_RUN = true ∧ s.rd L.PW_WHO = 5 ∧ s.rd L.PW_DATA = 0 ∧ s.rd L.PW_STEP = 5 ∧ s.rd L.PW_TGT = 253 ∧ (lowering 6 254).rd L.PW_STEP = 6 ∧
      (lowering 7 255).rd L.PW_STEP = 7 := by decide +kernel
theorem test_flash_lower_last : let t := after (exec (.pageWriteStepDone false) (lowering 5 253))
    t.rd L.PW_STEP = 6 ∧ t.rd L.PW_TGT = 254 ∧ t.rd L.PL_NEXT = 254 := by decide +kernel
theorem witness_flash_readable : let s := live []
    Flash.Readable s .app false 0x083FFFFC ∧ ¬ Flash.Readable s .link false 0x08000000 := by
  unfold Flash.Readable Flash.fetchable; decide +kernel
theorem witness_flash_fetch : let s := live []
    Flash.Readable s .app true 0x083DFFFC ∧ ¬ Flash.Readable s .app true 0x083E0000 := by unfold Flash.Readable Flash.fetchable; decide +kernel
theorem witness_flash_reads : let s := live []
    s.rd (Flash.busyBit 0x083FFFFC) = 0 ∧ s.rd L.FL_E_OP = 0 ∧ 0x083FFFF0 ∉ s.ff L.FL_BAD ∧
      (live [(R.FLASHC_STAT_BUSY1, 1)]).on (Flash.busyBit 0x08200000) = true ∧ (live [(R.SYSCTL_DOM_STAT, 0)]).domOn 11 = false ∧
      (live [(R.FLASHC_ERR_THRESH, 1)]).rd R.FLASHC_ERR_THRESH ≤ 1 ∧ Taken s .app R.FLASHC_PGM_PULSES_CLEAR ∧ Taken s .app R.FLASHC_ERS_PULSES_CLEAR ∧
      s.rd L.FL_SEQ = 0 := by decide +kernel
theorem test_flash_status : (after (exec (.flashRead .app .data 0x08031000 .word 0)
    (live [(L.FL_P_ON, 1), (L.FL_P_ADDR, 0x08030000), (R.FLASHC_STAT_BUSY0, 1)]))).resp = .data 0xF1A51030 := by decide +kernel
theorem test_flash_pulse : let t := after (exec (.flashPulseDone true) (live [(L.FL_P_ON, 1), (L.FL_P_ADDR, 0x08030000), (L.FL_P_DATA, 0x1234)]))
    t.rdB 0x08030000 = 0x34 ∧ t.rdB 0x08030001 = 0x12 ∧ t.rdB 0x08030010 = 0xFF ∧ t.rd R.FLASHC_STAT_RESULT = 1 := by decide +kernel

/-! ### The Attic -/

def loader (l : List (Fld × Nat)) : State := live ([(L.FP_LOADING, 0)] ++ l)

theorem witness_attic_call : let s := loader [(R.CIPHER_STAT_READY, 1)]
    Calm s ∧ Attic.Callable s ∧ Attic.Calling (loader [(L.AC_ON, 4)]) ∧ Attic.Cipher s ∧ Attic.Free s ∧ s.rd R.ATTIC_STAT_PHASE = 0 ∧ s.on L.AT_PC = false ∧ s.online 10 = true ∧
      s.rd R.LINK_MC_STAT_ACTIVE ≠ 1 ∧ s.mcBusy = false ∧ ¬ Attic.Callable (loader [(L.TEST_HOLD, 1)]) := by decide +kernel
theorem witness_attic_reasons : let s := live [(R.ATTIC_STAT_MOVING, 1), (R.ATTIC_STAT_LOWBAT, 1)]
    s.atReasons ≠ 0 ∧ Attic.Bits s ∧ Attic.reason s = 3 ∧ (live []).atReasons = 0 ∧ ((live [(L.AT_BAD, 1)]).wr L.AT_BAD 0).atReasons = 0 := by decide +kernel
theorem test_attic_abandon : let t := after (exec (.atticAbandon true) (loader [(R.ATTIC_S_WP_INDEX, 4), (R.ATTIC_STAT_PHASE, 1)]))
    t.resp = .waiting ∧ t.rd R.FLASHC_STAT_BUSY1 = 1 ∧ t.rd R.ATTIC_STAT_PHASE = 1 ∧ t.attTick.resp = .data 0 ∧ t.attTick.rd R.ATTIC_STAT_PHASE = 0 ∧
      t.attTick.rd R.ATTIC_S_WP_INDEX = 0 ∧ t.attTick.rd R.FLASHC_STAT_BUSY1 = 0 := by decide +kernel
theorem witness_attic_ends : let s := loader [(L.AC_ON, 4), (L.AC_OK, 1), (L.FL_ENG, 1), (L.FL_ENGA, 0x083F1000)]
    s.domOn 11 = true ∧ s.islOn 9 = true ∧ s.on R.SYSCTL_SUPPLY_STAT_WARN = false ∧ s.domOn 5 = true ∧ s.islOn 2 = true ∧ s.on L.CORE_STOP = false ∧
      s.on L.DBG_HALT = false ∧ Attic.Free (s.wr L.FL_ENG 0) ∧ s.on L.AC_OK = true ∧ s.atEnd 0x083FC000 1024 < 1023 ∧ s.flErased 0x083FC010 = true := by
  decide +kernel

theorem witness_attic_take : let s := live [(R.ATTIC_REC_0, 2)]
    Calm s ∧ Attic.Taking s .app ∧ Attic.Free s ∧ Taken (live [(R.ATTIC_CMD_STAT_BUSY, 1)]) .app R.ATTIC_CMD_OP ∧ ¬ Attic.Free (live [(L.FL_P_ON, 1)]) ∧
      (s.ff L.AC_BUF).length = 0 ∧ ((s.setFf L.AC_BUF (List.replicate 12 0)).ff L.AC_BUF).length = 12 ∧ s.atEnd 0x08014000 512 = 0 ∧ s.rd R.ATTIC_J_WP_HALF < 2 := by decide +kernel
theorem witness_attic_copy_args : Attic.copyArgs 479 0x08201000 0x08020000 ∧ ¬ Attic.copyArgs 480 0x08200000 0x08020000 ∧
    ¬ Attic.copyArgs 0 0x08201000 0x08020000 ∧ Attic.copyArgs 1 0x083DF000 0x081FF000 := by unfold Attic.copyArgs; decide
theorem witness_attic_copy : let s := live [(L.CP_ON, 1), (R.ATTIC_COPY_N, 1), (R.ATTIC_COPY_SRC, 0x08201000), (R.ATTIC_COPY_DST, 0x08020000)]
    s.on L.CP_ON = true ∧ s.on L.AT_HELD = false ∧ s.online 21 = true ∧ s.on R.SYSCTL_SUPPLY_STAT_WARN = false ∧
      s.rd R.ATTIC_COPY_N ≤ s.rd R.ATTIC_COPY_PROG_DONE + 1 ∧ s.rd R.ATTIC_COPY_PROG_DONE + 1 < 512 ∧ s.on L.CP_EQ = false ∧ (live [(L.CP_EQ, 1)]).on L.CP_EQ = true ∧
      s.rd R.ATTIC_COPY_PROG_SKIPPED < 500 ∧ s.rd R.ATTIC_COPY_DST + 0x1000 ≤ s.rd R.ATTIC_COPY_SRC := by decide +kernel
theorem witness_attic_pfw : let s := live [(L.P_UP, 1), (R.ATTIC_PFW_LEN, 64), (R.ATTIC_PFW_SRC, 0x083FFFC0)]
    Attic.PorchFree s ∧ s.rd L.PF_BUSY = 0 ∧ s.on R.SYSCTL_SUPPLY_STAT_WARN = false ∧ s.atReasons = 0 ∧ 64 ≤ s.rd R.ATTIC_PFW_LEN ∧
      s.rd R.ATTIC_PFW_SRC + s.rd R.ATTIC_PFW_LEN ≤ 0x08400000 ∧
      (live [(L.P_UP, 1), (L.PF_BUSY, 1), (L.PF_ST, 1), (L.PF_OP, 4)]).on L.PF_BUSY = true ∧ (live [(L.PF_ST, 1)]).rd L.PF_ST = 1 ∧
      (live [(L.PF_OP, 4)]).rd L.PF_OP = 4 := by decide +kernel
theorem test_attic_append : let t := (after (exec (.appendJ .app true) (live [(R.ATTIC_REC_0, 0x12)]))).attTick
    t.rdB 0x08014000 = 0x12 ∧ t.rd R.ATTIC_J_WP_INDEX = 1 ∧ t.rd R.ATTIC_CMD_STAT_RESULT = 1 := by decide +kernel

theorem witness_attic_motion : let s := live [(R.SYSCTL_WAKE_CFG_MOTION_EDGE, 1), (R.ATTIC_UPD_CFG_MOVING_SRC, 2)]
    Calm s ∧ s.domOn 1 = true ∧ (s.rd R.SYSCTL_WAKE_CFG_MOTION_EDGE).testBit 0 = true ∧ (s.rd R.SYSCTL_WAKE_CFG_MOTION_EDGE).testBit 1 = false ∧
      s.on (L.VIO_LOW 0) = false ∧ s.on R.SYSCTL_PWR_STAT_ENTERING = false ∧ s.wakes 5 s.pwr = false ∧
      (live [(R.SYSCTL_PWR_STAT_STATE, 2), (R.SYSCTL_WAKE_EN_SRC, 0x10)]).wakes 5 2 = true := by decide +kernel
theorem test_attic_moving : (after (exec (.motionEdge true) (live [(R.SYSCTL_WAKE_CFG_MOTION_EDGE, 1), (R.ATTIC_UPD_CFG_MOVING_SRC, 2)]))).rd R.ATTIC_STAT_MOVING = 1 ∧
    (after (exec (.motionEdge true) (live [(R.SYSCTL_WAKE_CFG_MOTION_EDGE, 1), (R.ATTIC_UPD_CFG_MOVING_SRC, 1)]))).rd R.ATTIC_STAT_MOVING = 0 := by decide +kernel
theorem test_attic_lowbat : let s := live [(R.ATTIC_LIMITS_LOWBAT_LEVEL, 2800), (L.AT_LOW, 2)]
    (after (exec (.lowbatSample 2799) s)).rd R.ATTIC_STAT_LOWBAT = 1 ∧ (after (exec (.lowbatSample 2800) s)).rd R.ATTIC_STAT_LOWBAT = 0 := by decide +kernel
theorem witness_attic_resume : let s := live [(R.ATTIC_STAT_PHASE, 3)]
    s.atReasons = 0 ∧ s.rd R.ATTIC_STAT_PHASE = 3 ∧ s.on R.ATTIC_STAT_FLASH_HOLD = false ∧ Flash.busy s = false ∧ s.online 21 = true ∧ s.online 38 = true ∧
      s.on L.CP_ON = false ∧ s.on L.PF_ST = false ∧ (live [(R.ATTIC_STAT_FLASH_HOLD, 1)]).on R.ATTIC_STAT_FLASH_HOLD = true ∧ s.on L.AW_RPT = false ∧
      s.rd L.AW_FAILS < 10 := by decide +kernel

/-! ### Power -/

/-- The application core holds the power authority. -/
def own (l : List (Fld × Nat)) : State := live ([(R.SYSCTL_PWR_CFG_AUTHORITY, 1)] ++ l)

theorem witness_power_commands : let s := own []
    Calm s ∧ Taken s .app R.SYSCTL_PWR_CMD_GO ∧ Taken s .debug R.SYSCTL_PWR_CMD_GO ∧ Power.check s 2 = 0 ∧ Power.check s 1 = 0 ∧
      s.rd R.SYSCTL_PWR_STAT_STATE = 0 ∧ Power.check (live []) 2 = 1 ∧ Power.check (own [(R.SYSCTL_PWR_STAT_STATE, 1)]) 0 = 0 ∧ s.on L.BOOT_DUE = false ∧
      Power.check (own [(R.FLASHC_STAT_BUSY1, 1)]) 2 = 4 ∧ Power.check (own [(R.ATTIC_STAT_PHASE, 4)]) 3 = 6 := by decide +kernel
theorem witness_power_entry : let s := fun (p : Nat) (l : List (Fld × Nat)) => own ([(R.SYSCTL_PWR_STAT_ENTERING, 1), (L.ENT_TGT, 2), (L.ENT_PT, p)] ++ l)
    Calm (s 0 []) ∧ (s 0 []).on R.SYSCTL_PWR_STAT_ENTERING = true ∧ (s 0 []).on L.ENT_ABORT = false ∧ (s 0 []).on R.SYSCTL_PWR_CFG_AUTHORITY = true ∧
      (s 0 [(R.SYSCTL_PWR_CFG_AUTHORITY, 0)]).on R.SYSCTL_PWR_CFG_AUTHORITY = false ∧ (s 0 []).hcmd = [] ∧ (s 1 [(L.ENT_ACK, 1)]).on L.ENT_ACK = true ∧
      (s 1 []).rd R.NFCR_STAT_STATE ≠ 4 ∧ (s 3 []).running = [] ∧ (s 3 []).rd (L.RX_ST .cirrus) = 0 ∧ (s 3 []).rd (R.FE_STAT_STATE .stratus) = 0 ∧
      (s 4 [(L.ENT_ABORT, 1)]).on L.ENT_ABORT = true ∧ (s 4 []).rd L.NF_HELD = 0 ∧ (s 6 []).rd L.ENT_PT = 6 ∧ (s 6 []).rd L.ENT_TGT = 2 := by decide +kernel
theorem witness_power_radios : let s := own [(L.ENT_PT, 3)]
    (∀ r : Radio, r = .cirrus ∨ r = .stratus → s.rd (L.RX_ST r) = 0 ∧ s.rd (R.FE_STAT_STATE r) ≠ 6 ∧ s.rd (R.FE_STAT_STATE r) ≠ 7) ∧
      (own [(L.ENT_PT, 5)]).rd L.ENT_PT = 5 ∧ (own [(L.ENT_PT, 2)]).rd L.ENT_PT = 2 := by
  refine ⟨fun r h => ?_, by decide +kernel, by decide +kernel⟩
  rcases h with rfl | rfl <;> decide +kernel
theorem witness_power_ack : let s := live [(R.SYSCTL_PWR_STAT_ENTERING, 1), (L.ENT_PT, 1), (R.SYSCTL_PWR_STAT_PENDING, 1)]
    Taken s .app R.SYSCTL_PWR_ACK_ACK ∧ s.on R.SYSCTL_PWR_STAT_PENDING = true ∧ s.on R.SYSCTL_PWR_STAT_ENTERING = true ∧ s.rd L.ENT_PT = 1 ∧
      s.on L.ENT_ACK = false ∧ s.rd L.NF_HELD = 0 := by decide +kernel
theorem test_power_point : (after (exec (.entryStepDone false) (own [(R.SYSCTL_PWR_STAT_ENTERING, 1), (L.ENT_PT, 1)]))).rd L.ENT_PT = 1 ∧
    (after (exec (.entryStepDone true) (own [(R.SYSCTL_PWR_STAT_ENTERING, 1), (L.ENT_PT, 1)]))).rd L.ENT_PT = 2 := by decide +kernel
theorem test_power_refused : (after (exec (.pwrCmdSleep .app) (own [(R.CIPHER_STAT_CH_RUN, 4)]))).rd R.SYSCTL_PWR_STAT_REFUSE = 5 := by decide +kernel

def asleep (st : Nat) (l : List (Fld × Nat)) : State := live ([(R.SYSCTL_PWR_STAT_STATE, st), (R.SYSCTL_WAKE_EN_SRC, 0x1FF)] ++ l)

theorem witness_wake_sources : let s := asleep 2 [(L.FP_CAN_WAKE 0, 1), (L.FP_LIN_WAKE, 1)]
    Calm s ∧ s.on R.SYSCTL_PWR_STAT_ENTERING = false ∧ s.on (L.VIO_LOW 0) = false ∧
      s.on (L.VIO_LOW 1) = false ∧ s.present 34 = true ∧ s.present 36 = true ∧ s.rd (L.FP_CAN_WAKE 0) = 1 ∧ s.on L.FP_LIN_WAKE = true ∧
      s.wakes 2 s.pwr = true ∧ (asleep 0 []).wakes 2 0 = false ∧ s.wakeEn 0 = true ∧
      (asleep 2 [(L.ENT_PT, 3), (R.SYSCTL_PWR_STAT_ENTERING, 1)]).on R.SYSCTL_PWR_STAT_ENTERING = true ∧ (live [(L.VIO_LOW 0, 1)]).on (L.VIO_LOW 0) = true := by
  decide +kernel
theorem witness_wake_pin : (asleep 2 []).rd R.SYSCTL_WAKE_CFG_WAKE_MODE = 0 ∧ (asleep 2 []).on L.WAKE_PIN = false := by decide +kernel
theorem witness_wake_done : let s := asleep 2 [(L.WAKING, 1)]
    s.on L.WAKING = true ∧ s.pwr = 2 ∧ s.on R.HALL_CLK_STAT_HFXO_OK = false ∧ (asleep 2 [(R.HALL_CLK_STAT_HFXO_OK, 1)]).on R.HALL_CLK_STAT_HFXO_OK = true ∧
      (asleep 4 [(L.WAKING, 1)]).pwr = 4 ∧ (asleep 1 []).pwr = 1 ∧ (live []).meipWakes = false := by decide +kernel
theorem witness_wake_listen : let s := asleep 2 [(R.SYSCTL_PWR_STAT_LISTEN, 1)]
    s.on R.SYSCTL_PWR_STAT_LISTEN = true ∧ s.on L.WAKING = false ∧ s.running = [] ∧ s.armed = [] ∧ s.rd (R.FE_STAT_STATE .cirrus) ≤ 1 ∧
      s.rd (R.FE_STAT_STATE .stratus) ≤ 1 ∧ s.present 5 = true ∧ s.pwr = 2 := by decide +kernel
theorem test_wake_first : let t := after (exec (.canWake 1 false) (asleep 3 [(L.FP_CAN_WAKE 1, 1)]))
    t.rd R.SYSCTL_WAKE_STAT_FIRST = 3 ∧ t.rd R.SYSCTL_WAKE_STAT_SRC = 8 ∧ t.on L.WAKING = true := by decide +kernel
theorem test_wake_host_edge : (after (exec .hostpWakeEdge (asleep 1 []))).on L.HP_IRQ = true ∧ (after (exec .hostpWakeEdge (asleep 1 []))).on L.WAKING = false := by
  decide +kernel

theorem witness_dip : let s := live [(R.SYSCTL_DOM_STAT, 0x1BFF)]
    Calm s ∧ s.on R.SYSCTL_SUPPLY_STAT_WARN = false ∧ s.domOn 1 = true ∧ s.domOn 10 = false ∧ s.online 38 = true ∧ s.on L.FL_E_OP = false ∧
      s.rd L.PW_STEP = 0 ∧ s.rd L.PF_BUSY = 0 ∧ s.rd L.PW_LDR = 0 ∧ s.rd L.PH_ST = 0 ∧ s.rd L.PF_ST = 0 ∧ s.on R.PORCH_STAT_SESSION = false ∧
      (live [(R.SYSCTL_SUPPLY_STAT_WARN, 1)]).on R.SYSCTL_SUPPLY_STAT_WARN = true ∧ (live [(L.FL_E_OP, 2)]).on L.FL_E_OP = true := by decide +kernel
theorem witness_dom_rst : let s := live []
    Taken s .app R.SYSCTL_DOM_RST_GO ∧ (10#4).toNat ∈ [6, 7, 8, 9, 10] ∧ s.rd L.DOM_HELD = 0 ∧ s.on R.SYSCTL_PWR_STAT_ENTERING = false ∧ s.domOn 10 = true ∧
      (11#4).toNat ∉ [6, 7, 8, 9, 10] ∧ ((live [(L.DOM_HELD, 64)]).rd L.DOM_HELD).testBit 6 = true := by decide +kernel
theorem witness_mode : let s := live []
    Taken s .app R.SYSCTL_MODE_MODE ∧ s.rd R.SYSCTL_MODE_MODE = 1 ∧ s.rd R.FLASHC_RDP_LEVEL = 0 ∧ (live [(R.SYSCTL_MODE_MODE, 0)]).rd R.SYSCTL_MODE_MODE = 0 := by
  decide +kernel
theorem test_dip_log : let t := after (exec (.supplyRecovery 77) (live [(R.SYSCTL_SUPPLY_STAT_WARN, 1), (L.DIP_MIN, 2501)]))
    t.rd R.SYSCTL_DIP_LOG_MIN_MV = 2500 ∧ t.rd R.SYSCTL_DIP_LOG_UNSAMPLED = 0 ∧ t.rd R.SYSCTL_DIP_DUR = 77 ∧ t.rd R.SYSCTL_DIP_CNT = 1 := by decide +kernel
theorem test_mode_back : (after (exec (.modeWrite .app 1 false) (live [(R.SYSCTL_MODE_MODE, 0)]))).rd R.SYSCTL_MODE_MODE = 0 ∧
    (after (exec (.modeWrite .app 2 false) (live [(R.FLASHC_RDP_LEVEL, 1)]))).rd R.SYSCTL_MODE_MODE = 1 := by decide +kernel

/-! ### The calendar -/

def calendar (l : List (Fld × Nat)) : State := live ([(R.CAL_STAT_OSC_RUN, 1)] ++ l)

theorem witness_calendar : let s := calendar [(L.CAL_CAP, 1)]
    Calm s ∧ Cal.counting s ∧ Cal.steady s ∧ s.on L.CAL_CAP = true ∧ s.rd R.CAL_ALARM_STAT_ARMED = 0 ∧ s.rd L.CAL_ACC < 2 ^ 22 ∧
      (calendar []).on L.CAL_CAP = false ∧ s.calNow < calRange ∧ Taken s .app R.CAL_CAPTURE_GO ∧ Taken s .app R.CAL_COMMIT_GO ∧
      Taken s .app R.CAL_ALARM_CMD_ARM ∧ Taken s .app R.CAL_ALARM_CMD_DISARM ∧ (live [(R.CAL_STAT_OSC_RUN, 0)]).calRuns = false ∧
      (calendar [(R.CAL_COMMIT_STAT_BUSY, 1)]).on R.CAL_COMMIT_STAT_BUSY = true := by decide +kernel
theorem witness_calendar_dates : Cal.valid 0x173B3B 0x041D0C1F = False ∨ Cal.valid 0x173B3B 0x001C021D := by
  right; unfold Cal.valid Cal.days; decide
theorem witness_calendar_leap : Cal.valid 0 0x0064021C ∧ ¬ Cal.valid 0 0x0064021D ∧ Cal.valid 0x173B3B 0x00C70C1F ∧ ¬ Cal.valid 0x180000 0x00000101 := by
  unfold Cal.valid Cal.days; decide
theorem witness_calendar_alarm : let s := calendar [(R.CAL_ALARM_STAT_ARMED, 1), (R.CAL_ALARM_DATE 0, 0x102), (R.CAL_DATE, 0x101)]
    s.alarmOn 0 = true ∧ s.alarmOn 1 = false ∧ s.calNow < s.alarmAt 0 := by decide +kernel
theorem test_calendar_weekday : (after (exec .commitDone (calendar [(R.CAL_COMMIT_STAT_BUSY, 1), (R.CAL_SH_DATE, 0x00180101)]))).rd R.CAL_DATE = 0x00180101 := by
  decide +kernel
theorem test_calendar_alarm : let t := after (exec .alarmFire (calendar [(R.CAL_ALARM_STAT_ARMED, 1), (R.CAL_ALARM_DATE 0, 0x102), (R.CAL_DATE, 0x101)]))
    t.rd R.CAL_ALARM_STAT_FIRED = 1 ∧ t.rd R.CAL_ALARM_STAT_ARMED = 0 ∧ t.rd R.CAL_TIME = 0 ∧ t.rd R.CAL_DATE = 0x06000102 := by decide +kernel

theorem witness_calendar_upkeep : let s := calendar [(L.PPS_ON, 1)]
    s.domOn 0 = true ∧ (true = !s.on R.CAL_TRIM_CFG_PPS_EDGE) ∧ s.on L.PPS_ON = true ∧ (calendar []).on L.PPS_ON = false ∧
      s.rd R.CAL_TRIM_CFG_INTERVAL < 64 ∧ s.rd L.PPS_N = 0 ∧ s.rd L.PPS_SUM = 0 ∧ s.rd R.CAL_TRIM_CFG_MODE = 0 ∧ Taken s .app R.CAL_STAT_OSF ∧
      Taken s .app R.CAL_TRIM_VALUE ∧ (calendar [(R.CAL_COMMIT_STAT_SET_SINCE_OSF, 1)]).on R.CAL_COMMIT_STAT_SET_SINCE_OSF = true ∧
      (live [(R.SYSCTL_DOM_STAT, 0)]).domOn 0 = false ∧ s.on R.CAL_STAT_ON_BACKUP = false := by decide +kernel
theorem witness_calendar_trim : (2147#13).toInt = 2147 ∧ 2147 < (2148#13).toInt ∧ (0x179D#13).toInt = -2147 ∧ (0x179C#13).toInt < -2147 := by decide
theorem witness_calendar_interval : let s := calendar [(L.PPS_ON, 1), (R.CAL_TRIM_CFG_INTERVAL, 2)]
    s.rd L.PPS_N + 1 < max 1 (s.rd R.CAL_TRIM_CFG_INTERVAL) ∧ s.rd L.PPS_SUM ≤ 32801 * s.rd L.PPS_N ∧ s.on R.CAL_STAT_PPS_LOST = false ∧
      (calendar [(R.CAL_TRIM_CFG_INTERVAL, 1)]).rd R.CAL_TRIM_CFG_INTERVAL ≤ 1 := by decide +kernel
theorem test_calendar_pps : let s := calendar [(L.PPS_ON, 1), (R.CAL_TRIM_CFG_INTERVAL, 1)]
    (after (exec (.ppsEdge true 32801) s)).rd R.CAL_PPS_CNT = 32801 ∧ (after (exec (.ppsEdge true 32802) s)).rd R.CAL_EVT_PPS_REJ = 1 := by decide +kernel

/-! ### Timers -/

def timing (l : List (Fld × Nat)) : State := live ([(R.SYSCTL_MODE_MODE, 0), (R.TIM_CTRL_EN 1, 1)] ++ l)

theorem witness_timer : let s := timing [(R.TIM_CMP0 1, 100), (R.TIM_CNT 1, 200)]
    Tim.alone s 1 ∧ s.rd (R.TIM_CMP0 1) < 2 ^ 32 ∧ s.timRuns 2 = false ∧ s.timHigh 2 = false ∧ Taken s .app (R.TIM_TOP 7) ∧
      Taken s .app (R.TIM_SNAP_CMD_GO 6) ∧ s.on (L.TM_CARRY 6) = false := by decide +kernel
theorem witness_timer_capture : let s := timing [(R.TIM_CAP_CFG_EN 1, 1), (R.TIM_CAP_CFG_SEL 1, 70), (R.TIM_CAP_CFG_EDGE 1, 2), (R.TIM_CAP_CFG_PRE 1, 1)]
    s.online 25 = true ∧ s.on (R.TIM_CAP_CFG_EN 1) = true ∧ s.timHigh 1 = false ∧ 64 ≤ s.rd (R.TIM_CAP_CFG_SEL 1) ∧
      (s.rd R.GPIO_IN).testBit 6 = false ∧ (s.rd (R.TIM_CAP_CFG_EDGE 1)).testBit 1 = true ∧ s.rd (L.TM_EDGE 1) + 1 < 2 ^ s.rd (R.TIM_CAP_CFG_PRE 1) ∧
      2 ^ s.rd (R.TIM_CAP_CFG_PRE 1) ≤ (timing [(L.TM_EDGE 1, 1)]).rd (L.TM_EDGE 1) + 1 ∧ s.timLow 1 = false := by decide +kernel
theorem witness_timer_start : let s := live [(R.TIM_CFG_START_EN 0, 1), (R.EVM_SW, 1)]
    s.online 25 = true ∧ s.on R.SYSCTL_MODE_MODE = true ∧ s.on (R.TIM_CFG_START_EN 0) = true := by decide +kernel
theorem witness_lptim : let s := live [(R.LPTIM_CTRL_EN 1, 1), (R.LPTIM_MATCH 1, 9)]
    s.lpRuns 1 = true ∧ s.lpRuns 0 = false ∧ s.rd (R.LPTIM_CNT 1) < 2 ^ 32 ∧ s.pwr = 0 ∧ s.on R.SYSCTL_PWR_STAT_ENTERING = false := by decide +kernel
theorem test_timer_match : let u := after (exec (.timCompareMatch 1 false) (timing [(R.TIM_CMP0 1, 100), (R.TIM_CNT 1, 200)]))
    u.rd (R.TIM_CNT 1) = 100 ∧ u.rd (R.TIM_STAT_CMP0 1) = 1 ∧ u.rd (R.TIM_STAT_WRAP 1) = 1 := by decide +kernel
theorem test_lptim_wrap : let u := after (exec (.lptimWrap 1) (live [(R.LPTIM_CTRL_EN 1, 1), (R.LPTIM_MATCH 1, 9)]))
    u.rd (R.LPTIM_CNT 1) = 0 ∧ u.rd (R.LPTIM_STAT_WRAP 1) = 1 ∧ u.rd (R.LPTIM_STAT_MATCH 1) = 1 := by decide +kernel

theorem witness_watchdog_app : let s := live [(R.WDA_CTRL_EN, 1), (R.WDA_CFG_TMO_T, 100), (R.WDA_CFG2_WARN_T, 10), (R.WDA_CFG_WIN_T, 5)]
    Calm s ∧ s.on R.WDA_CTRL_EN = true ∧ s.wdaHeld = false ∧ s.rd R.WDA_CFG2_WARN_T < s.rd R.WDA_CFG_TMO_T ∧
      s.rd R.WDA_STAT_COUNT < s.rd R.WDA_CFG_TMO_T - s.rd R.WDA_CFG2_WARN_T ∧ Taken s .app R.WDA_KICK_KEY ∧ s.rd R.WDA_STAT_COUNT < s.rd R.WDA_CFG_WIN_T ∧
      (live [(R.WDA_STAT_COUNT, 9), (R.WDA_CFG_WIN_T, 5)]).rd R.WDA_CFG_WIN_T ≤ (live [(R.WDA_STAT_COUNT, 9)]).rd R.WDA_STAT_COUNT ∧
      Taken s .app R.EVM_SW ∧ s.domOn 5 = true ∧ s.rd R.FLASHC_RDP_LEVEL = 0 := by decide +kernel
theorem witness_watchdog_link : let s := live [(R.WDL_CTRL_EN, 1), (R.LINK_STAT_CORES, 1), (R.WDL_CFG_TMO_T, 100), (R.WDL_CFG2_WARN_T, 10), (R.WDL_CFG_WIN_T, 5)]
    s.on R.WDL_CTRL_EN = true ∧ s.wdlHeld = false ∧ s.rd R.LINK_STAT_CORES = 1 ∧ s.online 10 = true ∧ 0 < s.rd R.WDL_CFG2_WARN_T ∧
      s.rd R.WDL_STAT_COUNT < s.rd R.WDL_CFG_TMO_T - s.rd R.WDL_CFG2_WARN_T ∧ s.rd R.WDL_STAT_COUNT < s.rd R.WDL_CFG_WIN_T ∧
      (live []).on R.WDL_CTRL_EN = false := by decide +kernel
theorem test_watchdog_kick : let s := live [(R.WDA_CTRL_EN, 1), (R.WDA_CFG_WIN_T, 5), (R.WDA_STAT_COUNT, 5)]
    (after (exec (.wdaKick .app 0x6D2B) s)).rd R.WDA_STAT_COUNT = 0 ∧ (after (exec (.wdaKick .app 0x6D2A) s)).rd R.WDA_STAT_COUNT = 5 := by decide +kernel
theorem test_watchdog_reset : let t := after (exec .wdlTimeout (live [(R.WDL_CTRL_EN, 1), (R.LINK_STAT_CORES, 1)]))
    (t.rd R.SYSCTL_RST_CAUSE_KIND).testBit 4 = true ∧ t.rd R.LINK_STAT_CORES = 2 := by decide +kernel

/-! ### Host frames -/

/-- The octets of a header and its check value. -/
def hdrCrc (typ seq op : Byte) (len : Nat) : BitVec 16 := BitVec.ofNat 16 (hostFcs ([0x7E#8, typ, seq, op] ++ leBytes 2 len))
/-- A host that has sent a command. -/
def hostSent (op : Nat) (p : List Byte) (l : List (Fld × Nat)) : State :=
  after (execHostCmdHeader 1 7 (BitVec.ofNat 8 op) (BitVec.ofNat 16 p.length) (hdrCrc 1 7 (BitVec.ofNat 8 op) p.length) p
    (BitVec.ofNat 32 (hostC32 p)) (live ([(R.PBM_SHARE 6, 64)] ++ l)))

theorem witness_host_header : let s := live [(R.PBM_SHARE 6, 64)]
    Calm s ∧ s.online 33 = true ∧ s.on (L.VIO_LOW 0) = false ∧ 0 < s.rd R.PBM_CREDITS_HOST ∧ s.rd R.PBM_CREDITS_HOST + s.rd R.PBM_CREDITS_DEV = 64 ∧
      s.rd (R.PBM_LEDGER 6) + 1 ≤ s.rd (R.PBM_SHARE 6) ∧ s.domOn 6 = true ∧ s.islOn 3 = true ∧ s.rd R.ATTIC_STAT_PHASE = 0 ∧
      (live [(R.ATTIC_STAT_PHASE, 2)]).rd R.ATTIC_STAT_PHASE = 2 ∧ (live [(R.PBM_CREDITS_HOST, 0)]).rd R.PBM_CREDITS_HOST = 0 := by decide +kernel
theorem witness_host_room : ((live []).freeBufs 1 false).length = 1 ∧ (live [(R.HALL_CLK_STAT_RUN, 0x7F7)]).islOn 3 = false := by decide +kernel
theorem witness_host_room_none : ¬ (live [(R.PBM_SHARE 6, 0)]).rd (R.PBM_LEDGER 6) + 1 ≤ (live [(R.PBM_SHARE 6, 0)]).rd (R.PBM_SHARE 6) := by decide +kernel
theorem witness_host_interim : let s := { live [] with hcmd := [⟨7, 5, true, 0, 0, false⟩] }
    s.online 33 = true ∧ s.hcmd.find? (fun c => !c.interim) = some ⟨7, 5, true, 0, 0, false⟩ := by decide +kernel
theorem test_host_header : (hostSent 2 [0x00] []).hcmd.map (·.len) = [1] ∧ (hostSent 2 [0x00] []).rd R.PBM_CREDITS_HOST = 63 := by decide +kernel
theorem test_host_header_unknown : (hostSent 9 [] []).htx = [⟨2, 7, 9, 2, true, 1, 0, []⟩] := by decide +kernel
theorem test_host_header_bad : (after (exec (.hostCmdHeader 1 7 1 0 (hdrCrc 1 7 1 0 + 1) [] 0) (live []))).rd R.HOSTP_CNT_HDR_ERR = 1 := by decide +kernel

/-- A host whose command has been accepted. -/
def hostOpen (op : Nat) (l : List (Fld × Nat)) : State :=
  { live ([(R.PBM_CREDITS_HOST, 63), (R.PBM_CREDITS_DEV, 1), (R.FLOOR_STATUS_RELOAD_BUSY, 0)] ++ l) with hcmd := [⟨7, op, true, 0, 0, false⟩] }
/-- The same with one payload octet in buffer 0. -/
def hostOctet (op : Nat) (v : Byte) (l : List (Fld × Nat)) : State :=
  { (hostOpen op ([(L.DESC 0, mkDesc 0 1 1 6 0)] ++ l)).wrB (bufAddr 0) v with hcmd := [⟨7, op, true, 1, 1, false⟩] }

theorem witness_host_opcode : ∀ op ∈ [1, 3, 4, 7, 8], let s := hostOpen op []
    Calm s ∧ s.online 33 = true ∧ s.rd R.PBM_CREDITS_HOST + s.rd R.PBM_CREDITS_DEV = 64 ∧ 0 < s.rd R.PBM_CREDITS_DEV ∧
      (s.hcmd.filter fun c => c.op == op) = [⟨7, op, true, 0, 0, false⟩] := by decide +kernel
theorem witness_host_reload : let s := hostOpen 4 []
    s.on R.FLOOR_STATUS_RELOAD_BUSY = false ∧ s.on R.FLOOR_CTRL_LOCK = false ∧ s.rd R.SYSCTL_PWR_STAT_STATE = 0 ∧
      s.on R.SYSCTL_PWR_STAT_ENTERING = false ∧ s.rd (R.FE_STAT_STATE .cirrus) = 0 ∧ s.rd (R.FE_STAT_STATE .stratus) = 0 ∧ s.armed = [] ∧
      s.running = [] ∧ s.on R.FLASHC_STAT_BUSY0 = false ∧ (hostOpen 4 [(R.FLASHC_STAT_BUSY0, 1)]).on R.FLASHC_STAT_BUSY0 = true := by decide +kernel
theorem witness_host_power : let s := hostOctet 2 3 [(R.SYSCTL_PWR_CFG_AUTHORITY, 0)]
    s.hostPayload ⟨7, 2, true, 1, 1, false⟩ = [3] ∧ HostLink.powerCheck s 3 = 0 ∧ HostLink.powerCheck s 5 = 3 ∧
      HostLink.powerCheck (hostOctet 2 3 [(R.SYSCTL_PWR_CFG_AUTHORITY, 1)]) 3 = 1 ∧ s.rd R.SYSCTL_PWR_STAT_STATE = 0 := by decide +kernel
theorem witness_host_power_waits : let s := hostOctet 2 3 [(R.SYSCTL_PWR_CFG_AUTHORITY, 0), (R.SYSCTL_PWR_STAT_ENTERING, 1)]
    s.setPowerWaits = true ∧ s.on L.ENT_ABORT = false ∧ (s.hcmd.filter fun c => c.op == 2) = [⟨7, 2, true, 1, 1, false⟩] := by decide +kernel
theorem test_host_status : ((after (exec .status (hostOpen 1 []))).htx.map fun f => (f.status, f.crRet, f.data.length)) = [(0, 1, 24)] := by decide +kernel
theorem test_host_power_entry : let t := after (exec .setPower (hostOctet 2 3 [(R.SYSCTL_PWR_CFG_AUTHORITY, 0)]))
    t.rd L.ENT_TGT = 3 ∧ t.htx = [] ∧ (after (exec (.entryStepDone false) t)).htx = [⟨2, 7, 2, 0, true, 1, 0, []⟩] := by decide +kernel
theorem test_host_baud : (after (exec .setBaud (hostOpen 7 []))).htx = [⟨2, 7, 7, 2, true, 1, 0, []⟩] := by decide +kernel
theorem test_host_sys_reset : (after (exec .sysReset (hostOpen 8 []))).htx = [⟨2, 7, 8, 2, true, 1, 0, []⟩] := by decide +kernel
theorem witness_host_held : HostLink.Held (hostOctet 2 3 []) ⟨7, 2, true, 1, 1, false⟩ ∧ ¬ HostLink.Held (hostOctet 2 3 [(L.DESC 0, mkDesc 0 1 1 5 0)]) ⟨7, 2, true, 1, 1, false⟩ := by
  unfold HostLink.Held; decide +kernel
theorem test_host_unreached : (after (exec .setPower (hostOctet 2 3 [(L.DESC 0, mkDesc 0 1 1 5 0)]))).htx = [⟨2, 7, 2, 5, true, 1, 0, []⟩] := by decide +kernel

/-- A host whose APP_MSG in buffer 0 firmware has been given. -/
def hostAsked (l : List (Fld × Nat)) : State := { hostOctet 5 0x55 ([(L.H_NMSG, 1), (L.DESC 0, mkDesc 0 1 1 5 0), (L.DESC 1, mkDesc 0 1 2 5 0),
  (R.PBM_LEDGER 0, 2046), (R.PBM_LEDGER 5, 2), (R.PBM_SHARE 5, 9), (R.PBM_SHARE 6, 9)] ++ l) with mem := [(bufAddr 1, 0xA1), (bufAddr 1 + 1, 0xA2)] }

theorem witness_host_msg : let s := hostOctet 5 0x55 [(R.PBM_LEDGER 0, 2047), (R.PBM_LEDGER 6, 1), (R.PBM_SHARE 5, 9)]
    Calm s ∧ s.online 33 = true ∧ s.rd R.PBM_CREDITS_HOST + s.rd R.PBM_CREDITS_DEV = 64 ∧ 0 < s.rd R.PBM_CREDITS_DEV ∧
      (s.hcmd.filter fun c => c.op == 5).drop (s.rd L.H_NMSG) = [⟨7, 5, true, 1, 1, false⟩] ∧ s.rd R.SYSCTL_PWR_STAT_STATE = 0 ∧
      s.checkWalk 6 2048 0 = (1, [0]) ∧ s.rd (R.PBM_LEDGER 5) + 1 ≤ s.rd (R.PBM_SHARE 5) ∧ s.rd L.H_NMSG < 4 ∧
      (hostOctet 5 0 [(R.SYSCTL_PWR_STAT_STATE, 1)]).rd R.SYSCTL_PWR_STAT_STATE ≠ 0 := by decide +kernel
theorem witness_host_answer : let s := hostAsked [(R.HOSTP_RSP_DATA_HEAD, 1), (R.HOSTP_RSP_DATA_LEN, 2)]
    Calm s ∧ s.online 33 = true ∧ Taken s .app R.HOSTP_RSP_GO ∧ s.rd L.H_DISC = 0 ∧ s.openMsgs = [⟨7, 5, true, 1, 1, false⟩] ∧
      s.rd R.HOSTP_RSP_DATA_LEN ≠ 0 ∧ s.checkWalk 5 2048 1 = (1, [1]) ∧ s.rd (R.PBM_LEDGER 6) + 1 ≤ s.rd (R.PBM_SHARE 6) ∧
      (hostAsked []).rd R.HOSTP_RSP_DATA_LEN = 0 ∧ ¬ (hostAsked [(R.PBM_SHARE 6, 0)]).rd (R.PBM_LEDGER 6) + 1 ≤ 0 ∧
      0 < (hostAsked [(L.H_DISC, 1)]).rd L.H_DISC ∧ s.rd L.H_DISC + 1 < 2 ^ 16 := by decide +kernel
theorem witness_host_post : let s := hostAsked [(R.HOSTP_POST_DATA_HEAD, 1), (R.HOSTP_POST_DATA_LEN, 1)]
    Taken s .app R.HOSTP_POST_GO ∧ s.rd R.HOSTP_POST_DATA_LEN ≠ 0 ∧ s.checkWalk 5 2048 (s.rd R.HOSTP_POST_DATA_HEAD) = (1, [1]) ∧
      (hostAsked []).rd R.HOSTP_POST_DATA_LEN = 0 := by decide +kernel
theorem test_host_answer : let t := after (exec (.rspGo .app) (hostAsked [(R.HOSTP_RSP_DATA_HEAD, 1), (R.HOSTP_RSP_DATA_LEN, 2)]))
    t.htx = [⟨2, 7, 5, 0, true, 1, 0, [0xA1, 0xA2]⟩] ∧ t.hcmd = [] ∧ t.owner 1 = 0 := by decide +kernel
theorem test_host_msg : let t := after (exec .appMsg (hostOctet 5 0x55 [(R.PBM_LEDGER 0, 2047), (R.PBM_LEDGER 6, 1), (R.PBM_SHARE 5, 9)]))
    t.owner 0 = 5 ∧ t.rd R.HOSTP_MSG_LEN = 1 ∧ t.rd R.HOSTP_EVT_MSG = 1 := by decide +kernel
theorem test_host_post : (after (exec (.postGo .app) (hostAsked [(R.HOSTP_POST_TYPE, 0x81)]))).htx = [⟨3, 0, 0x81, 0, false, 0, 0, []⟩] := by decide +kernel

/-- The payload of a CIPHER_JOB: CMAC of one block with a derived key, TAG_LEN 16. -/
def hostJobText : List Byte := leBytes 4 (3 + 32 + 16 * 4096) ++ leBytes 4 0 ++ leBytes 4 16 ++ leBytes 4 0 ++ leBytes 4 96 ++ zeros 76 ++ zeros 16
def hostJobbing (l : List (Fld × Nat)) : State :=
  { (hostOpen 6 ([(L.DESC 0, mkDesc 0 1 112 6 0), (R.PBM_LEDGER 0, 2047), (R.PBM_LEDGER 6, 1), (R.PBM_SHARE 6, 9)] ++ l)).wrBs (bufAddr 0) hostJobText with
    hcmd := [⟨7, 6, true, 1, 112, false⟩] }

theorem witness_host_job : let s := hostJobbing []
    s.online 13 = true ∧ s.chRun 1 = false ∧ (s.hostPayload ⟨7, 6, true, 1, 112, false⟩).length = 112 ∧ s.on L.H_OUT = false ∧
      dscKsrc ((s.hostPayload ⟨7, 6, true, 1, 112, false⟩).take 96) = 1 ∧
      HostLink.outLen ((s.hostPayload ⟨7, 6, true, 1, 112, false⟩).take 96) = 16 ∧ s.rd (R.PBM_LEDGER 6) + 1 ≤ s.rd (R.PBM_SHARE 6) := by decide +kernel
theorem witness_host_job_room : ((hostJobbing []).freeBufs 1 false).length = 1 := by decide +kernel
theorem test_host_job : let t := after (exec .cipherJob (hostJobbing []))
    t.rd L.H_OUTN = 16 ∧ t.rd R.CIPHER_STAT_CH_RUN = 2 := by decide +kernel
theorem test_host_job_short : (after (exec .cipherJob (hostOpen 6 []))).htx = [⟨2, 7, 6, 2, true, 1, 3, []⟩] := by decide +kernel
theorem test_host_event_off : (after (exec (.postGo .app) ((hostAsked [(R.HOSTP_POST_DATA_HEAD, 1), (R.HOSTP_POST_DATA_LEN, 1)]).setIsl 3 false))).rd R.HALL_STALL_CNT = 1 := by
  decide +kernel

/-! ### CAN FD -/

/-- Controller 1 on the bus, buffer 2 of the lower identifier and buffer 0 pending. -/
def canOn (l : List (Fld × Nat)) : State :=
  live ([(R.CAN_CTRL_INIT 1, 0), (R.CAN_STAT_STATE 1, 1), (canWord 1 0 0, 0x100 * 2 ^ 18), (canWord 1 2 0, 0x0FF * 2 ^ 18)] ++ l)

theorem witness_can_tx : let s := canOn [(R.CAN_TX_REQ 1, 1)]
    Taken s .app (R.CAN_TX_REQ 1) ∧ Taken s .app (R.CAN_TX_CANCEL 1) ∧ Can.joined s 1 ∧ s.rd (L.CN_BUS 1) = 0 ∧ s.rd (R.CAN_TX_REQ 1) < 2 ^ 16 ∧
      (canOn [(L.CN_BUS 1, 3)]).online 35 = true ∧ (canOn [(L.CN_BUS 1, 3)]).rd (L.CN_BUS 1) = 3 ∧ s.rd (R.CAN_STAT_TEC 1) < 2 ^ 9 := by decide +kernel
theorem witness_can_rx : let s := canOn [(R.CAN_FLT_EN 1 4, 1), (R.CAN_FLT_ID 1 4, 0x0FF * 2 ^ 18), (R.CAN_FLTM 1 4, 0x7FF * 2 ^ 18)]
    s.online 35 = true ∧ s.rd R.ATTIC_UPD_CFG_SPEED_CAN ≠ 1 ∧ s.rd (R.CAN_STAT_REC 1) < 256 ∧ s.rd (L.CN_LVL 1) < 24 ∧
      (canOn [(L.CN_LVL 1, 24)]).rd (L.CN_LVL 1) = 24 ∧ Taken s .app (R.CAN_RX_POP 1) := by decide +kernel
theorem witness_can_filter : let s := canOn [(R.CAN_FLT_EN 1 4, 1), (R.CAN_FLT_ID 1 4, 0x0FF * 2 ^ 18), (R.CAN_FLTM 1 4, 0x7FF * 2 ^ 18)]
    s.on (R.CAN_FLT_EN 1 4) = true ∧ (0x0FF * 2 ^ 18 % 2 ^ 29 &&& s.rd (R.CAN_FLTM 1 4)) = (s.rd (R.CAN_FLT_ID 1 4) &&& s.rd (R.CAN_FLTM 1 4)) ∧
      s.rd (R.CAN_FLT_XTD 1 4) = 0x0FF * 2 ^ 18 / 2 ^ 30 % 2 ∧ ∀ i < 4, s.on (R.CAN_FLT_EN 1 i) = false := by decide +kernel
theorem test_can_priority : (after (exec (.txReqWrite .app 1 5 true) (canOn [(R.FAULT_INFLIGHT_FROZEN 15, 1)]))).rd (L.CN_BUS 1) = 3 := by decide +kernel
theorem test_can_rx : let t := after (exec (.canFrameRx 1 (BitVec.ofNat 32 (0x123 * 2 ^ 18)) 5 [1, 2, 3, 4, 5, 6]) (canOn []))
    t.rd (canWord 1 16 2) = 0x04030201 ∧ t.rd (canWord 1 16 3) = 5 ∧ t.rd (canWord 1 16 1) = 5 + 31 * 2 ^ 16 := by decide +kernel
theorem test_can_cancel : let t := after (exec (.txCancel .app 1 5) (canOn [(R.CAN_TX_REQ 1, 7), (L.CN_BUS 1, 3), (R.FAULT_INFLIGHT_FROZEN 15, 1)]))
    t.rd (R.CAN_TX_REQ 1) = 6 ∧ t.rd (L.CN_CANC 1) = 4 := by decide +kernel

theorem witness_can_error : let s := canOn [(R.CAN_STAT_TEC 1, 250), (L.CN_BUS 1, 3), (R.CAN_TX_REQ 1, 4)]
    s.online 35 = true ∧ s.rd (R.CAN_STAT_STATE 1) = 1 ∧ s.rd (L.CN_BUS 1) ≤ 16 ∧ s.rd (R.CAN_TX_REQ 1) < 2 ^ 16 ∧ s.rd (R.CAN_STAT_TEC 1) < 2 ^ 9 ∧
      s.rd (R.CAN_STAT_REC 1) < 2 ^ 8 ∧ s.rd (R.CAN_CTRL_INIT 1) = 0 ∧ Taken s .app (R.CAN_CTRL_INIT 1) ∧
      (live []).rd (R.CAN_CTRL_INIT 0) = 1 ∧ (live []).rd (R.CAN_STAT_STATE 0) = 0 ∧ (live [(R.HALL_CLK_STAT_PLL_SRC, 0)]).on R.HALL_CLK_STAT_PLL_SRC = false ∧
      (live [(R.HALL_CLK_STAT_PLL_SRC, 1)]).on R.HALL_CLK_STAT_PLL_SRC = true := by decide +kernel
theorem witness_can_recover : let s := canOn [(R.CAN_STAT_STATE 1, 3), (R.CAN_STAT_TEC 1, 256)]
    s.online 35 = true ∧ s.rd (R.CAN_STAT_STATE 1) = 3 ∧ s.on (R.CAN_CTRL_AUTO_RECOV 1) = true ∧ s.rd (R.CAN_CTRL_INIT 1) = 0 ∧
      (canOn [(L.CN_INTEG 1, 1)]).on (L.CN_INTEG 1) = true := by decide +kernel
theorem test_can_bus_off : let t := after (exec (.canBusError 1 1) (canOn [(R.CAN_STAT_TEC 1, 250)]))
    t.rd (R.CAN_STAT_STATE 1) = 3 ∧ t.rd (R.CAN_STAT_TEC 1) = 258 ∧ t.rd (R.CAN_EVT_STATE 1) = 1 := by decide +kernel

def linOn (role st : Nat) (l : List (Fld × Nat)) : State := live ([(R.LIN_CTRL_EN, 1), (R.LIN_CFG_ROLE, role), (L.LN_ST, st)] ++ l)

theorem witness_lin_command : ∀ st ∈ [0, 1, 2], let s := linOn 0 st []
    Taken s .app R.LIN_CMD_OP ∧ s.on R.LIN_CTRL_EN = true ∧ s.rd R.LIN_CFG_ROLE = 0 ∧ s.rd L.LN_ST = st ∧ s.rd R.LIN_FRAME_ID < 64 ∧
      (live []).on R.LIN_CTRL_EN = false := by decide +kernel
theorem witness_lin_bus : ∀ st ∈ [2, 3, 4], let s := linOn 1 st [(R.LIN_FRAME_LEN, 2), (R.LIN_STAT_RX_ID, 0x10)]
    s.online 36 = true ∧ s.on R.LIN_CTRL_EN = true ∧ s.rd R.LIN_CFG_ROLE ≠ 0 ∧ s.rd L.LN_ST = st ∧ s.rd R.LIN_FRAME_LEN ≤ 8 ∧
      s.rd R.LIN_STAT_RX_ID = (0x10#6).toNat := by decide +kernel
theorem test_lin_parity : Lin.sum true 0x10#6 [] = 255 - 0x50 := by decide +kernel
theorem test_lin_response : let t := after (exec (.linResponseEnd true [0x01, 0xFE] (BitVec.ofNat 8 (Lin.sum false 0 [0x01, 0xFE]))) (linOn 1 3 [(R.LIN_FRAME_LEN, 2), (R.LIN_FRAME_ENH, 0)]))
    t.rd R.LIN_STAT_RESULT = 1 ∧ t.rd R.LIN_DATA_0 = 0xFE01 ∧ t.rd R.LIN_EVT_DONE = 1 := by decide +kernel

/-! ### Pins, ADC, I2C and SPIM -/

theorem witness_pins : let s := live [(R.GPIO_IRQ_MODE_0, 4)]
    Taken s .app R.GPIO_OUT_SET ∧ Taken s .app R.GPIO_OUT_CLR ∧ s.rd R.GPIO_OUT < 2 ^ 32 ∧ s.on (L.VIO_LOW 0) = false ∧
      ¬ (s.pinFunc 1 = 9 ∧ 20 ≤ 1) ∧ (s.rd R.GPIO_DIR).testBit 1 = false ∧ s.domOn 12 = true := by decide +kernel
theorem test_pin_edge : let t := after (exec (.gpioEdge 1 true) (live [(R.GPIO_IRQ_MODE_0, 4)]))
    t.rd R.GPIO_IN = 2 ∧ t.rd R.GPIO_IRQ_STAT = 2 := by decide +kernel
theorem test_pin_out : (after (exec (.outClr .app 5) (live [(R.GPIO_OUT, 7)]))).rd R.GPIO_OUT = 2 := by decide +kernel

def converting (l : List (Fld × Nat)) : State := live ([(R.ADC_STAT_BUSY, 1), (R.ADC_SEQ_CH, 0xC5)] ++ l)

theorem witness_adc : let s := converting [(R.ADC_SEQ_CFG_LEN, 1)]
    Taken s .app R.ADC_CMD_START ∧ Taken s .app R.ADC_FIFO_DATA ∧ s.online 38 = true ∧ s.on R.ADC_STAT_BUSY = true ∧ s.on L.AD_STOP = false ∧
      s.rd L.AD_STEP < s.rd R.ADC_SEQ_CFG_LEN ∧ s.rd L.AD_STEP < 7 ∧ (converting []).rd R.ADC_SEQ_CFG_LEN ≤ (converting []).rd L.AD_STEP ∧
      (converting [(L.AD_STOP, 1)]).on L.AD_STOP = true ∧ (live []).on R.ADC_STAT_BUSY = false ∧ s.on R.ADC_SEQ_CFG_TRIG = false := by decide +kernel
theorem test_adc : let t := after (exec (.adcConversionDone 0x123) (converting [(R.ADC_SEQ_CFG_LEN, 1), (L.AD_STEP, 1)]))
    t.ff L.AD_FIFO = [0xC123] ∧ t.rd R.ADC_EVT_SEQ_DONE = 1 ∧ t.on R.ADC_STAT_BUSY = false ∧
      (after (exec (.adcFifoRead .app) t)).resp = .data 0x8000C123 := by decide +kernel

def moving (l : List (Fld × Nat)) (tx : List Nat) : State := ((live ([(R.I2C_STAT_BUSY, 1), (R.SPIM_STAT_BUSY, 1)] ++ l)).setFf L.I2_TX tx).setFf L.SP_TX tx

theorem witness_serial : let s := moving [(L.I2_LEFT, 2), (L.SP_LEFT, 2)] [1, 2]
    Taken s .app R.I2C_CMD_GO ∧ Taken s .app R.I2C_DATA ∧ Taken s .app R.SPIM_CMD_GO ∧ Taken s .app R.SPIM_DATA ∧ s.online 39 = true ∧ s.online 40 = true ∧
      s.on R.I2C_STAT_BUSY = true ∧ s.on R.SPIM_STAT_BUSY = true ∧ s.rd L.I2_LEFT < 256 ∧ s.rd L.SP_LEFT < 2 ^ 16 ∧ s.on L.I2_READ = false ∧
      min (min (2#8).toNat (s.rd L.I2_LEFT)) (s.ff L.I2_TX).length = s.rd L.I2_LEFT ∧ s.on R.SPIM_CFG_RX_EN = true ∧
      (live []).on R.I2C_STAT_BUSY = false ∧ (live []).on R.SPIM_STAT_BUSY = false := by decide +kernel
theorem test_i2c_write : let t := after (exec (.i2cDone false true [] 2) (moving [(L.I2_LEFT, 2)] [1, 2]))
    t.rd R.I2C_EVT_DONE = 1 ∧ t.ff L.I2_TX = [] ∧ t.rd L.I2_HELD = 1 := by decide +kernel
theorem test_spim : let t := after (exec (.spimDone [0x0A, 0x0B, 0x0C] false) (moving [(L.SP_LEFT, 3)] [1, 2]))
    t.ff L.SP_RX = [0x0A, 0x0B] ∧ t.rd L.SP_LEFT = 1 ∧ t.rd R.SPIM_STAT_BUSY = 1 := by decide +kernel

/-! ### Faults -/

theorem witness_inj_key : TakenAll (live [(L.INJ_KEYS, 1)]) .app [R.FAULT_INJ_KEY, R.FAULT_INJ_MODE_MODE, R.FAULT_LOG_VALID, R.FAULT_INFLIGHT_FROZEN 15] ∧ (live [(L.INJ_KEYS, 1)]).rd L.INJ_KEYS = 1 ∧
    (0x123#12 : BitVec 12) ≠ 0x1D3#12 ∧ (0x123#12 : BitVec 12) ≠ 0x2E4#12 := by decide +kernel
theorem witness_inj_arm :
    let s := live [(L.INJ_KEYS, 2), (R.FAULT_INJ_SEL_INDEX, 0x38)]
    TakenAll s .app [R.FAULT_INJ_KEY, R.FAULT_INJ_MODE_MODE, R.FAULT_LOG_VALID, R.FAULT_INFLIGHT_FROZEN 15] ∧ s.rd L.INJ_KEYS = 2 ∧ s.rd R.FLASHC_RDP_LEVEL = 0 ∧ s.rd R.FAULT_INJ_SEL_INDEX ∈ detectors ∧
      (1#2 : BitVec 2) ≠ 0#2 ∧ (live []).rd L.INJ_KEYS ≠ 2 := by decide +kernel
theorem witness_inflight : TakenAll (live [(R.FAULT_INFLIGHT_FROZEN 15, 1)]) .app [R.FAULT_INJ_KEY, R.FAULT_INJ_MODE_MODE, R.FAULT_LOG_VALID, R.FAULT_INFLIGHT_FROZEN 15] ∧
    (live [(R.FAULT_INFLIGHT_FROZEN 15, 1)]).on (R.FAULT_INFLIGHT_FROZEN 15) = true := by decide +kernel
theorem test_inj_denied_without_key :
    (after (exec (.injMode .app 1#2) (live [(R.FAULT_INJ_SEL_INDEX, 0x38)]))).rd R.FAULT_INJ_STAT_DENIED = 1 := by decide +kernel

/-! ### The calendar's power-up and its stop flag, the uses of CHK -/

theorem test_calendar_power_up : let t := after (exec .calPowerUp (live [(R.CAL_TIME, 5), (R.CAL_STAT_OSF, 0)]))
    t.rd R.CAL_TIME = 0 ∧ t.rd R.CAL_DATE = 0x05000101 ∧ t.rd R.CAL_STAT_OSF = 1 := by decide +kernel

theorem witness_stop_flag : let s := live [(R.CAL_COMMIT_STAT_SET_SINCE_OSF, 1)]
    Taken s .app R.CAL_STAT_OSF ∧ s.rd R.CAL_COMMIT_STAT_SET_SINCE_OSF = 1 ∧ (live []).rd R.CAL_COMMIT_STAT_SET_SINCE_OSF = 0 ∧ s.domOn 0 = true ∧
      (live [(R.CAL_COMMIT_STAT_BUSY, 1), (R.CAL_STAT_OSC_RUN, 1)]).calRuns = true ∧
      (live [(R.CAL_COMMIT_STAT_BUSY, 1)]).on R.CAL_COMMIT_STAT_BUSY = true := by decide +kernel
theorem test_stop_flag : (after (exec (.osfClear .app) (live [(R.CAL_COMMIT_STAT_SET_SINCE_OSF, 1)]))).rd R.CAL_STAT_OSF = 0 ∧
    (after (exec (.osfClear .app) (live []))).rd R.CAL_STAT_OSF = 1 := by decide +kernel

theorem witness_check_uses : let s := live [(R.CHK_CFG_USE 0, 1)]
    Taken s .app (R.CHK_CFG_USE 0) ∧ s.rd R.CHK_CTRL_LOCK = 0 ∧ Taken s .app (R.CHK_CMD_START 0) ∧ s.on (R.CHK_CFG_FOLD_EN 0) = false ∧
      (CheckUses.row (s.rd (R.CHK_CFG_USE 0))).1 = 0 ∧ (CheckUses.row 2).1 = 0 ∧ (CheckUses.row 3).1 ≠ 0 := by decide +kernel
theorem test_check_use : let t := after (exec (.chkUseWrite .app 0 2) (live [(R.CHK_RUN 0, 0x1234)]))
    t.chkResult 0 = 0xEDCB ∧ (after (exec (.chkUseWrite .app 0 3) t)).rd (R.CHK_CFG_USE 0) = 2 := by decide +kernel

end Sys2Proof.Tests
end

section
/-!
SUPPORT. Proofs of 00_scope.md: bits of a masked number, the reset state, and what a bus write comes to: by its address, by its
register's fields, at application SRAM and at the core's control and status registers. It settles O2 and O7.
-/
namespace Sys2Proof.Safety

open Sys2Proof Sys2Proof.Machine

/-! ### Bits of a number -/

theorem bit_zero (v : Nat) : bit v 0 = decide (v % 2 = 1) := by
  simp [bit, BEq.beq]

theorem bit_succ (v i : Nat) : bit v (i + 1) = bit (v / 2) i := by
  simp [bit, Nat.pow_succ', Nat.div_div_eq_div_mul]

theorem and_mod_two (v m : Nat) : (v &&& m) % 2 = v % 2 &&& m % 2 := Nat.and_mod_two_pow (n := 1)

/-- Half of a masked number is its half, masked by half of the mask. -/
theorem clrMask_div_two (v m : Nat) : clrMask v m / 2 = clrMask (v / 2) (m / 2) := by
  have hhalf : (v &&& m) / 2 = v / 2 &&& m / 2 := Nat.and_div_two
  have hlow : (v &&& m) % 2 ≤ v % 2 := and_mod_two v m ▸ Nat.and_le_left
  unfold clrMask
  omega

/-- The lowest bit of a masked number. -/
theorem clrMask_mod_two (v m : Nat) : clrMask v m % 2 = 1 ↔ v % 2 = 1 ∧ ¬ m % 2 = 1 := by
  have hle : v &&& m ≤ v := Nat.and_le_left
  have hlow : (v &&& m) % 2 = v % 2 * (m % 2) := by
    rw [and_mod_two]
    rcases Nat.mod_two_eq_zero_or_one v with hv | hv <;>
      rcases Nat.mod_two_eq_zero_or_one m with hm | hm <;> simp [hv, hm]
  unfold clrMask
  generalize v &&& m = x at hle hlow ⊢
  rcases Nat.mod_two_eq_zero_or_one m with hm | hm <;> rw [hm] at hlow ⊢ <;> omega

/-- R7: a mask clears the bits it names and no other. -/
theorem bit_clrMask (v m i : Nat) : bit (clrMask v m) i = (bit v i && !bit m i) := by
  induction i generalizing v m with
  | zero => simp only [bit_zero, clrMask_mod_two, Bool.decide_and, decide_not]
  | succ i ih => rw [bit_succ, clrMask_div_two, ih, bit_succ, bit_succ]

theorem clrMask_le (v m : Nat) : clrMask v m ≤ v := Nat.sub_le _ _

/-- A bit of a number cut to a width above it. -/
theorem bit_mod_two_pow {i w : Nat} (h : i < w) (v : Nat) : bit (v % 2 ^ w) i = bit v i := by
  have := Nat.testBit_mod_two_pow v w i
  simpa [bit, Nat.testBit_eq_decide_div_mod_eq, BEq.beq, h] using this

/-! ### Right after power-on reset -/

/-- R12, R402: at reset every field but RST_CAUSE.KIND reads its Reset value. -/
theorem reset_rd {f : Fld} (h : f.key ≠ R.SYSCTL_RST_CAUSE_KIND.key) : State.reset.rd f = f.rst := by
  have hdflt : State.reset.dflt f = f.rst := by simp [State.dflt, State.reset, Cells.get]
  have hget : Cells.get f.key State.reset.regs = none := by simp [State.reset, Cells.get, h]
  simp [State.rd, hget, hdflt]

/-- A byte that the memory does not list reads as its address does unlisted, where that is fixed. -/
theorem rdB_unlisted {s : State} {a : Nat} {b : Byte} (hg : Cells.get a s.mem = none) (hd : memDflt a = some b) : s.rdB a = b := by
  simp [State.rdB, hg, hd]

/-- Settles O2: the register list of the reset state names RST_CAUSE.KIND alone, and no memory or list holds anything. -/
theorem resetState : Obligations.ResetState := by
  unfold Obligations.ResetState
  refine ⟨by decide, fun f h => reset_rd h, reset_rd (by decide), reset_rd (by decide), ?_, ?_, fun a => rfl, fun f => rfl,
    rfl, rfl, rfl, rfl, rfl, rfl, rfl, rfl⟩
  · rw [State.on, reset_rd (by decide)]; rfl
  · intro a ha
    obtain ⟨b, hb⟩ := Option.ne_none_iff_exists'.1 ha
    rw [hb, rdB_unlisted rfl hb]

/-! ### Resets that wait -/

/-- The latches that say a reset waits to be taken. -/
def dueKeys : List Nat := [L.DUE_LANE.key, L.DUE_DOM.key, L.DUE_SYS.key]

theorem RegsBut.on {fs : List Fld} {s t : State} (h : RegsBut fs s t) {g : Fld} (hg : ∀ f ∈ fs, g.key ≠ f.key) : t.on g = s.on g := by
  rw [State.on, State.on, h g hg]

/-- A step that writes no latch of a waiting reset calls for none. -/
theorem Settled.of_regsBut {fs : List Fld} {s t : State} (h : Settled s) (hr : RegsBut fs s t) (hf : ∀ f ∈ fs, f.key ∉ dueKeys) :
    Settled t := by
  have hkept : ∀ g : Fld, g.key ∈ dueKeys → t.on g = s.on g := fun g hg => hr.on fun f hm e => hf f hm (e ▸ hg)
  obtain ⟨hlane, hdom, hsys⟩ := h
  exact ⟨(hkept _ (by decide)).trans hlane, (hkept _ (by decide)).trans hdom, (hkept _ (by decide)).trans hsys⟩

theorem Settled.err {s : State} (h : Settled s) : Settled s.err := h
theorem Settled.misalign {s : State} (h : Settled s) (m : Master) (w : Bool) : Settled (s.misalign m w) := by
  cases m <;> exact h

/-! ### A bus write by its address -/

theorem exec_registerWrite_bus (m : Master) (a : Word) (z : Size) (v : Word) (s : State) :
    exec (.registerWrite m (.bus a) z v) s = .next (s.busWrite m a.toNat z.bytes (v.toNat % 256 ^ z.bytes)).settle := rfl

theorem busWrite_misaligned {a n : Nat} (h : a % n ≠ 0) (s : State) (m : Master) (v : Nat) :
    s.busWrite m a n v = s.misalign m true := if_pos h

theorem busWrite_denied {s : State} {m : Master} {a n : Nat} (h : a % n = 0) (ha : s.allowed m a .store = false) (v : Nat) :
    s.busWrite m a n v = s.err := by simp [State.busWrite, h, ha]

theorem busWrite_unmapped {a n : Nat} (h : a % n = 0) (hr : regionOf a = .unmapped) (s : State) (m : Master) (v : Nat) :
    s.busWrite m a n v = s.err := by simp [State.busWrite, h, hr]

/-- R4: a register takes no access but one of 32 bits. -/
theorem busWrite_block_narrow {a n b o : Nat} (h : a % n = 0) (hr : regionOf a = .block b o) (hn : n ≠ 4) (s : State) (m : Master)
    (v : Nat) : s.busWrite m a n v = s.err := by simp [State.busWrite, h, hr, hn]

theorem busWrite_block {s : State} {m : Master} {a b o v : Nat} (h : a % 4 = 0) (ha : s.allowed m a .store = true)
    (hr : regionOf a = .block b o) (hc : busCommand m b o v = none) :
    s.busWrite m a 4 v = s.access m b o true fun s => (s.regWrite m b o v).ok := by simp [State.busWrite, h, ha, hr, hc]

theorem Open.cross {s : State} {m : Master} {a dom isl : Nat} (h : Open s m a isl) (hd : s.domOn dom = true)
    (hi : s.islOn isl = true) (w : Bool) (eff : State → State) : s.cross m a dom isl true w eff = eff s := by
  obtain ⟨_, _, hheld, hstall⟩ := h
  simp [State.cross, State.clockWait, hd, hi, hheld, hstall]

theorem busWrite_sram {s : State} {m : Master} {a n : Nat} (h : a % n = 0) (hr : regionOf a = .sram)
    (hm : s.memReach m .sram a true = true) (hd : s.domOn (regionDom .sram) = true) (hi : s.islOn (regionIsl .sram) = true)
    (ho : Open s m a (regionIsl .sram)) (v : Nat) : s.busWrite m a n v = (s.memWrite m .sram a n v).ok := by
  simp [State.busWrite, State.memAccess, h, hr, hm, ho.2.1, ho.cross hd hi]

/-- A taken write of a register that has no command of its own. -/
theorem exec_registerWrite_block {s : State} {m : Master} {a v : Word} {b o : Nat} (hr : regionOf a.toNat = .block b o)
    (hal : a.toNat % 4 = 0) (hc : busCommand m b o v.toNat = none) (hreach : s.reaches m b = true) (hon : s.online b = true)
    (ho : Open s m (blockAddr b o) (blkIsl b)) (ha : s.allowed m a.toNat .store = true) :
    exec (.registerWrite m (.bus a) .word v) s = .next ((s.regWrite m b o v.toNat).ok).settle := by
  have hv : v.toNat % 256 ^ Size.bytes .word = v.toNat := Nat.mod_eq_of_lt v.isLt
  have htaken : Taken s m ⟨b, o, 0, 0, .ro, .w, 0, .any, .any⟩ := ⟨hreach, hon, ho⟩
  have hacc := htaken.access true fun s => (s.regWrite m b o v.toNat).ok
  rw [exec_registerWrite_bus, hv, show Size.bytes .word = 4 from rfl, busWrite_block hal ha hr hc, hacc]

/-- A taken write whose register takes it as a list of writes of plain fields, none of which calls for a reset. -/
theorem exec_registerWrite_wrs {s : State} {m : Master} {a v : Word} {f : Fld} {fs : List Fld} {l : List (Fld × Nat)} (hs : Settled s)
    (hf : Taken s m f) (hr : regionOf a.toNat = .block f.blk f.off) (ha : a.toNat = blockAddr f.blk f.off) (hal : a.toNat % 4 = 0)
    (hc : busCommand m f.blk f.off v.toNat = none) (hw : s.regWrite m f.blk f.off v.toNat = s.wrs l) (hl : ∀ p ∈ l, p.1 ∈ fs)
    (hp : ∀ g ∈ fs, g.key ∉ lossKeys ++ dueKeys) :
    exec (.registerWrite m (.bus a) .word v) s = .next (s.wrs l).ok ∧ Only fs [] s (s.wrs l).ok := by
  obtain ⟨hreach, hon, ho⟩ := hf
  have honly : Only fs [] s (s.wrs l).ok := only_wrs s l hl fun g hg hk => hp g hg (List.mem_append_left _ hk)
  have hset : Settled (s.wrs l).ok := hs.of_regsBut honly.1 fun g hg hk => hp g hg (List.mem_append_right _ hk)
  refine ⟨?_, honly⟩
  rw [exec_registerWrite_block hr hal hc hreach hon ho (ha ▸ ho.2.1), hw, hset.settle]

/-! ### A field by its access code (R7, R8) -/

theorem fldWrite_rw {f : Fld} (h : f.acc = .rw) (s : State) (m : Master) (lk : Bool) (v : Nat) :
    s.fldWrite m lk v f = s.fldSet m f (f.of v) := by simp [State.fldWrite, h]
theorem fldWrite_ro {f : Fld} (h : f.acc = .ro) (s : State) (m : Master) (lk : Bool) (v : Nat) : s.fldWrite m lk v f = s := by
  simp [State.fldWrite, h]
/-- A register of RO fields keeps them all. -/
theorem each_fldWrite_ro {l : List Fld} (h : ∀ f ∈ l, f.acc = .ro) (s : State) (m : Master) (lk : Bool) (v : Nat) :
    (s.each l fun f t => t.fldWrite m lk v f) = s := by
  induction l with
  | nil => rfl
  | cons f t ih =>
    rw [State.each_cons, fldWrite_ro (h f (by simp))]
    exact ih fun g hg => h g (List.mem_cons_of_mem _ hg)
theorem fldWrite_w1c {f : Fld} (h : f.acc = .w1c) (s : State) (m : Master) (lk : Bool) (v : Nat) :
    s.fldWrite m lk v f = s.wr f (clrMask (s.rd f) (f.of v)) := by simp [State.fldWrite, h]
theorem fldWrite_w1s {f : Fld} (h : f.acc = .w1s) (s : State) (m : Master) (lk : Bool) (v : Nat) :
    s.fldWrite m lk v f = s.wr f (s.rd f ||| f.of v) := by simp [State.fldWrite, h]
theorem fldWrite_rwl {f : Fld} (h : f.acc = .rwl) (s : State) (m : Master) (lk : Bool) (v : Nat) :
    s.fldWrite m lk v f = if lk then s else s.fldSet m f (f.of v) := by simp [State.fldWrite, h]

theorem fldSet_any {f : Fld} (hb : f.by_ = .any) (hr : f.rng = .any) (s : State) (m : Master) (x : Nat) :
    s.fldSet m f x = s.wr f x := by simp [State.fldSet, hb, hr, mayWrite, Range.ok]

/-! ### Registers of SYSCTL -/

/-- A register of SYSCTL takes a write field by field, by what LOCK was before it. -/
theorem regWrite_sysctl {off : Nat} (h : off ≠ 0x48) (s : State) (m : Master) (v : Nat) :
    s.regWrite m 0 off v = s.each (fldsAt R.rowsSYSCTL off) fun f t => t.fldWrite m (s.on R.SYSCTL_CTRL_LOCK) v f := by
  simp [State.regWrite, h, State.plainWrite, State.tabWrite, State.blkLocked, blkRows, R.SYSCTL_CTRL_LOCK]

theorem regWrite_resumeAddr (s : State) (m : Master) (v : Nat) :
    s.regWrite m 0 0x34 v = s.wrs [(R.SYSCTL_RESUME_ADDR, R.SYSCTL_RESUME_ADDR.of v)] := by
  have hflds : fldsAt R.rowsSYSCTL 0x34 = [R.SYSCTL_RESUME_ADDR] := by decide
  rw [regWrite_sysctl (by decide), hflds, State.each_cons, fldWrite_rw rfl, fldSet_any rfl rfl]; rfl

theorem regWrite_rstCause (s : State) (m : Master) (v : Nat) :
    s.regWrite m 0 0x38 v =
      s.wrs [(R.SYSCTL_RST_CAUSE_KIND, clrMask (s.rd R.SYSCTL_RST_CAUSE_KIND) (R.SYSCTL_RST_CAUSE_KIND.of v))] := by
  have hflds : fldsAt R.rowsSYSCTL 0x38 = [R.SYSCTL_RST_CAUSE_KIND] := by decide
  rw [regWrite_sysctl (by decide), hflds, State.each_cons, fldWrite_w1c rfl]; rfl

theorem regWrite_devid (s : State) (m : Master) (v : Nat) : s.regWrite m 0 0x04 v = s.wrs [] := by
  have hro : ∀ f ∈ fldsAt R.rowsSYSCTL 0x04, f.acc = .ro := by decide
  rw [regWrite_sysctl (by decide), each_fldWrite_ro hro, State.wrs_nil]

/-- The writes that a write of SYSCTL.CTRL comes to. -/
def ctrlWrites (s : State) (v : Nat) : List (Fld × Nat) :=
  (if s.on R.SYSCTL_CTRL_LOCK then [] else [(R.SYSCTL_CTRL_IRQ_EN, R.SYSCTL_CTRL_IRQ_EN.of v)]) ++
    [(R.SYSCTL_CTRL_LOCK, s.rd R.SYSCTL_CTRL_LOCK ||| R.SYSCTL_CTRL_LOCK.of v)]

theorem regWrite_ctrl (s : State) (m : Master) (v : Nat) : s.regWrite m 0 0x00 v = s.wrs (ctrlWrites s v) := by
  have hflds : fldsAt R.rowsSYSCTL 0x00 = [R.SYSCTL_CTRL_IRQ_EN, R.SYSCTL_CTRL_LOCK] := by decide
  have hne : R.SYSCTL_CTRL_LOCK.key ≠ R.SYSCTL_CTRL_IRQ_EN.key := by decide
  rw [regWrite_sysctl (by decide), hflds, State.each_cons, State.each_cons, fldWrite_rwl (f := R.SYSCTL_CTRL_IRQ_EN) rfl,
    fldSet_any rfl rfl, fldWrite_w1s rfl]
  cases hlock : s.on R.SYSCTL_CTRL_LOCK <;> simp [ctrlWrites, hlock, State.rd_wr_ne _ hne]

/-! ### Bytes -/

theorem leBytes_length (n v : Nat) : (leBytes n v).length = n := by
  induction n generalizing v with
  | zero => rfl
  | succ n ih => simp [leBytes, ih]

theorem ofLe_leBytes (n v : Nat) : ofLe (leBytes n v) = v % 256 ^ n := by
  induction n generalizing v with
  | zero => simp [leBytes, ofLe, Nat.mod_one]
  | succ n ih => simp [leBytes, ofLe, ih, Nat.pow_succ', Nat.mod_mul]

theorem rdB_wrBs_outside (s : State) {a c : Nat} {l : List Byte} (h : c < a ∨ a + l.length ≤ c) : (s.wrBs a l).rdB c = s.rdB c := by
  induction l generalizing s a with
  | nil => rfl
  | cons b t ih =>
    simp only [List.length_cons] at h
    have hne : c ≠ a := by omega
    calc ((s.wrB a b).wrBs (a + 1) t).rdB c = (s.wrB a b).rdB c := ih _ (by omega)
      _ = s.rdB c := State.rdB_wrB_ne s hne b

theorem rdBs_wrBs (s : State) (a : Nat) (l : List Byte) : (s.wrBs a l).rdBs a l.length = l := by
  induction l generalizing s a with
  | nil => rfl
  | cons b t ih =>
    have hfst : ((s.wrB a b).wrBs (a + 1) t).rdB a = b := by
      rw [rdB_wrBs_outside _ (.inl (Nat.lt_succ_self a)), State.rdB_wrB_self]
    exact List.cons_eq_cons.2 ⟨hfst, ih (s.wrB a b) (a + 1)⟩

/-- R37: a little-endian value reads back as written. -/
theorem rdLe_wrLe (s : State) (a n v : Nat) : (s.wrLe a n v).rdLe a n = v % 256 ^ n := by
  have h := rdBs_wrBs s a (leBytes n v)
  rw [leBytes_length] at h
  rw [State.rdLe, State.wrLe, h, ofLe_leBytes]

theorem rdLe_congr {s t : State} (h : ∀ c, t.rdB c = s.rdB c) (a n : Nat) : t.rdLe a n = s.rdLe a n := by
  have hbytes : t.rdBs a n = s.rdBs a n := by
    induction n generalizing a with
    | zero => rfl
    | succ n ih => rw [State.rdBs, State.rdBs, h, ih]
  rw [State.rdLe, State.rdLe, hbytes]

theorem rdLe_ok (s : State) (a n : Nat) : s.ok.rdLe a n = s.rdLe a n :=
  rdLe_congr (s := s) (t := s.ok) (fun _ => rfl) a n

theorem rdB_wrLe_outside (s : State) {a c n : Nat} (h : c < a ∨ a + n ≤ c) (v : Nat) : (s.wrLe a n v).rdB c = s.rdB c :=
  rdB_wrBs_outside s (by rwa [leBytes_length])

theorem rd_wrLe (s : State) (a n v : Nat) (g : Fld) : (s.wrLe a n v).rd g = s.rd g :=
  State.rd_congr (State.wrBs_regs ..) (State.wrBs_plan ..) g

theorem ff_wrLe (s : State) (a n v : Nat) (g : Fld) : (s.wrLe a n v).ff g = s.ff g := State.ff_congr (State.wrBs_fifos ..) g

/-! ### A store to application SRAM -/

/-- R33: what a store of a master to application SRAM does to the line that the data cache may hold of it. -/
def dcSnoop (s : State) (m : Master) (a n v : Nat) : State :=
  match m with
  | .app => s.dcStore a n v
  | .dma | .debug => s.dcDrop a
  | _ => s

theorem memWrite_sram (s : State) (m : Master) (a n v : Nat) :
    s.memWrite m .sram a n v = (dcSnoop s m a n v).wrLe a n v := by cases m <;> rfl

theorem only_setFf (s : State) (q : Fld) (l : List Nat) : Only [] [q] s (s.setFf q l) :=
  ⟨fun _ _ => rfl, fun g hg => State.ff_setFf_ne s (hg q (by simp)) l, ⟨fun _ => rfl, fun _ => rfl, rfl⟩, by simp [ListsKept], rfl, rfl⟩

theorem only_dcSnoop (s : State) (m : Master) (a n v : Nat) : Only [] [L.DCACHE (a / 32 % 128)] s (dcSnoop s m a n v) := by
  have hself : Only [] [L.DCACHE (a / 32 % 128)] s s :=
    ⟨RegsBut.refl _ s, fun _ _ => rfl, ⟨fun _ => rfl, fun _ => rfl, rfl⟩, by simp [ListsKept], rfl, rfl⟩
  cases m with
  | app | dma | debug => exact only_setFf s _ _
  | link | host | cipher | nfc => exact hself

/-- The store's bytes, and what it leaves unchanged. -/
theorem sramStore (s : State) (m : Master) (a n v : Nat) :
    let t := (s.memWrite m .sram a n v).ok
    t.rdLe a n = v % 256 ^ n ∧ (∀ c, (c < a ∨ a + n ≤ c) → t.rdB c = s.rdB c) ∧ RegsBut [] s t ∧
      FifosBut [L.DCACHE (a / 32 % 128)] s t ∧ ListsKept s t := by
  obtain ⟨hregs, hfifos, ⟨hmem, -⟩, hlists, -⟩ := only_dcSnoop s m a n v
  rw [memWrite_sram]
  refine ⟨(rdLe_ok _ a n).trans (rdLe_wrLe _ a n v), fun c hc => ?_, fun g hg => ?_, fun g hg => ?_, ?_⟩
  · exact (rdB_wrLe_outside _ hc v).trans (hmem c)
  · exact (rd_wrLe _ a n v g).trans (hregs g hg)
  · exact (ff_wrLe _ a n v g).trans (hfifos g hg)
  · simpa [ListsKept, State.wrLe] using hlists

/-! ### The core's control and status registers -/

theorem exec_registerWrite_csr {s : State} (hd : s.domOn 5 = true) (hi : s.islOn 2 = true) (n : BitVec 12) (z : Size) (v : Word) :
    exec (.registerWrite .app (.csr n) z v) s = .next (s.csrWrite n.toNat v.toNat) :=
  congrArg Host.Outcome.next (if_pos ⟨rfl, hd, hi⟩)

theorem csrWrite_machine {s : State} {n : Nat} (hpriv : s.rd L.CPU_PRIV = 3) (hn : n < 0xC00) (hread : (s.csrRead n).isSome = true)
    (v : Nat) : s.csrWrite n v = (s.csrPut n v).ok := by
  have hsome : (s.csrRead n).isNone = false := Option.isNone_eq_false_iff.2 hread
  have hwritable : decide (0xC00 ≤ n) = false := decide_eq_false (Nat.not_le.2 hn)
  rw [State.csrWrite, hsome, hpriv, hwritable]; rfl

/-- R32: in machine mode the address register of a region that is not locked takes a write. -/
theorem csrPut_pmpAddr {s : State} {i : Nat} (hi : i < 16) (hlock : s.pmpLocked i = false) (v : Nat) :
    s.csrPut (0x3B0 + i) v = s.wr (L.PMP_ADDR i) v := by
  simp (disch := omega) only [State.csrPut, if_neg, if_pos, Nat.add_sub_cancel_left, hlock]
  rfl

theorem csrRead_pmpAddr {s : State} {i : Nat} (hi : i < 16) (hpriv : s.rd L.CPU_PRIV = 3) : (s.csrRead (0x3B0 + i)).isSome = true := by
  simp (disch := omega) only [State.csrRead, if_neg, if_pos, Option.isSome_some]

/-- A write in machine mode that a register of 32 bits takes whole. -/
theorem exec_csrStore {s : State} {n : BitVec 12} {v : Word} {f : Fld} (hd : s.domOn 5 = true) (hi : s.islOn 2 = true)
    (hpriv : s.rd L.CPU_PRIV = 3) (hn : n.toNat < 0xC00) (hread : (s.csrRead n.toNat).isSome = true)
    (hput : s.csrPut n.toNat v.toNat = s.wr f v.toNat) (hwid : f.wid = 32) (hf : f.key ∉ lossKeys) (z : Size) :
    ∃ t, exec (.registerWrite .app (.csr n) z v) s = .next t ∧ t.resp = .ok ∧ t.rd f = v.toNat ∧ Only [f] [] s t := by
  refine ⟨(s.wr f v.toNat).ok, ?_, rfl, ?_, only_wrs s [(f, v.toNat)] (by simp) (by simpa [PlainFlds] using hf)⟩
  · rw [exec_registerWrite_csr hd hi, csrWrite_machine hpriv hn hread, hput]
  · rw [State.rd_ok, State.rd_wr_self, hwid]; exact Nat.mod_eq_of_lt v.isLt

/-! ### The clauses of a bus write -/

/-- R7: an RW field takes the value written. -/
theorem write_resumeAddr {s : State} {m : Master} (hs : Settled s) (ht : Taken s m R.SYSCTL_RESUME_ADDR) (v : Word) :
    ∃ t, exec (.registerWrite m (.bus 0x40000034#32) .word v) s = .next t ∧ t.rd R.SYSCTL_RESUME_ADDR = v.toNat ∧ t.resp = .ok ∧
      Only [R.SYSCTL_RESUME_ADDR] [] s t := by
  obtain ⟨hexec, honly⟩ := exec_registerWrite_wrs (a := 0x40000034#32) (fs := [R.SYSCTL_RESUME_ADDR]) hs ht (by decide) (by decide)
    (by decide) rfl (regWrite_resumeAddr s m v.toNat) (by simp) (by decide)
  have hof : R.SYSCTL_RESUME_ADDR.of v.toNat % 2 ^ R.SYSCTL_RESUME_ADDR.wid = v.toNat := by
    have := v.isLt
    simp only [Fld.of, R.SYSCTL_RESUME_ADDR]
    omega
  exact ⟨_, hexec, by simp [hof], rfl, honly⟩

/-- R7: a W1C field loses the bits written as 1. -/
theorem write_rstCause {s : State} {m : Master} (hs : Settled s) (ht : Taken s m R.SYSCTL_RST_CAUSE_KIND)
    (hlt : s.rd R.SYSCTL_RST_CAUSE_KIND < 2 ^ 11) (v : Word) :
    ∃ t, exec (.registerWrite m (.bus 0x40000038#32) .word v) s = .next t ∧ t.resp = .ok ∧
      (∀ i < 11, bit (t.rd R.SYSCTL_RST_CAUSE_KIND) i = (bit (s.rd R.SYSCTL_RST_CAUSE_KIND) i && !bit v.toNat i)) ∧
      Only [R.SYSCTL_RST_CAUSE_KIND] [] s t := by
  obtain ⟨hexec, honly⟩ := exec_registerWrite_wrs (a := 0x40000038#32) (fs := [R.SYSCTL_RST_CAUSE_KIND]) hs ht (by decide) (by decide)
    (by decide) rfl (regWrite_rstCause s m v.toNat) (by simp) (by decide)
  have hof : R.SYSCTL_RST_CAUSE_KIND.of v.toNat = v.toNat % 2 ^ 11 := by simp [Fld.of, R.SYSCTL_RST_CAUSE_KIND]
  refine ⟨_, hexec, rfl, fun i hi => ?_, honly⟩
  have hrd : (s.wrs [(R.SYSCTL_RST_CAUSE_KIND, clrMask (s.rd R.SYSCTL_RST_CAUSE_KIND) (R.SYSCTL_RST_CAUSE_KIND.of v.toNat))]).ok.rd
      R.SYSCTL_RST_CAUSE_KIND = clrMask (s.rd R.SYSCTL_RST_CAUSE_KIND) (v.toNat % 2 ^ 11) := by
    rw [State.rd_ok, State.wrs_cons, State.wrs_nil, State.rd_wr_self, hof]
    exact Nat.mod_eq_of_lt (Nat.lt_of_le_of_lt (clrMask_le _ _) hlt)
  rw [hrd, bit_clrMask, bit_mod_two_pow hi]

/-- R7: RO fields keep their values. -/
theorem write_devid {s : State} {m : Master} (hs : Settled s) (ht : Taken s m R.SYSCTL_DEVID_PART) (v : Word) :
    ∃ t, exec (.registerWrite m (.bus 0x40000004#32) .word v) s = .next t ∧ t.resp = .ok ∧ Only [] [] s t := by
  obtain ⟨hexec, honly⟩ := exec_registerWrite_wrs (a := 0x40000004#32) (fs := []) hs ht (by decide) (by decide)
    (by decide) rfl (regWrite_devid s m v.toNat) (by simp) (by simp)
  exact ⟨_, hexec, rfl, honly⟩

/-- LOCK after a write of SYSCTL.CTRL: set by a 1, kept by a 0. -/
theorem ctrlWrites_lock {s : State} (hlt : s.rd R.SYSCTL_CTRL_LOCK < 2) (v : Nat) :
    (s.wrs (ctrlWrites s v)).on R.SYSCTL_CTRL_LOCK = (s.on R.SYSCTL_CTRL_LOCK || bit v 31) := by
  have hrd : (s.wrs (ctrlWrites s v)).rd R.SYSCTL_CTRL_LOCK = (s.rd R.SYSCTL_CTRL_LOCK ||| v / 2 ^ 31 % 2) % 2 := by
    cases hlock : s.on R.SYSCTL_CTRL_LOCK <;> simp [ctrlWrites, hlock] <;> rfl
  have hold : s.rd R.SYSCTL_CTRL_LOCK = 0 ∨ s.rd R.SYSCTL_CTRL_LOCK = 1 := by omega
  simp only [State.on, hrd, bit]
  rcases hold with hl | hl <;> rcases Nat.mod_two_eq_zero_or_one (v / 2 ^ 31) with hb | hb <;> rw [hl, hb] <;> rfl

/-- IRQ_EN after a write of SYSCTL.CTRL: kept while LOCK is 1 (R8). -/
theorem ctrlWrites_irqEn (s : State) (v : Nat) :
    (s.wrs (ctrlWrites s v)).rd R.SYSCTL_CTRL_IRQ_EN = if s.on R.SYSCTL_CTRL_LOCK then s.rd R.SYSCTL_CTRL_IRQ_EN else bits v 0 0 := by
  have hne : R.SYSCTL_CTRL_IRQ_EN.key ≠ R.SYSCTL_CTRL_LOCK.key := by decide
  have hof : R.SYSCTL_CTRL_IRQ_EN.of v % 2 ^ R.SYSCTL_CTRL_IRQ_EN.wid = bits v 0 0 := by
    simp [Fld.of, R.SYSCTL_CTRL_IRQ_EN, bits]
  cases hlock : s.on R.SYSCTL_CTRL_LOCK <;> simp [ctrlWrites, hlock, State.rd_wr_ne _ hne, hof]

/-- R7, R8: the LOCK bit and a field it locks. -/
theorem write_ctrl {s : State} {m : Master} (hs : Settled s) (ht : Taken s m R.SYSCTL_CTRL_LOCK)
    (hlt : s.rd R.SYSCTL_CTRL_LOCK < 2) (v : Word) :
    ∃ t, exec (.registerWrite m (.bus 0x40000000#32) .word v) s = .next t ∧ t.resp = .ok ∧
      t.on R.SYSCTL_CTRL_LOCK = (s.on R.SYSCTL_CTRL_LOCK || bit v.toNat 31) ∧
      t.rd R.SYSCTL_CTRL_IRQ_EN = (if s.on R.SYSCTL_CTRL_LOCK then s.rd R.SYSCTL_CTRL_IRQ_EN else bits v.toNat 0 0) ∧
      Only [R.SYSCTL_CTRL_IRQ_EN, R.SYSCTL_CTRL_LOCK] [] s t := by
  have hmem : ∀ p ∈ ctrlWrites s v.toNat, p.1 ∈ [R.SYSCTL_CTRL_IRQ_EN, R.SYSCTL_CTRL_LOCK] := by
    cases hlock : s.on R.SYSCTL_CTRL_LOCK <;> simp [ctrlWrites, hlock]
  obtain ⟨hexec, honly⟩ := exec_registerWrite_wrs (a := 0x40000000#32) hs ht (by decide) (by decide)
    (by decide) rfl (regWrite_ctrl s m v.toNat) hmem (by decide)
  exact ⟨_, hexec, rfl, ctrlWrites_lock hlt _, ctrlWrites_irqEn s _, honly⟩

/-- R37: a store to application SRAM leaves its bytes there and changes no other byte. -/
theorem write_sram {s : State} {m : Master} {a : Word} {z : Size} (hs : Settled s) (hr : regionOf a.toNat = .sram)
    (hal : a.toNat % z.bytes = 0) (hm : s.memReach m .sram a.toNat true = true) (hd : s.domOn (regionDom .sram) = true)
    (hi : s.islOn (regionIsl .sram) = true) (ho : Open s m a.toNat (regionIsl .sram)) (v : Word) :
    ∃ t, exec (.registerWrite m (.bus a) z v) s = .next t ∧ t.resp = .ok ∧ t.rdLe a.toNat z.bytes = v.toNat % 256 ^ z.bytes ∧
      (∀ c, (c < a.toNat ∨ a.toNat + z.bytes ≤ c) → t.rdB c = s.rdB c) ∧ RegsBut [] s t ∧
      FifosBut [L.DCACHE (a.toNat / 32 % 128)] s t ∧ ListsKept s t := by
  obtain ⟨hval, hbytes, hregs, hfifos, hlists⟩ := sramStore s m a.toNat z.bytes (v.toNat % 256 ^ z.bytes)
  have hset := hs.of_regsBut hregs (by simp)
  refine ⟨_, ?_, rfl, hval.trans (Nat.mod_mod _ _), hbytes, hregs, hfifos, hlists⟩
  rw [exec_registerWrite_bus, busWrite_sram hal hr hm hd hi ho, hset.settle]

/-- R511: a misaligned access performs nothing. -/
theorem write_misaligned {s : State} (hs : Settled s) {a : Word} {z : Size} (h : a.toNat % z.bytes ≠ 0) (m : Master) (v : Word) :
    exec (.registerWrite m (.bus a) z v) s = .next (s.misalign m true) := by
  rw [exec_registerWrite_bus, busWrite_misaligned h, (hs.misalign m true).settle]

/-- R4, R32, R38: a write that the core's regions deny, to no unit, or to a register and not 32 bits wide ends in an error. -/
theorem write_error {s : State} {m : Master} {a : Word} {z : Size} (hs : Settled s) (hal : a.toNat % z.bytes = 0)
    (h : s.allowed m a.toNat .store = false ∨ regionOf a.toNat = .unmapped ∨ ∃ b o, regionOf a.toNat = .block b o ∧ z ≠ .word)
    (v : Word) : exec (.registerWrite m (.bus a) z v) s = .next s.err := by
  have hbytes : z ≠ .word → z.bytes ≠ 4 := by cases z <;> simp [Size.bytes]
  have herr : s.busWrite m a.toNat z.bytes (v.toNat % 256 ^ z.bytes) = s.err := by
    rcases h with hdeny | hnone | ⟨b, o, hblock, hz⟩
    · exact busWrite_denied hal hdeny _
    · exact busWrite_unmapped hal hnone s m _
    · exact busWrite_block_narrow hal hblock (hbytes hz) s m _
  rw [exec_registerWrite_bus, herr, hs.err.settle]

/-- R35: a write of mcounteren in machine mode. -/
theorem write_mcounteren {s : State} (hd : s.domOn 5 = true) (hi : s.islOn 2 = true) (hpriv : s.rd L.CPU_PRIV = 3) (z : Size) (v : Word) :
    ∃ t, exec (.registerWrite .app (.csr 0x306) z v) s = .next t ∧ t.resp = .ok ∧ t.rd L.MCOUNTEREN = v.toNat ∧
      Only [L.MCOUNTEREN] [] s t := by
  have hread : (s.csrRead 0x306).isSome = true := by simp [State.csrRead, hpriv]
  exact exec_csrStore (n := 0x306) hd hi hpriv (by decide) hread rfl rfl (by decide) z

/-- R32: a write of the address register of a region that is not locked, in machine mode. -/
theorem write_pmpAddr {s : State} (hd : s.domOn 5 = true) (hi : s.islOn 2 = true) (hpriv : s.rd L.CPU_PRIV = 3) (z : Size) (v : Word)
    {i : Fin 16} (hlock : s.pmpLocked i.val = false) :
    ∃ t, exec (.registerWrite .app (.csr (BitVec.ofNat 12 (0x3B0 + i.val))) z v) s = .next t ∧ t.resp = .ok ∧
      t.rd (L.PMP_ADDR i.val) = v.toNat ∧ Only [L.PMP_ADDR i.val] [] s t := by
  have hn : (BitVec.ofNat 12 (0x3B0 + i.val)).toNat = 0x3B0 + i.val := Nat.mod_eq_of_lt (by omega)
  have hplain : ∀ j : Fin 16, (L.PMP_ADDR j.val).key ∉ lossKeys := by decide
  refine exec_csrStore hd hi hpriv ?_ ?_ ?_ rfl (hplain i) z
  · omega
  · rw [hn]; exact csrRead_pmpAddr i.isLt hpriv
  · rw [hn]; exact csrPut_pmpAddr i.isLt hlock _

/-- Settles O7, clause by clause: a taken write of SYSCTL is a list of field writes, a store to application SRAM goes through the
data cache to its bytes, and what is turned away changes the answer alone. -/
theorem registerWrites : Obligations.RegisterWrites := by
  unfold Obligations.RegisterWrites
  intro s m v hs
  refine ⟨fun ht => write_resumeAddr hs ht v, fun ht hlt => write_rstCause hs ht hlt v, fun ht => write_devid hs ht v,
    fun ht hlt => write_ctrl hs ht hlt v, fun a z hr hal hm hd hi ho => write_sram hs hr hal hm hd hi ho v,
    fun a b o hr hal hc hreach hon ho ha => exec_registerWrite_block hr hal hc hreach hon ho ha,
    fun a z h => write_misaligned hs h m v, fun a z hal h => write_error hs hal h v,
    fun z hd hi hpriv => ⟨write_mcounteren hd hi hpriv z v, fun i hlock => write_pmpAddr hd hi hpriv z v hlock⟩⟩

end Sys2Proof.Safety
end
